-- ==== Sys2Proof/Word.lean ====
section
/-! DEFINITION. The words of the HT412: bytes of the link and of sample memory, and the plainest arithmetic over them. -/

namespace Sys2Proof

/-- One byte: a sample code, an intensity cell, a link byte (00_scope.md, Sample codes; R205). -/
abbrev Byte := BitVec 8

/-- The generation count and the panel clock wrap at 32 bits (R11, R160). -/
abbrev Word32 := BitVec 32

/-- The CRC of R205 and R178. -/
abbrev Word16 := BitVec 16

/-- An instant, or a span of time, in ns of the sample clock. -/
abbrev Instant := Nat

/-- A channel CH1..CH4, counted from 0. -/
abbrev Channel := Fin 4

/-- A trace in the numbering of R3: CH1..CH4 are 0..3, REF1..REF4 are 4..7. -/
abbrev Trace := Fin 8

/-- ceil(a / b) for a positive b (00_scope.md, Arithmetic). -/
def ceilDiv (a b : Nat) : Nat := (a + (b - 1)) / b

/-- clamp(x, a, b) (00_scope.md, Arithmetic). -/
def clampInt (lo hi x : Int) : Int := max lo (min hi x)

/-- One ms, in ns. -/
def oneMs : Instant := 1000000

/-- One µs, in ns. -/
def oneUs : Instant := 1000

end Sys2Proof
end

