-- ==== Sys2Proof/Syntax.lean ====
section
/-! DEFINITION. The commands the HT412 takes: one constructor of `Instr` per row of spec/opcode_table.json.

The table gives no operands and no bits. A request's operands are the TAG and PAYLOAD of the frame that LNK takes
(R205, R208); an event's operands are what the environment brings with it (the bytes received, the codes, the contacts). -/

namespace Sys2Proof

/-- R178: the fourteen areas of the serial flash. -/
inductive FlashArea where
  | headerA
  | headerB
  | slot (n : Fin 11)
  | calibration
  deriving DecidableEq, Repr

/-- R209: a FETCH transaction. `transaction n` is a whole one in which `n` bytes are clocked after the opener. The other
three are its parts, for the cases in which something happens between them (R209, R211, R217): the eighth bit of the
opener, `n` further bytes, and the rising edge of CS. -/
inductive FetchEvent where
  | transaction (n : Nat)
  | select
  | clock (n : Nat)
  | csRise
  deriving DecidableEq, Repr

/-- The commands, in the order of the table. -/
inductive Instr where
  /-- R217: the RESET input goes low. -/
  | powerOnReset
  /-- R217, R218: the RESET input goes high, or start-up runs (log 16); the pages that fail the memory test, and the flash areas whose read is not answered in time. -/
  | startUp (failing : List Nat) (unanswered : List FlashArea)
  /-- R207: a SEND transaction whose bytes after the opener are `bytes`. -/
  | send (bytes : List Byte)
  /-- R209. -/
  | fetch (event : FetchEvent)
  /-- R206: a transaction with these bytes on MOSI, the opener first. -/
  | invalidOpener (mosi : List Byte)
  /-- R208. -/
  | unknownType (type tag : Byte) (payload : List Byte)
  /-- R214. -/
  | status (tag : Byte) (payload : List Byte)
  /-- R215. -/
  | ackConditions (tag : Byte) (payload : List Byte)
  /-- R216. -/
  | routeSet (tag : Byte) (payload : List Byte)
  /-- R217. -/
  | reset (tag : Byte) (payload : List Byte)
  /-- R12. -/
  | setFields (tag : Byte) (payload : List Byte)
  /-- R13. -/
  | getFields (tag : Byte) (payload : List Byte)
  /-- R14. -/
  | defaultSetup (tag : Byte) (payload : List Byte)
  /-- R19: SETU takes the oldest view fallback handed to it. -/
  | viewFallback
  /-- R19, R81: SETU takes the memory correction handed to it. -/
  | memoryCorrection
  /-- R93. -/
  | run (tag : Byte) (payload : List Byte)
  /-- R95. -/
  | stop (tag : Byte) (payload : List Byte)
  /-- R94. -/
  | single (tag : Byte) (payload : List Byte)
  /-- R96. -/
  | force (tag : Byte) (payload : List Byte)
  /-- R33. -/
  | calibrate (tag : Byte) (payload : List Byte)
  /-- R42. -/
  | clearProtect (tag : Byte) (payload : List Byte)
  /-- R63. -/
  | counterRead (tag : Byte) (payload : List Byte)
  /-- R80. -/
  | saveRef (tag : Byte) (payload : List Byte)
  /-- R84. -/
  | clearRef (tag : Byte) (payload : List Byte)
  /-- R86. -/
  | segmentList (tag : Byte) (payload : List Byte)
  /-- R87. -/
  | pageQuery (tag : Byte) (payload : List Byte)
  /-- R88. -/
  | peek (tag : Byte) (payload : List Byte)
  /-- R120. -/
  | clearPersist (tag : Byte) (payload : List Byte)
  /-- R148. -/
  | cursorRead (tag : Byte) (payload : List Byte)
  /-- R150. -/
  | ovFill (tag : Byte) (payload : List Byte)
  /-- R151. -/
  | ovText (tag : Byte) (payload : List Byte)
  /-- R150. -/
  | ovClear (tag : Byte) (payload : List Byte)
  /-- R154. -/
  | ovShow (tag : Byte) (payload : List Byte)
  /-- R152. -/
  | glyphLoad (tag : Byte) (payload : List Byte)
  /-- R153. -/
  | paletteSet (tag : Byte) (payload : List Byte)
  /-- R163. -/
  | keyBind (tag : Byte) (payload : List Byte)
  /-- R166. -/
  | encBind (tag : Byte) (payload : List Byte)
  /-- R174. -/
  | ledSet (tag : Byte) (payload : List Byte)
  /-- R172. -/
  | panelLock (tag : Byte) (payload : List Byte)
  /-- R173. -/
  | panelBlank (tag : Byte) (payload : List Byte)
  /-- R176. -/
  | beep (tag : Byte) (payload : List Byte)
  /-- R184. -/
  | storeSave (tag : Byte) (payload : List Byte)
  /-- R185. -/
  | storeRecall (tag : Byte) (payload : List Byte)
  /-- R186. -/
  | storeErase (tag : Byte) (payload : List Byte)
  /-- R187. -/
  | storeProtect (tag : Byte) (payload : List Byte)
  /-- R193. -/
  | storeList (tag : Byte) (payload : List Byte)
  /-- R188. -/
  | storePowerOn (tag : Byte) (payload : List Byte)
  /-- R189. -/
  | calSave (tag : Byte) (payload : List Byte)
  /-- R196. -/
  | xferStart (tag : Byte) (payload : List Byte)
  /-- R201. -/
  | xferAbort (tag : Byte) (payload : List Byte)
  /-- R41: the overload sense of a channel becomes active with its termination relay at OHM50. -/
  | trip (ch : Channel)
  /-- R42. -/
  | overloadSenseInactive (ch : Channel)
  /-- R44. -/
  | clockLoss
  /-- R44. -/
  | clockLockReturn
  /-- R30. -/
  | settleTimerExpiry
  /-- R35: the step has summed its 256 raw codes, to `sum` (log 8). -/
  | calStep (sum : Nat)
  /-- R48, R31, R101: the raw codes of the four ADCs and the EXT reading at one sample-clock instant. -/
  | sampleCode (c1 c2 c3 c4 : Byte) (ext : Bool)
  /-- R56. -/
  | holdoffEnd
  /-- R58. -/
  | autoWaitExpiry
  /-- R60. -/
  | triggerPulseEnd
  /-- R60. -/
  | triggeredIndicationEnd
  /-- R62. -/
  | gateEnd
  /-- R64. -/
  | auxSquareWaveToggle
  /-- R83. -/
  | copyEnd
  /-- R124. -/
  | renderPassEnd
  /-- R138. -/
  | decayExpiry
  /-- R140. -/
  | frameStart
  /-- R156. -/
  | backlightPeriodStart
  /-- R158: the eight key contacts of the row; bit c is set while the key of column c is down. -/
  | rowSlot (contacts : Byte)
  /-- R160: the key whose hold deadline is reached. -/
  | holdDeadline (key : Fin 64)
  /-- R165: line A and line B of the twelve encoders; bit e is encoder e. -/
  | encoderSample (lineA lineB : BitVec 12)
  /-- R171. -/
  | panelReportOffer
  /-- R175. -/
  | blinkToggle
  /-- R176. -/
  | beeperEnd
  /-- R182. -/
  | eraseStepEnd
  /-- R182. -/
  | programStepEnd
  /-- R182, R186: whether the read-back agrees with what the area should hold. -/
  | verifyStepEnd (agrees : Bool)
  /-- R185. -/
  | readStepEnd
  /-- R182. -/
  | stepTimeout
  /-- R190. -/
  | autosaveExpiry
  /-- R198. -/
  | chunkReadEnd
  /-- R199. -/
  | data
  /-- R200. -/
  | xferEnd
  /-- R41, R42: the overload sense of a channel becomes active with its termination relay at MEG1. -/
  | overloadSenseActive (ch : Channel)
  deriving DecidableEq, Repr

end Sys2Proof
end

