-- ==== Sys2Proof/Config.lean ====
section
/-! DEFINITION. What the part fixes (sizes and times the spec states once) and the free values: the opaque constants that
stand for what the spec leaves open. Nothing in Lean can evaluate a free value; it is applied to `State.fresh`, which each draw advances. -/

namespace Sys2Proof.Config

/-- Pages of the sample memory (R66). -/
def pageCount : Nat := 2048
/-- Samples, one byte each, of a page (R66). -/
def pageSize : Nat := 4096
/-- Places of the outbound queue (R210). -/
def outboundSize : Nat := 64
/-- Places of the inbound queue (R207). -/
def inboundSize : Nat := 4
/-- Records the segment table can hold (R70). -/
def tableSize : Nat := 1024
/-- Places of the render queue (R117). -/
def renderQueueSize : Nat := 8
/-- Places of the key event queue (R162). -/
def keyQueueSize : Nat := 32
/-- Places of the hold list (R149). -/
def holdSize : Nat := 8
/-- Columns and rows of the waveform area (R115, R141). -/
def columns : Nat := 700
/-- Rows of the waveform area (R115, R141). -/
def rows : Nat := 400
/-- Screen width in pixels (R149). -/
def screenWidth : Nat := 800
/-- Screen height in pixels (R149). -/
def screenHeight : Nat := 480
/-- Samples of a full DATA chunk (R198). -/
def chunkSize : Nat := 512
/-- The longest payload of a frame (R205). -/
def maxPayload : Nat := 1024

/-- R182: after a failed step the area being written is 'of unknown content'; R191: so is an area whose erase or program a
reset interrupted, within the limits the rule sets. FREE VALUE (log 9): `none` is erased. -/
opaque unknownContent : Nat → Option (List Byte)

/-- R191 tells 'before ERASE began' and 'after ERASE before PROGRAM' from the steps themselves; whether the step that the engine
stands at had begun in the flash when a reset came. FREE VALUE (log 9). -/
opaque stepHadBegun : Nat → Bool

/-- R184, R190: 'the directory's save count plus 1', where that exceeds the range 1..4,294,967,295 of R179. FREE VALUE (log 10). -/
opaque saveCountPastRange : Nat → Word32

end Sys2Proof.Config
end

