-- ==== Sys2Proof/Machine/Fields.lean ====
section
/-! DEFINITION. The setup record: the field table of R2, the value form of R3, and the named views of the fields that the
blocks read. -/

namespace Sys2Proof.Machine

/-- R1: the kinds of field, each with its range. -/
inductive FieldKind where
  /-- `choices` listed choices, coded from 0. -/
  | enum (choices : Nat)
  /-- an index 0..`top`. -/
  | index (top : Nat)
  | number (lo hi : Int)
  | seq
  | order
  deriving DecidableEq, Repr

/-- R1, section 1.7: when a change takes effect in its consumer. -/
inductive ApplyClass where
  | capture
  | trigger
  | acq
  | display
  | immediate
  deriving DecidableEq, Repr

/-- R1: a field has an id, a kind with its range, a default and an apply class. -/
structure FieldSpec where
  id : Nat
  kind : FieldKind
  deflt : Int
  cls : ApplyClass
  deriving DecidableEq, Repr

/-- R2: the largest record length, N = 1,048,576, which bounds the view fields at the pair check (R5). -/
def largestN : Int := 1048576

/-- R2: the eight fields of channel n, counted from 0; ids 16(n + 1) + k. -/
def channelFields (n : Nat) : List FieldSpec :=
  [ ⟨16 * (n + 1) + 0, .enum 2, if n = 0 then 1 else 0, .capture⟩,
    ⟨16 * (n + 1) + 1, .index 12, 9, .capture⟩,
    ⟨16 * (n + 1) + 2, .number 64 128, 64, .display⟩,
    ⟨16 * (n + 1) + 3, .number (-400) 400, 0, .display⟩,
    ⟨16 * (n + 1) + 4, .enum 3, 0, .capture⟩,
    ⟨16 * (n + 1) + 5, .enum 2, 0, .capture⟩,
    ⟨16 * (n + 1) + 6, .enum 2, 0, .capture⟩,
    ⟨16 * (n + 1) + 7, .enum 2, 0, .display⟩ ]

/-- R2: the acquisition fields. -/
def acquisitionFields : List FieldSpec :=
  [ ⟨80, .index 10, 4, .capture⟩,
    ⟨81, .index 21, 6, .capture⟩,
    ⟨82, .number 0 1000, 500, .capture⟩,
    ⟨83, .enum 2, 0, .acq⟩,
    ⟨84, .number 0 1024, 0, .acq⟩,
    ⟨85, .enum 2, 0, .acq⟩,
    ⟨86, .enum 2, 0, .acq⟩ ]

/-- R2: the trigger fields. -/
def triggerFields : List FieldSpec :=
  [ ⟨96, .enum 5, 0, .trigger⟩,
    ⟨97, .enum 2, 0, .trigger⟩,
    ⟨98, .enum 3, 0, .trigger⟩,
    ⟨99, .number 0 255, 128, .trigger⟩,
    ⟨100, .number 1 32, 4, .trigger⟩,
    ⟨101, .enum 2, 0, .trigger⟩,
    ⟨102, .number 2 1000000000, 1000, .trigger⟩,
    ⟨103, .number 0 4000000000, 0, .trigger⟩,
    ⟨104, .number 10 2000, 40, .acq⟩,
    ⟨105, .enum 2, 1, .trigger⟩,
    ⟨106, .enum 4, 0, .immediate⟩ ]

/-- R3: the default trace_order, bytes 0..7 from the most significant end. -/
def defaultTraceOrder : Int := 0x0001020304050607

/-- R2: the display fields. The ranges of view_start and view_span are those of the pair check (R5); the default of
view_span is the default N. -/
def displayFields : List FieldSpec :=
  [ ⟨112, .enum 2, 0, .display⟩,
    ⟨113, .seq, 0, .display⟩,
    ⟨114, .number 0 (largestN - 70), 0, .display⟩,
    ⟨115, .number 70 largestN, 16384, .display⟩,
    ⟨116, .enum 3, 0, .display⟩,
    ⟨117, .number 20 10000, 200, .display⟩,
    ⟨118, .number 1 255, 32, .display⟩,
    ⟨119, .number 1 64, 16, .display⟩,
    ⟨120, .enum 2, 1, .display⟩,
    ⟨121, .enum 3, 0, .display⟩,
    ⟨122, .number 0 255, 200, .display⟩,
    ⟨123, .order, defaultTraceOrder, .display⟩,
    ⟨124, .enum 4, 0, .display⟩,
    ⟨125, .enum 8, 0, .display⟩,
    ⟨126, .number 0 699, 175, .display⟩,
    ⟨127, .number 0 699, 525, .display⟩,
    ⟨128, .number 0 399, 100, .display⟩,
    ⟨129, .number 0 399, 300, .display⟩ ]

/-- R2: the three fields of reference trace REFn, n counted from 0; ids 144 + 4n + k. -/
def referenceFields (n : Nat) : List FieldSpec :=
  [ ⟨144 + 4 * n + 0, .enum 2, 0, .display⟩,
    ⟨144 + 4 * n + 1, .number (-400) 400, 0, .display⟩,
    ⟨144 + 4 * n + 2, .number 64 128, 64, .display⟩ ]

/-- R2: the panel fields. -/
def panelFields : List FieldSpec :=
  [ ⟨160, .number 0 255, 160, .immediate⟩,
    ⟨161, .enum 2, 1, .immediate⟩,
    ⟨162, .enum 2, 1, .immediate⟩ ]

/-- R2: the 83 fields in ascending id. -/
def fieldTable : List FieldSpec :=
  channelFields 0 ++ channelFields 1 ++ channelFields 2 ++ channelFields 3 ++ acquisitionFields ++ triggerFields
    ++ displayFields ++ referenceFields 0 ++ referenceFields 1 ++ referenceFields 2 ++ referenceFields 3 ++ panelFields

/-- R2: the place of a field id in `fieldTable`; `none` for an unknown field id. -/
def fieldIndex? (id : Nat) : Option (Fin 83) :=
  if h : 16 ≤ id ∧ id < 80 ∧ id % 16 < 8 then some ⟨8 * (id / 16 - 1) + id % 16, by omega⟩
  else if h : 80 ≤ id ∧ id ≤ 86 then some ⟨32 + (id - 80), by omega⟩
  else if h : 96 ≤ id ∧ id ≤ 106 then some ⟨39 + (id - 96), by omega⟩
  else if h : 112 ≤ id ∧ id ≤ 129 then some ⟨50 + (id - 112), by omega⟩
  else if h : 144 ≤ id ∧ id < 160 ∧ (id - 144) % 4 < 3 then some ⟨68 + 3 * ((id - 144) / 4) + (id - 144) % 4, by omega⟩
  else if h : 160 ≤ id ∧ id ≤ 162 then some ⟨80 + (id - 160), by omega⟩
  else none

/-- R2: whether an id is that of a field. -/
def knownField (id : Nat) : Bool := (fieldIndex? id).isSome

/-- The row of the field table with this id. -/
def fieldSpec? (id : Nat) : Option FieldSpec :=
  match fieldIndex? id with
  | some i => fieldTable[i.val]?
  | none => none

/-- R2: the 83 ids in ascending order. -/
def fieldIds : List Nat := fieldTable.map (·.id)

/-- R1: the active setup, a value for each of the 83 fields in ascending field id, in the form of R3. -/
structure Setup where
  vals : Vector Int 83
  deriving DecidableEq, Repr

/-- The value of a field; 0 for an id that is no field's (no rule reads one). -/
def Setup.get (r : Setup) (id : Nat) : Int :=
  match fieldIndex? id with
  | some i => r.vals[i]
  | none => 0

/-- Write one field; an id that is no field's writes nothing. -/
def Setup.set (r : Setup) (id : Nat) (v : Int) : Setup :=
  match fieldIndex? id with
  | some i => ⟨r.vals.set i v⟩
  | none => r

/-- Write a list of fields, first to last. -/
def Setup.setAll (r : Setup) (ws : List (Nat × Int)) : Setup :=
  ws.foldl (fun a w => a.set w.1 w.2) r

/-- The fields of a setup in ascending id, each with its value. -/
def Setup.toPairs (r : Setup) : List (Nat × Int) := fieldIds.map (fun i => (i, r.get i))

/-- R2: every field at its default. -/
def defaultSetup : Setup := ⟨⟨(fieldTable.map (·.deflt)).toArray, rfl⟩⟩

/-- R2: the id of field k of channel n. -/
def chField (n : Channel) (k : Nat) : Nat := 16 * (n.val + 1) + k

/-- R2: the id of field k of reference n. -/
def refField (n : Fin 4) (k : Nat) : Nat := 144 + 4 * n.val + k

/-- The four channels in ascending order. -/
def channels : List Channel := [0, 1, 2, 3]

/-- Whether channel n's enabled field is ON. -/
def Setup.enabled (r : Setup) (n : Channel) : Bool := r.get (chField n 0) == 1
/-- Channel n's scale index. -/
def Setup.scale (r : Setup) (n : Channel) : Nat := (r.get (chField n 1)).toNat
/-- Whether channel n's termination field is OHM50. -/
def Setup.isOhm50 (r : Setup) (n : Channel) : Bool := r.get (chField n 5) == 1
/-- R2: N = 1024 × 2^i for record_length index i. -/
def recordN (i : Nat) : Nat := 1024 * 2 ^ i
/-- The record length N in samples. -/
def Setup.n (r : Setup) : Nat := recordN (r.get 80).toNat
/-- R98: the sample interval of decimation index i, in ns: c × 10^floor(i / 3), c = 1, 2, 5. -/
def sampleInterval (i : Nat) : Nat :=
  (if i % 3 = 0 then 1 else if i % 3 = 1 then 2 else 5) * 10 ^ (i / 3)
/-- R2, R90: P = floor(N × pretrigger / 1000). -/
def Setup.p (r : Setup) : Nat := r.n * (r.get 82).toNat / 1000
/-- view_mode is FIXED. -/
def Setup.viewFixed (r : Setup) : Bool := r.get 112 == 1
/-- view_seq. -/
def Setup.viewSeq (r : Setup) : Nat := (r.get 113).toNat
/-- view_start. -/
def Setup.viewStart (r : Setup) : Nat := (r.get 114).toNat
/-- view_span. -/
def Setup.viewSpan (r : Setup) : Nat := (r.get 115).toNat
/-- The channel set: the channels whose enabled field is ON (R98). -/
def Setup.channelSet (r : Setup) : Vector Bool 4 := Vector.ofFn (fun n => r.enabled n)
/-- E of R10: the number of channels whose enabled field is ON. -/
def Setup.enabledCount (r : Setup) : Nat := (channels.filter (r.enabled ·)).length
/-- R10: the pages a setup needs, E × ceil(N / 4096). -/
def Setup.pagesNeeded (r : Setup) : Nat := r.enabledCount * ceilDiv r.n Config.pageSize

/-- R3: the eight bytes of a trace_order value, topmost trace first. -/
def traceOrderBytes (v : Int) : List Nat :=
  [7, 6, 5, 4, 3, 2, 1, 0].map (fun k => (v / (256 : Int) ^ k % 256).toNat)

/-- R5: the value lies in the eight-byte form and its bytes are the trace numbers 0..7, each once. -/
def isTraceOrder (v : Int) : Bool :=
  decide (0 ≤ v) && decide (v < 2 ^ 63) && (List.range 8).all (fun t => (traceOrderBytes v).contains t)

end Sys2Proof.Machine
end

