-- ==== Sys2Proof/Machine/Types.lean ====
section
/-! DEFINITION. The names and records the blocks keep: enumerations in the order in which the rule that defines them first
names their choices (R205 sends an enumerated item as its position in that order), and the pieces State is made of. -/

namespace Sys2Proof.Machine

/-! ### Setup Unit -/

/-- R4: the origin of a change set. -/
inductive Origin where
  | host | panel | deflt | recall | device
  deriving DecidableEq, Repr

/-- R7: the outcome of a pair. -/
inductive PairOutcome where
  | applied | clamped | refused
  deriving DecidableEq, Repr

/-! ### Front End Controller -/

/-- R26: attenuator. -/
inductive Atten where
  | div1 | div100
  deriving DecidableEq, Repr
/-- R26: coupling relay. -/
inductive Coupling where
  | dc | ac | gnd
  deriving DecidableEq, Repr
/-- R26: termination relay, and the effective termination. -/
inductive Term where
  | meg1 | ohm50
  deriving DecidableEq, Repr
/-- R26: bandwidth filter. -/
inductive Bandwidth where
  | full | bw20
  deriving DecidableEq, Repr

/-- R26: the drive state of one channel. `power` is ON and `groundClosed` is CLOSED when true. -/
structure Drive where
  power : Bool
  atten : Atten
  gain : Nat
  coupling : Coupling
  term : Term
  bandwidth : Bandwidth
  groundClosed : Bool
  deriving DecidableEq, Repr

/-- FEC's state (chapter 2). -/
structure Fec where
  drive : Vector Drive 4
  /-- R40: the protect latches; true is SET. -/
  latch : Vector Bool 4
  /-- R29: the settle timer; `none` is IDLE, `some d` RUNNING with deadline d. -/
  settle : Option Instant
  /-- R31: the live calibration table, channel-major. -/
  live : Vector Int 52
  tableValid : Bool
  /-- R34: the staged table. -/
  staged : Vector Int 52
  /-- R34: the calibration step in progress, 13 × channel + scale; `none` while no procedure runs. -/
  calStep : Option (Fin 52)
  /-- R35: the sum of the raw codes that the step has taken, and how many they are. -/
  calSum : Nat
  calCodes : Nat
  /-- R41: the overload-sense inputs; true is active. -/
  sense : Vector Bool 4
  /-- R44: the lock indication input; true is locked. -/
  lockPin : Bool
  /-- R44: the monitor state; true is LOCKED. -/
  locked : Bool
  deriving DecidableEq, Repr

/-! ### Trigger Unit -/

/-- The trigger source (field 96). -/
inductive TrigSource where
  | channel (n : Channel)
  | ext
  deriving DecidableEq, Repr
/-- The slope field (98). -/
inductive Slope where
  | rise | fall | either
  deriving DecidableEq, Repr

/-- R46: the held copy of the nine TRIGGER-class fields. -/
structure TrigSettings where
  source : TrigSource
  /-- type: true is PULSE, false EDGE. -/
  pulse : Bool
  slope : Slope
  level : Nat
  hysteresis : Nat
  /-- pulse_cond: true is GREATER, false LESS. -/
  greater : Bool
  pulseLimit : Nat
  holdoff : Nat
  /-- counter_gate: true is G1000, false G100. -/
  gate1000 : Bool
  deriving DecidableEq, Repr

/-- R52: an OPEN pulse: its polarity and the instant of its opening. -/
structure OpenPulse where
  positive : Bool
  opened : Instant
  deriving DecidableEq, Repr

/-- R62: the counter result. -/
structure CounterResult where
  valid : Bool
  count : Nat
  gate1000 : Bool
  read : Bool
  overrun : Bool
  deriving DecidableEq, Repr

/-- TRG's state (chapter 3). -/
structure Trg where
  held : TrigSettings
  changeHeld : Bool
  /-- R48: the comparator; true is HIGH. -/
  high : Bool
  /-- R50: the next code or reading seeds the comparator. -/
  seedPending : Bool
  /-- R49: the code the threshold DAC holds. -/
  dac : Nat
  /-- R52: `none` is IDLE. -/
  qualifier : Option OpenPulse
  /-- R56: `none` is IDLE, `some t` RUNNING since instant t. -/
  holdoff : Option Instant
  /-- R57: `none` is IDLE, `some d` RUNNING with deadline d. -/
  autoWait : Option Instant
  /-- R60: `none` is IDLE, `some e` RUNNING until e. -/
  pulse : Option Instant
  /-- R60: `none` is OFF, `some e` ON until e. -/
  indication : Option Instant
  /-- R61: the instant the gate began. -/
  gateStart : Instant
  /-- R61: the running count. -/
  count : Nat
  result : CounterResult
  /-- R64: the phase of the AUX square wave; true is HIGH. -/
  squareHigh : Bool
  squareNext : Instant
  /-- R64: the aux_mode AUX follows (0 COMP, 1 TRIG_OUT, 2 LOW, 3 HIGH); `none` until it is taken at start-up (R65). -/
  auxMode : Option Nat
  deriving DecidableEq, Repr

/-! ### Sample memory -/

/-- R66: the states of a page. -/
inductive PageState where
  | free | filling | held | reference | bad
  deriving DecidableEq, Repr

/-- R66: the owner of a page; for a reference page, whether it stands in the current list (R87). -/
inductive PageOwner where
  | segment (seq : Nat) (ch : Channel)
  | reference (slot : Fin 4) (current : Bool)
  deriving DecidableEq, Repr

/-- R66: a page record. -/
structure PageRecord where
  state : PageState
  owner : Option PageOwner
  index : Option Nat
  deriving DecidableEq, Repr

/-- R71: the states of a segment record. -/
inductive SegState where
  | filling | complete | stale
  deriving DecidableEq, Repr

/-- R78: the holders of a pin. -/
inductive Holder where
  | view | render | transfer | copy
  deriving DecidableEq, Repr

/-- R78: the pin holders of a segment. -/
structure SegPins where
  view : Bool
  render : Bool
  transfer : Bool
  copy : Bool
  deriving DecidableEq, Repr

/-- R70: a segment record. -/
structure SegRec where
  seq : Nat
  state : SegState
  n : Nat
  decimation : Nat
  p : Nat
  origin : Nat
  generation : Word32
  set : Vector Bool 4
  scales : Vector Nat 4
  pages : Vector (List Nat) 4
  triggerTime : Nat
  forced : Bool
  clipped : Vector Bool 4
  pins : SegPins
  deriving DecidableEq, Repr

/-- R72: a capture allocation, with the parameters ACQ has taken from the setup. -/
structure CaptureRequest where
  set : Vector Bool 4
  n : Nat
  decimation : Nat
  p : Nat
  scales : Vector Nat 4
  generation : Word32
  deriving DecidableEq, Repr

/-- R79: the state of a reference slot. -/
inductive RefState where
  | empty | copying | valid
  deriving DecidableEq, Repr

/-- R79: the contents a slot shows. -/
structure RefContents where
  channel : Channel
  seq : Nat
  n : Nat
  decimation : Nat
  scale : Nat
  deriving DecidableEq, Repr

/-- R79: the phases of a copy. -/
inductive CopyPhase where
  | waitSetup | move | waitUnpin
  deriving DecidableEq, Repr

/-- R79: the copy of a COPYING slot. -/
structure RefCopy where
  phase : CopyPhase
  contents : RefContents
  need : Nat
  pages : List Nat
  deriving DecidableEq, Repr

/-- R79: a reference slot. -/
structure RefSlot where
  state : RefState
  contents : Option RefContents
  pages : List Nat
  pinRender : Bool
  pinTransfer : Bool
  copy : Option RefCopy
  deriving DecidableEq, Repr

/-- A sparse store of bytes: (address, byte) pairs, addresses strictly rising, no byte 0; an unlisted address reads 0.
Sample memory, the planes, the overlay buffers and the glyph table are of this type. -/
abbrev Store := List (Nat × Byte)

/-- MEM's state (chapter 4). The page records of R66 are read off these places. -/
structure Mem where
  dram : Store
  bad : List Nat
  pool : List Nat
  table : List SegRec
  seqCounter : Nat
  pendingAlloc : Option CaptureRequest
  refs : Vector RefSlot 4
  deriving DecidableEq, Repr

/-! ### Acquisition Controller -/

/-- R90: the states of ACQ. -/
inductive AcqState where
  | stopped | calibrating | settling | starved | preFill | ready | postFill
  deriving DecidableEq, Repr

/-- R91: the causes of an ACQ_STATE report. -/
inductive AcqCause where
  | request | singleDone | stopAfter | protect | clock
  deriving DecidableEq, Repr

/-- R90: the capture context of the FILLING segment. `phase` is the place of the next sample-clock instant in its group of
d (0 is the group start, R101); `clips` notes, per channel, the stored positions that hold code 0 or 255. -/
structure Capture where
  seq : Nat
  set : Vector Bool 4
  n : Nat
  d : Nat
  p : Nat
  phase : Nat
  ring : Nat
  post : Nat
  trigger : Option Instant
  forced : Bool
  clips : Vector (List Nat) 4
  deriving DecidableEq, Repr

/-- ACQ's state (chapter 5). -/
structure Acq where
  state : AcqState
  runCount : Nat
  lastSeq : Nat
  singlePending : Bool
  forcePending : Bool
  runStart : Option Instant
  ctx : Option Capture
  deriving DecidableEq, Repr

/-! ### Renderer -/

/-- R116: an entry of a column table. -/
structure ColEntry where
  valid : Bool
  minCode : Nat
  maxCode : Nat
  rlo : Nat
  rhi : Nat
  top : Bool
  bottom : Bool
  deriving DecidableEq, Repr

/-- R121: the two kinds of pass. -/
inductive PassKind where
  | redraw | segment
  deriving DecidableEq, Repr

/-- The data of a reference trace during a pass (R122): the record length and page list pinned at its start. -/
structure RefData where
  n : Nat
  pages : List Nat
  deriving DecidableEq, Repr

/-- R121: a running pass: the segment it draws, the references it pinned and the setup values it read at its start. -/
structure Pass where
  kind : PassKind
  seg : Option SegRec
  refs : Vector (Option RefData) 4
  setup : Setup
  deriving DecidableEq, Repr

/-- RND's state (chapter 6). A column table is 700 entries, or empty when every entry is invalid. -/
structure Rnd where
  work : Vector Store 8
  shown : Vector Store 8
  workTab : Vector (List ColEntry) 8
  shownTab : Vector (List ColEntry) 8
  queue : List Nat
  redraw : Bool
  pass : Option Pass
  /-- R137: `none` is IDLE. -/
  decay : Option Instant
  decayPending : Bool
  /-- R126: the seq on which RND holds the VIEW pin. -/
  viewPin : Option Nat
  deriving DecidableEq, Repr

/-! ### Compositor -/

/-- A colour: three components of 0..63 (R142). -/
structure Rgb where
  r : Nat
  g : Nat
  b : Nat
  deriving DecidableEq, Repr

/-- R145: the marker basis. -/
structure MarkerBasis where
  n : Nat
  p : Nat
  start : Nat
  span : Nat
  deriving DecidableEq, Repr

/-- R140, R146: what CMP takes at a frame start. `level*` are the inputs of the trigger level marker. -/
structure FrameContext where
  grid : Nat
  traceOrder : List Nat
  cursorMode : Nat
  cursorSource : Nat
  cursorXa : Nat
  cursorXb : Nat
  cursorYa : Nat
  cursorYb : Nat
  levelSource : TrigSource
  level : Nat
  levelFine : Int
  levelPosition : Int
  levelInvert : Bool
  palette : Vector Rgb 16
  deriving DecidableEq, Repr

/-- R140: the frame being scanned out: everything its pixels are composed from. -/
structure Frame where
  context : FrameContext
  basis : Option MarkerBasis
  overlay : Store
  planes : Vector Store 8
  deriving DecidableEq, Repr

/-- R149: the overlay requests. -/
inductive OverlayKind where
  | fill | text | clear | present | glyphs | palette
  deriving DecidableEq, Repr

/-- R149: an overlay request: its kind, tag and payload. -/
structure OverlayRequest where
  kind : OverlayKind
  tag : Byte
  payload : List Byte
  deriving DecidableEq, Repr

/-- CMP's state (chapter 7). `frame` is `none` until the first frame start. -/
structure Cmp where
  frame : Option Frame
  basis : Option MarkerBasis
  draw : Store
  shown : Store
  glyphs : Store
  palette : Vector Rgb 16
  showPending : Bool
  showTag : Byte
  hold : List OverlayRequest
  heldBacklight : Nat
  blanked : Bool
  duty : Nat
  broughtUp : Instant
  frames : Nat
  periods : Nat
  deriving DecidableEq, Repr

/-! ### Panel Controller -/

/-- R161: the dispositions. -/
inductive Disposition where
  | wake | locked | forwarded | localActed
  deriving DecidableEq, Repr

/-- R170: the kinds of key event. -/
inductive KeyKind where
  | press | hold | release | turn
  deriving DecidableEq, Repr

/-- R159, R160, R161: the state of one key. `holdTaken`: the hold deadline, which falls at the instant of the next row slot, has
been taken before that slot's scan (R160); the HOLD is made in that slot, in its place by key code (R162). -/
structure KeyState where
  down : Bool
  disagree : Nat
  hold : Option Instant
  holdTaken : Bool
  disposition : Option Disposition
  deriving DecidableEq, Repr

/-- R160: a key event; `since` is the instant it was made (R171). -/
structure KeyEvent where
  key : Nat
  kind : KeyKind
  disposition : Disposition
  stamp : Word32
  since : Instant
  deriving DecidableEq, Repr

/-- R164: the local actions. -/
inductive LocalAction where
  | runStop | single | force | clearPersist
  | channelToggle (n : Channel)
  | fieldDefault (e : Fin 12)
  | localRelease | defaultSetup
  deriving DecidableEq, Repr

/-- R163: a key binding. -/
inductive KeyBinding where
  | none | forward
  | action (a : LocalAction)
  deriving DecidableEq, Repr

/-- R166: an encoder binding; `target` is a field id or NONE, `isLocal` the mode LOCAL, `accel` acceleration ON. -/
structure EncBinding where
  target : Option Nat
  isLocal : Bool
  step : Nat
  accel : Bool
  deriving DecidableEq, Repr

/-- R165, R167, R169: the state of one encoder. `last` is the last sampled pair, `acted` the last acted detent (instant,
direction up), `sum` the forward accumulator. -/
structure EncState where
  last : Option (Bool × Bool)
  quarter : Int
  acted : Option (Instant × Bool)
  sum : Int
  since : Instant
  stamp : Word32
  deriving DecidableEq, Repr

/-- R174: the LED sources. -/
inductive LedSource where
  | hostOff | hostOn | hostBlink | running | stopped | singleArmed | triggered
  | channel (n : Channel)
  | remote
  deriving DecidableEq, Repr

/-- R174: what a source makes of an LED. -/
inductive LedLook where
  | lit | blinking | dark
  deriving DecidableEq, Repr

/-- R172: the panel lock. -/
inductive PanelLock where
  | unlocked | remote | lockout
  deriving DecidableEq, Repr

/-- R176: a sound; `click` is kind CLICK, otherwise BEEP. -/
structure Sound where
  frequency : Nat
  until_ : Instant
  click : Bool
  deriving DecidableEq, Repr

/-- R158, R175: the LED drive of the present row slot. -/
structure LedDrive where
  row : Fin 8
  on : Vector Bool 8
  duty : Nat
  deriving DecidableEq, Repr

/-- PNL's state (chapter 8). -/
structure Pnl where
  keys : Vector KeyState 64
  events : List KeyEvent
  bindings : Vector KeyBinding 64
  encs : Vector EncState 12
  encBindings : Vector EncBinding 12
  leds : Vector LedSource 64
  lock : PanelLock
  blanked : Bool
  beeper : Option Sound
  broughtUp : Instant
  blinkOn : Bool
  blinkNext : Instant
  row : Fin 8
  rowNext : Instant
  encNext : Instant
  /-- R162: the contacts of a row slot whose events wait for the encoder sample of the same instant. -/
  contacts : Option Byte
  /-- R162: the lines (A, B) of an encoder sample whose events have their place among those of the row slot of the same instant. -/
  lines : Option (BitVec 12 × BitVec 12)
  /-- `none`: the LEDs are dark (R177: until PNL is brought up). -/
  ledDrive : Option LedDrive
  deriving DecidableEq, Repr

/-! ### Setup Store -/

/-- R179, R181: the state of a slot or of the calibration area in the directory. -/
inductive AreaState where
  | empty | valid | damaged
  deriving DecidableEq, Repr

/-- R179: a slot record. -/
structure SlotRecord where
  format : Nat
  label : List Byte
  saveCount : Word32
  image : List Int
  deriving DecidableEq, Repr

/-- A directory entry; format, label and save count are absent unless the slot is VALID. -/
structure DirEntry where
  state : AreaState
  format : Nat
  label : List Byte
  saveCount : Word32
  deriving DecidableEq, Repr

/-- R180: the power-on source. `user n` is user slot n + 1. -/
inductive PowerSource where
  | last | deflt
  | user (n : Fin 10)
  deriving DecidableEq, Repr

/-- R180: a header record. -/
structure HeaderRecord where
  format : Nat
  writeCount : Word32
  source : PowerSource
  protects : Vector Bool 10
  deriving DecidableEq, Repr

/-- R180: STO's header copy; `inB` says which area holds the newest valid header, when `valid`. -/
structure HeaderCopy where
  valid : Bool
  writeCount : Word32
  source : PowerSource
  protects : Vector Bool 10
  inB : Bool
  deriving DecidableEq, Repr

/-- R183: the operation of a STORE_DONE report. -/
inductive StoreOp where
  | save | recall | erase | protect | powerOn | calSave
  deriving DecidableEq, Repr

/-- R183: the outcome of a STORE_DONE report. -/
inductive StoreOutcome where
  | ok | notFound | damaged | format | failed
  deriving DecidableEq, Repr

/-- R182: why a step failed. -/
inductive StoreCause where
  | noResponse | verify
  deriving DecidableEq, Repr

/-- R183: the slot item of a STORE_DONE report. -/
inductive StoreArg where
  | absent
  | slot (n : Fin 11)
  | source (p : PowerSource)
  deriving DecidableEq, Repr

/-- The operation the store engine carries out, with what it writes. -/
inductive StoreJob where
  | save (slot : Fin 11) (record : SlotRecord)
  | recall (slot : Fin 11)
  | erase (slot : Fin 11)
  | protect (slot : Fin 10) (record : HeaderRecord)
  | powerOn (record : HeaderRecord)
  | calSave (values : List Int)
  deriving DecidableEq, Repr

/-- The steps of the store engine. -/
inductive StoreStep where
  | read | erase | program | verify
  deriving DecidableEq, Repr

/-- R183: a BUSY store engine; `since` is the instant its step began. -/
structure StoreEngine where
  job : StoreJob
  step : StoreStep
  since : Instant
  deriving DecidableEq, Repr

/-- R178: the serial flash; `none` is erased, `some bs` holds the bytes bs. -/
structure Flash where
  headerA : Option (List Byte)
  headerB : Option (List Byte)
  slots : Vector (Option (List Byte)) 11
  calibration : Option (List Byte)
  deriving DecidableEq, Repr

/-- STO's state (chapter 9). -/
structure Sto where
  flash : Flash
  dir : Vector DirEntry 11
  calDir : AreaState
  header : HeaderCopy
  /-- `none` is IDLE. -/
  engine : Option StoreEngine
  fault : Bool
  /-- R190: `none` is IDLE. -/
  autosave : Option Instant
  autosavePending : Bool
  deriving DecidableEq, Repr

/-! ### Transfer Engine -/

/-- R195: the states of the transfer engine. -/
inductive XferState where
  | idle | reading | waiting | ending
  deriving DecidableEq, Repr

/-- R195: the source of a transfer. -/
inductive XferSource where
  | segment (seq : Nat) (ch : Channel)
  | reference (slot : Fin 4)
  deriving DecidableEq, Repr

/-- R195: the transfer context. `aborted` is the outcome once the engine is ENDING. -/
structure XferContext where
  id : Byte
  source : XferSource
  n : Nat
  first : Nat
  count : Nat
  next : Nat
  queued : Nat
  abortPending : Bool
  aborted : Bool
  deriving DecidableEq, Repr

/-- R198: the chunk in hand. -/
structure Chunk where
  offset : Nat
  samples : List Byte
  deriving DecidableEq, Repr

/-- XFR's state (chapter 10). -/
structure Xfr where
  state : XferState
  counter : Byte
  ctx : Option XferContext
  chunk : Option Chunk
  deriving DecidableEq, Repr

/-! ### Link Controller -/

/-- R205, R207: a good frame of the inbound queue. -/
structure LinkFrame where
  type : Byte
  tag : Byte
  payload : List Byte
  deriving DecidableEq, Repr

/-- R217, R218: what caused the last reset. -/
inductive ResetCause where
  | power | soft
  deriving DecidableEq, Repr

/-- R192: the setup source. -/
inductive SetupSource where
  | slot (n : Fin 11)
  | deflt
  deriving DecidableEq, Repr

/-- R206, R207: the causes of LINK_ERROR, in the order of R213's table. -/
inductive LinkCause where
  | opener | length | short | long | crc | overrun
  deriving DecidableEq, Repr

/-- R213: the conditions. -/
inductive Condition where
  | protect (n : Channel)
  | clockFault | linkError | reportLoss | keyOverflow | counterOverrun | storeFault | calInvalid | starved | memReduced
  | inboundFull
  deriving DecidableEq, Repr

/-- R213: the routes. -/
inductive Route where
  | alert | none
  deriving DecidableEq, Repr

/-- R213: the cause details. -/
inductive CauseDetail where
  | absent
  | acqState (s : AcqState)
  | link (c : LinkCause)
  | reportType (code : Byte)
  | key (code : Nat)
  | gate (g1000 : Bool)
  | store (op : StoreOp) (cause : StoreCause)
  | storeStartUp
  | startUp
  | pages (n : Nat)
  | zero
  deriving DecidableEq, Repr

/-- R213: an entry of the condition table. The active flag is read off the owner's state. -/
structure CondEntry where
  latched : Bool
  route : Route
  cause : CauseDetail
  deriving DecidableEq, Repr

/-- R39: the outcomes of calibration. -/
inductive CalOutcome where
  | ok | failed | aborted
  deriving DecidableEq, Repr

/-- R37: what a failed calibration reports. -/
structure CalFailure where
  channel : Channel
  scale : Nat
  value : Int
  deriving DecidableEq, Repr

/-- R127: the causes of VIEW_LOST. -/
inductive ViewLostCause where
  | stale | unavailable
  deriving DecidableEq, Repr

/-- R210: the reports. -/
inductive Report where
  | ready (cause : ResetCause) (goodPages : Nat) (calValid : Bool) (source : SetupSource)
  | condition (c : Condition) (detail : CauseDetail) (active : Bool)
  | setupChanged (id : Nat) (value : Int) (generation : Word32) (origin : Origin)
  | setupReloaded (generation : Word32) (origin : Origin) (slot : Option (Fin 11))
  | acqState (entered left : AcqState) (cause : AcqCause) (runCount lastSeq : Nat)
  | segment (seq : Nat) (forced : Bool) (clipped : Vector Bool 4) (runCount : Nat)
  | calDone (outcome : CalOutcome) (failure : Option CalFailure)
  | refDone (slot : Fin 4) (noRoom : Bool) (seq : Nat) (ch : Channel)
  | viewLost (seq : Nat) (cause : ViewLostCause)
  | key (code : Nat) (kind : KeyKind) (disposition : Disposition) (stamp : Word32)
  | encoder (e : Fin 12) (sum : Int) (stamp : Word32)
  | storeDone (op : StoreOp) (arg : StoreArg) (outcome : StoreOutcome) (generation : Option Word32)
  | data (id : Byte) (offset : Nat) (samples : List Byte)
  | xferEnd (id : Byte) (aborted : Bool) (queued : Nat)
  deriving DecidableEq, Repr

/-- Section 11.7: the reply statuses. -/
inductive Status where
  | ok | accepted | badArg | busy | badState | notFound | noRoom | protectedSlot | stillActive | unknownType
  deriving DecidableEq, Repr

/-- R13: what stands beside a field's value in a GET_FIELDS reply. -/
inductive FieldExtra where
  | nothing
  | termination (effective : Term) (latch : Bool)
  | pretrigger (p : Nat)
  deriving DecidableEq, Repr

/-- R214: one condition of a STATUS reply. -/
structure CondStatus where
  latched : Bool
  active : Bool
  route : Route
  cause : CauseDetail
  deriving DecidableEq, Repr

/-- R214: the busy flags. -/
structure BusyFlags where
  cal : Bool
  copy : Bool
  store : Bool
  xfer : Bool
  render : Bool
  deriving DecidableEq, Repr

/-- R12: an entry of a SET_FIELDS reply. -/
structure PairResult where
  id : Nat
  outcome : PairOutcome
  value : Int
  deriving DecidableEq, Repr

/-- The bodies of the replies, each by the rule of its request. -/
inductive ReplyBody where
  | empty
  /-- R214. -/
  | status (conds : List CondStatus) (acq : AcqState) (busy : BusyFlags)
  /-- R215: the named conditions still latched. -/
  | conditions (cs : List Condition)
  /-- R12. -/
  | setFields (generation : Word32) (pairs : List PairResult) (coupled : List (Nat × Int))
  /-- R13. -/
  | getFields (generation : Word32) (entries : List (Int × FieldExtra))
  /-- R14. -/
  | generation (g : Word32)
  /-- R63. -/
  | counter (valid : Bool) (count : Nat) (gate1000 overrun : Bool)
  /-- R80. -/
  | saveRef (seq need : Nat)
  /-- R86. -/
  | segments (records : List SegRec) (nextSeq : Nat)
  /-- R87, SEGMENT form. -/
  | segmentPage (page : Nat) (state : PageState)
  /-- R87, REFERENCE form. -/
  | referencePage (page : Nat) (state : PageState) (contents : RefContents)
  /-- R87, PHYSICAL form. -/
  | physicalPage (record : PageRecord)
  /-- R88. -/
  | sample (code : Byte)
  /-- R148. -/
  | cursors (source xa : Nat) (a : ColEntry) (xb : Nat) (b : ColEntry)
  /-- R166. -/
  | step (n : Nat)
  /-- R176. -/
  | sound (frequency duration : Nat)
  /-- R193. -/
  | storeList (slots : List (DirEntry × Bool)) (header : HeaderCopy) (cal : AreaState) (engine : Option (StoreOp × StoreArg))
  /-- R197. -/
  | xferStart (id : Byte) (seq : Nat) (ch : Channel) (first count n : Nat)
  deriving DecidableEq, Repr

/-- R208: a reply. -/
structure Reply where
  tag : Byte
  request : Byte
  status : Status
  body : ReplyBody
  deriving DecidableEq, Repr

/-- R210: a record of the outbound queue. -/
inductive Record where
  | reply (r : Reply)
  | report (r : Report)
  deriving DecidableEq, Repr

/-- R209: a FETCH in progress: the bytes being sent, how many are clocked out, whether the selected record still stands
in the queue, and whether it has been updated since its selection. -/
structure FetchTxn where
  bytes : List Byte
  sent : Nat
  selected : Bool
  updated : Bool
  deriving DecidableEq, Repr

/-- LNK's state (chapter 11). -/
structure Lnk where
  startUp : Bool
  /-- R217: the RESET input holds the part in power-on reset. -/
  heldInReset : Bool
  resetCause : ResetCause
  inbound : List LinkFrame
  outbound : List Record
  reservations : Nat
  conds : Vector CondEntry 14
  /-- R213: CONDITION reports of start-up, held until the READY report. -/
  heldReports : List Report
  txn : Option FetchTxn
  /-- R206: the bytes MISO carried after the opener of the last transaction. -/
  miso : List Byte
  deriving DecidableEq, Repr

end Sys2Proof.Machine
end

