-- ==== Sys2Proof/Machine/Codes.lean ====
section
/-! DEFINITION. The code tables of section 11.7 and of R213, and the position codes that R205 gives to enumerated items. -/

namespace Sys2Proof.Machine

/-- Section 11.7: the request codes. -/
def requestCodes : List Byte :=
  [0x10, 0x11, 0x12, 0x13, 0x20, 0x21, 0x22, 0x30, 0x31, 0x32, 0x33, 0x34, 0x35, 0x36, 0x40, 0x41, 0x42, 0x43, 0x44,
   0x50, 0x51, 0x52, 0x53, 0x54, 0x55, 0x56, 0x57, 0x60, 0x61, 0x62, 0x63, 0x64, 0x65,
   0x70, 0x71, 0x72, 0x73, 0x74, 0x75, 0x76, 0x78, 0x79]

/-- R208: whether a TYPE is a request code. -/
def isRequestCode (t : Byte) : Bool := requestCodes.contains t

/-- Section 11.7: the code of a REPLY frame. -/
def replyCode : Byte := 0x80

/-- Section 11.7: the codes of the reports. -/
def reportCode (r : Report) : Byte :=
  match r with
  | .ready .. => 0x81
  | .condition .. => 0x82
  | .setupChanged .. => 0x83
  | .setupReloaded .. => 0x84
  | .acqState .. => 0x85
  | .segment .. => 0x86
  | .calDone .. => 0x87
  | .refDone .. => 0x88
  | .viewLost .. => 0x89
  | .key .. => 0x8A
  | .encoder .. => 0x8B
  | .storeDone .. => 0x8C
  | .data .. => 0x8D
  | .xferEnd .. => 0x8E

/-- Section 11.7: the status codes. -/
def statusCode (s : Status) : Byte :=
  match s with
  | .ok => 0x00
  | .accepted => 0x01
  | .badArg => 0x10
  | .busy => 0x11
  | .badState => 0x12
  | .notFound => 0x13
  | .noRoom => 0x14
  | .protectedSlot => 0x15
  | .stillActive => 0x16
  | .unknownType => 0x17

/-- R213: the code of a condition. -/
def condCode (c : Condition) : Fin 14 :=
  match c with
  | .protect n => ⟨n.val, by omega⟩
  | .clockFault => 4
  | .linkError => 5
  | .reportLoss => 6
  | .keyOverflow => 7
  | .counterOverrun => 8
  | .storeFault => 9
  | .calInvalid => 10
  | .starved => 11
  | .memReduced => 12
  | .inboundFull => 13

/-- R213: the conditions by code. -/
def allConditions : List Condition :=
  [.protect 0, .protect 1, .protect 2, .protect 3, .clockFault, .linkError, .reportLoss, .keyOverflow, .counterOverrun,
   .storeFault, .calInvalid, .starved, .memReduced, .inboundFull]

/-- R4's table. -/
def originCode (o : Origin) : Byte :=
  match o with
  | .host => 0
  | .panel => 1
  | .deflt => 2
  | .recall => 3
  | .device => 4

/-- R7's table. -/
def outcomeCode (o : PairOutcome) : Byte :=
  match o with
  | .applied => 0
  | .clamped => 1
  | .refused => 2

/-- R90's table. -/
def acqCode (a : AcqState) : Byte :=
  match a with
  | .stopped => 0
  | .calibrating => 1
  | .settling => 2
  | .starved => 3
  | .preFill => 4
  | .ready => 5
  | .postFill => 6

/-- R91's table. -/
def acqCauseCode (c : AcqCause) : Byte :=
  match c with
  | .request => 0
  | .singleDone => 1
  | .stopAfter => 2
  | .protect => 3
  | .clock => 4

/-- R39, step 3. -/
def calOutcomeCode (o : CalOutcome) : Byte :=
  match o with
  | .ok => 0
  | .failed => 1
  | .aborted => 2

/-- R170. -/
def keyKindCode (k : KeyKind) : Byte :=
  match k with
  | .press => 0
  | .hold => 1
  | .release => 2
  | .turn => 3

/-- R161's table, in the order of its rows. -/
def dispositionCode (d : Disposition) : Byte :=
  match d with
  | .wake => 0
  | .locked => 1
  | .forwarded => 2
  | .localActed => 3

/-- R183. -/
def storeOpCode (o : StoreOp) : Byte :=
  match o with
  | .save => 0
  | .recall => 1
  | .erase => 2
  | .protect => 3
  | .powerOn => 4
  | .calSave => 5

/-- R183. -/
def storeOutcomeCode (o : StoreOutcome) : Byte :=
  match o with
  | .ok => 0
  | .notFound => 1
  | .damaged => 2
  | .format => 3
  | .failed => 4

/-- R182. -/
def storeCauseCode (c : StoreCause) : Byte :=
  match c with
  | .noResponse => 0
  | .verify => 1

/-- R213's row of LINK_ERROR. -/
def linkCauseCode (c : LinkCause) : Byte :=
  match c with
  | .opener => 0
  | .length => 1
  | .short => 2
  | .long => 3
  | .crc => 4
  | .overrun => 5

/-- R66's table. -/
def pageStateCode (p : PageState) : Byte :=
  match p with
  | .free => 0
  | .filling => 1
  | .held => 2
  | .reference => 3
  | .bad => 4

/-- R70. -/
def segStateCode (p : SegState) : Byte :=
  match p with
  | .filling => 0
  | .complete => 1
  | .stale => 2

/-- R179's table. -/
def areaStateCode (p : AreaState) : Byte :=
  match p with
  | .empty => 0
  | .valid => 1
  | .damaged => 2

/-- A flag, CLEAR 0 and SET 1 (log 12). -/
def flagCode (b : Bool) : Byte := if b then 1 else 0

end Sys2Proof.Machine
end

