-- ==== Sys2Proof/Machine/Defaults.lean ====
section
/-! DEFINITION. What each block holds after a reset: the table that closes its chapter (R25, R45, R65, R89, R114, R139, R157,
R177, R194, R204, R217). Where a table leaves an item to start-up, the value it has until then is the model's (log 4). -/

namespace Sys2Proof.Machine

/-- R45; the items the power-on setup gives are DESIGN CHOICE values until start-up applies it (log 4). -/
def driveReset : Drive := ⟨false, .div1, 0, .dc, .meg1, .full, false⟩

/-- R45. The two kinds of pin keep their levels through a reset. -/
def fecReset (sense : Vector Bool 4) (lockPin : Bool) : Fec :=
  { drive := .replicate 4 driveReset, latch := .replicate 4 false, settle := none, live := .replicate 52 0,
    tableValid := false, staged := .replicate 52 0, calStep := none, calSum := 0,
    calCodes := 0, sense := sense, lockPin := lockPin, locked := lockPin }

/-- The held settings of the default setup (log 4: TRG takes the record's at start-up, R65). -/
def trigSettingsReset : TrigSettings := ⟨.channel 0, false, .rise, 128, 4, false, 1000, 0, true⟩

/-- R65. -/
def trgReset : Trg :=
  { held := trigSettingsReset, changeHeld := false, high := false, seedPending := false, dac := 128, qualifier := none,
    holdoff := none, autoWait := none, pulse := none, indication := none, gateStart := 0, count := 0,
    result := ⟨false, 0, true, false, false⟩, squareHigh := false, squareNext := 0, auxMode := none }

/-- R79: an EMPTY slot. -/
def refEmpty : RefSlot := ⟨.empty, none, [], false, false, none⟩

/-- R89. Sample memory and the BAD set stand as they are; the pool is filled at start-up (R218 step 1). -/
def memReset (dram : Store) (bad : List Nat) : Mem :=
  { dram := dram, bad := bad, pool := [], table := [], seqCounter := 1, pendingAlloc := none, refs := .replicate 4 refEmpty }

/-- R114. -/
def acqReset : Acq := ⟨.stopped, 0, 0, false, false, none, none⟩

/-- R139. -/
def rndReset : Rnd :=
  { work := .replicate 8 [], shown := .replicate 8 [], workTab := .replicate 8 [], shownTab := .replicate 8 [], queue := [],
    redraw := true, pass := none, decay := none, decayPending := false, viewPin := none }

/-- R153: the default palette; entry 0 is transparent and its components are never used. -/
def defaultPalette : Vector Rgb 16 :=
  #v[⟨0, 0, 0⟩, ⟨0, 0, 0⟩, ⟨63, 63, 63⟩, ⟨32, 32, 32⟩, ⟨16, 16, 16⟩, ⟨63, 0, 0⟩, ⟨0, 63, 0⟩, ⟨0, 0, 63⟩,
     ⟨63, 63, 0⟩, ⟨0, 63, 63⟩, ⟨63, 0, 63⟩, ⟨63, 32, 0⟩, ⟨32, 48, 63⟩, ⟨32, 0, 0⟩, ⟨0, 32, 0⟩, ⟨0, 0, 32⟩]

/-- R157. -/
def cmpReset : Cmp :=
  { frame := none, basis := none, draw := [], shown := [], glyphs := [], palette := defaultPalette, showPending := false,
    showTag := 0, hold := [], heldBacklight := 0, blanked := false, duty := 0, broughtUp := 0, frames := 0, periods := 0 }

/-- R163: the default binding of a key. -/
def defaultBinding (key : Nat) : KeyBinding :=
  match key with
  | 0 => .action .runStop
  | 1 => .action .single
  | 2 => .action .force
  | 3 => .action .clearPersist
  | 4 => .action (.channelToggle 0)
  | 5 => .action (.channelToggle 1)
  | 6 => .action (.channelToggle 2)
  | 7 => .action (.channelToggle 3)
  | 8 => .action .localRelease
  | 9 => .action .defaultSetup
  | 56 => .action (.fieldDefault 4)
  | 57 => .action (.fieldDefault 5)
  | 58 => .action (.fieldDefault 6)
  | 59 => .action (.fieldDefault 7)
  | 62 => .action (.fieldDefault 10)
  | _ => .forward

/-- R166: the default binding of an encoder. -/
def defaultEncBinding (e : Nat) : EncBinding :=
  match e with
  | 0 => ⟨some 17, true, 1, false⟩
  | 1 => ⟨some 33, true, 1, false⟩
  | 2 => ⟨some 49, true, 1, false⟩
  | 3 => ⟨some 65, true, 1, false⟩
  | 4 => ⟨some 19, true, 1, true⟩
  | 5 => ⟨some 35, true, 1, true⟩
  | 6 => ⟨some 51, true, 1, true⟩
  | 7 => ⟨some 67, true, 1, true⟩
  | 8 => ⟨some 81, true, 1, false⟩
  | 9 => ⟨some 114, true, 1, true⟩
  | 10 => ⟨some 99, true, 1, true⟩
  | _ => ⟨none, false, 1, false⟩

/-- R174: the default source of an LED. -/
def defaultLed (n : Nat) : LedSource :=
  match n with
  | 0 => .running
  | 1 => .stopped
  | 2 => .singleArmed
  | 3 => .triggered
  | 4 => .channel 0
  | 5 => .channel 1
  | 6 => .channel 2
  | 7 => .channel 3
  | 8 => .remote
  | _ => .hostOff

/-- R177. -/
def pnlReset : Pnl :=
  { keys := .replicate 64 ⟨false, 0, none, false, none⟩, events := [], bindings := .ofFn (fun k => defaultBinding k.val),
    encs := .replicate 12 ⟨none, 0, none, 0, 0, 0⟩, encBindings := .ofFn (fun e => defaultEncBinding e.val),
    leds := .ofFn (fun l => defaultLed l.val), lock := .unlocked, blanked := false, beeper := none, broughtUp := 0,
    blinkOn := true, blinkNext := 0, row := 0, rowNext := 0, encNext := 0, contacts := none, lines := none,
    ledDrive := none }

/-- R180: the header copy where neither header area is valid. -/
def headerNone : HeaderCopy := ⟨false, 0, .deflt, .replicate 10 false, false⟩

/-- A directory entry without a record. -/
def dirNone (st : AreaState) : DirEntry := ⟨st, 0, [], 0⟩

/-- R194; the directory and the header copy are rebuilt by start-up (log 4). -/
def stoReset (flash : Flash) : Sto :=
  { flash := flash, dir := .replicate 11 (dirNone .empty), calDir := .empty, header := headerNone, engine := none,
    fault := false, autosave := none, autosavePending := false }

/-- R204. -/
def xfrReset : Xfr := ⟨.idle, 0, none, none⟩

/-- R213: the default route of each condition, by code. -/
def defaultRoute (code : Nat) : Route := if code ≤ 4 ∨ code = 9 then .alert else .none

/-- R217: the condition table after a reset. -/
def condsReset : Vector CondEntry 14 := .ofFn (fun c => ⟨false, defaultRoute c.val, .absent⟩)

/-- R217, of either reset; whether the RESET input still holds the part, and the transaction in progress, are the caller's. -/
def lnkReset (cause : ResetCause) (held : Bool) (txn : Option FetchTxn) (miso : List Byte) : Lnk :=
  { startUp := true, heldInReset := held, resetCause := cause, inbound := [], outbound := [],
    reservations := 0, conds := condsReset, heldReports := [], txn := txn, miso := miso }

end Sys2Proof.Machine
end

