-- ==== Sys2Proof/Machine/State.lean ====
section
/-! DEFINITION. The state of the HT412: what the spec gives each block, the queue of waiting commands, the present instant and
the count of free values drawn; and its value after power-on reset. -/

namespace Sys2Proof.Machine

/-- The whole state. `pending`, `now` and `fresh` are the model's own fields (logs 1, 2, 3); every other field is a block's. -/
structure State where
  /-- the commands waiting, first in, first out. -/
  pending : List Instr
  /-- the present sample-clock instant, in ns. -/
  now : Instant
  /-- how many free values have been drawn. -/
  fresh : Nat
  /-- SETU: the active setup (R1). -/
  setup : Setup
  /-- SETU: the generation (R11). -/
  generation : Word32
  /-- SETU: the seqs of the view fallbacks handed over and not yet taken (R19, R127). -/
  fallbacks : List Nat
  fec : Fec
  trg : Trg
  mem : Mem
  acq : Acq
  rnd : Rnd
  cmp : Cmp
  pnl : Pnl
  sto : Sto
  xfr : Xfr
  lnk : Lnk
  deriving DecidableEq, Repr

/-- The faults. The spec names nothing that stops the part (INVENTORY.md, Faults), so there is no constructor and no
command can end in one. -/
inductive Fault where
  deriving DecidableEq, Repr

/-- The refusals. -/
inductive Refusal where
  /-- Raised by `exec` for a command that has no meaning in the model. Safe: nothing can be proved of what it does. -/
  | notModelled (mnemonic : String)
  deriving DecidableEq, Repr

/-- A serial flash that nothing has written: every area erased (DESIGN CHOICE, log 7). -/
def flashErased : Flash := ⟨none, none, .replicate 11 none, none⟩

/-- R217, R218: the part right after power-on reset: the RESET input is high again and start-up has not run yet (log 16). -/
def State.reset : State :=
  { pending := [], now := 0, fresh := 0, setup := defaultSetup, generation := 0, fallbacks := [],
    fec := fecReset (.replicate 4 false) true, trg := trgReset, mem := memReset [] [], acq := acqReset, rnd := rndReset,
    cmp := cmpReset, pnl := pnlReset, sto := stoReset flashErased, xfr := xfrReset, lnk := lnkReset .power false none [] }

end Sys2Proof.Machine
end

