-- ==== Sys2Proof/Machine/Ops.lean ====
section
/-! DEFINITION. The named operations shared by the blocks: the sparse store of bytes (sample memory, planes, buffers), byte
order, the CRC of R205, the outbound queue's free count, and time. -/

namespace Sys2Proof.Machine

/-! ### Vectors -/

/-- Replace the entry at `i` by `f` of it. -/
def vmod {α : Type} {n : Nat} (v : Vector α n) (i : Fin n) (f : α → α) : Vector α n := v.set i (f v[i])

/-! ### The sparse store -/

/-- What an address reads: the listed byte, or 0 (R115, R149, R152 for cells and buffers; log 6 for sample memory). -/
def storeRead (m : Store) (a : Nat) : Byte :=
  match m with
  | [] => 0
  | (k, v) :: rest => if k = a then v else storeRead rest a

/-- Put an entry, keeping the addresses rising and replacing an entry at the same address. -/
def storePut (m : Store) (a : Nat) (b : Byte) : Store :=
  match m with
  | [] => [(a, b)]
  | (k, v) :: rest =>
    if a < k then (a, b) :: (k, v) :: rest else if a = k then (a, b) :: rest else (k, v) :: storePut rest a b

/-- Take out the entry at an address, if there is one. -/
def storeDrop (m : Store) (a : Nat) : Store :=
  match m with
  | [] => []
  | (k, v) :: rest => if k = a then rest else (k, v) :: storeDrop rest a

/-- Write one byte; 0 is not listed, so that equal contents are equal data. -/
def storeWrite (m : Store) (a : Nat) (b : Byte) : Store := if b = 0 then storeDrop m a else storePut m a b

/-- Write a list of (address, byte) pairs, first to last. -/
def storeWriteAll (m : Store) (ws : List (Nat × Byte)) : Store := ws.foldl (fun m w => storeWrite m w.1 w.2) m

/-- Replace every listed byte by `f` of its address and itself, dropping what becomes 0 (`f` takes no unlisted byte). -/
def storeMap (f : Nat → Byte → Byte) (m : Store) : Store :=
  match m with
  | [] => []
  | (k, v) :: rest => if f k v = 0 then storeMap f rest else (k, f k v) :: storeMap f rest

/-- The store whose addresses 0 .. size - 1 all hold `b`. -/
def storeFill (size : Nat) (b : Byte) : Store := if b = 0 then [] else (List.range size).map (fun a => (a, b))

/-- The canonical form: addresses strictly rising, no byte 0. -/
def Store.wf (m : Store) : Bool :=
  match m with
  | [] => true
  | [(_, v)] => v != 0
  | (k, v) :: (k', v') :: rest => v != 0 && decide (k < k') && Store.wf ((k', v') :: rest)

/-! ### Lists -/

/-- Insert into an ascending list. -/
def insertAsc (x : Nat) (xs : List Nat) : List Nat :=
  match xs with
  | [] => [x]
  | y :: ys => if x ≤ y then x :: y :: ys else y :: insertAsc x ys

/-- Ascending order (R67: the pages of one release join the tail in ascending page number). -/
def sortAsc (xs : List Nat) : List Nat := xs.foldr insertAsc []

/-- Replace the first element that `p` holds of by `f` of it; `none` where there is none. -/
def replaceFirst {α : Type} (p : α → Bool) (f : α → α) (xs : List α) : Option (List α) :=
  match xs with
  | [] => none
  | x :: rest => if p x then some (f x :: rest) else (replaceFirst p f rest).map (x :: ·)

/-! ### Bytes and the CRC -/

/-- The `n` low-order bytes of `v`, most significant first (R205). -/
def beBytes (n : Nat) (v : Nat) : List Byte :=
  match n with
  | 0 => []
  | k + 1 => beBytes k (v / 256) ++ [BitVec.ofNat 8 v]

/-- Two's complement in `n` bytes (R205). -/
def beInt (n : Nat) (v : Int) : List Byte := beBytes n (v % (256 : Int) ^ n).toNat

/-- The number that bytes, most significant first, spell. -/
def ofBe (bs : List Byte) : Nat := bs.foldl (fun a b => 256 * a + b.toNat) 0

/-- The signed number that bytes, most significant first, spell in two's complement. -/
def ofBeInt (bs : List Byte) : Int :=
  if ofBe bs < 256 ^ bs.length / 2 then (ofBe bs : Int) else (ofBe bs : Int) - (256 ^ bs.length : Nat)

/-- One bit of the CRC of R205: shift left, and add x^12 + x^5 + 1 where a bit falls out. -/
def crcBit (c : Word16) : Word16 := if c.msb then (c <<< 1) ^^^ 0x1021#16 else c <<< 1

/-- One byte of the CRC, most significant bit first. -/
def crcByte (c : Word16) (b : Byte) : Word16 :=
  let c0 := c ^^^ (b.zeroExtend 16 <<< 8)
  crcBit (crcBit (crcBit (crcBit (crcBit (crcBit (crcBit (crcBit c0)))))))

/-- R205: CRC-16, polynomial x^16 + x^12 + x^5 + 1, initial value 0xFFFF, no reflection, no final inversion. -/
def crc16 (bs : List Byte) : Word16 := bs.foldl crcByte 0xFFFF#16

/-- The CRC as it is sent, high byte first. -/
def crcBytes (bs : List Byte) : List Byte := beBytes 2 (crc16 bs).toNat

/-! ### Time -/

/-- The instant a timed event falls at: `now` moves to it, and never back (log 2). -/
def reach (t : Instant) (s : State) : State := { s with now := max s.now t }

/-- The free value number `s.fresh` has been drawn. -/
def drawn (s : State) : State := { s with fresh := s.fresh + 1 }

/-- R160: the panel clock, ms since PNL was brought up, 32 bits. -/
def panelClock (s : State) : Word32 := BitVec.ofNat 32 ((s.now - s.pnl.broughtUp) / oneMs)

/-! ### The outbound queue -/

/-- R208: 64 less the records in the queue and less the reservations. -/
def freeCount (s : State) : Nat := Config.outboundSize - s.lnk.outbound.length - s.lnk.reservations

/-- A record joins the tail of the outbound queue. -/
def enqueue (r : Record) (s : State) : State := { s with lnk := { s.lnk with outbound := s.lnk.outbound ++ [r] } }

/-- R208: the block completes a reply: it joins the tail, and its reservation ends. -/
def reply (request tag : Byte) (st : Status) (body : ReplyBody) (s : State) : State :=
  { s with lnk := { s.lnk with outbound := s.lnk.outbound ++ [.reply ⟨tag, request, st, body⟩],
                               reservations := s.lnk.reservations - 1 } }

/-- R208: LNK takes the head of the inbound queue, if it is this frame, the start-up flag is CLEAR and at least 2 entries
are free; the frame leaves the inbound queue. -/
def takeHead (f : LinkFrame) (s : State) : Option State :=
  match s.lnk.inbound with
  | [] => none
  | g :: rest =>
    if g = f ∧ s.lnk.startUp = false ∧ 2 ≤ freeCount s then some { s with lnk := { s.lnk with inbound := rest } } else none

/-- R208: one reservation for the reply of a request taken. -/
def reserve (s : State) : State := { s with lnk := { s.lnk with reservations := s.lnk.reservations + 1 } }

/-- A request command: LNK takes the frame and hands it to the owner. Where it cannot be taken, it waits (log 8). -/
def request (type tag : Byte) (payload : List Byte) (owner : State → State) (s : State) : Host.Outcome State Fault Refusal :=
  match takeHead ⟨type, tag, payload⟩ s with
  | none => .next s
  | some s1 => .next (owner (reserve s1))

/-- An event of a block that start-up brings up: until then it does not happen (log 8). -/
def whenUp (f : State → State) (s : State) : Host.Outcome State Fault Refusal :=
  if s.lnk.startUp then .next s else .next (f s)

end Sys2Proof.Machine
end

