-- ==== Sys2Proof/Machine/Flags.lean ====
section
/-! DEFINITION. The condition table (R213), the admission of reports to the outbound queue (R210, R211), and the two outputs
that follow them (R212). -/

namespace Sys2Proof.Machine

/-- R213: the active flag of a condition, read off the state of its owner. -/
def condActive (c : Condition) (s : State) : Bool :=
  match c with
  | .protect n => s.fec.latch[n]
  | .clockFault => !s.fec.locked
  | .linkError => false
  | .reportLoss => false
  | .keyOverflow => decide (Config.keyQueueSize ≤ s.pnl.events.length)
  | .counterOverrun => s.trg.result.overrun
  | .storeFault => s.sto.fault
  | .calInvalid => !s.fec.tableValid
  | .starved => s.mem.pendingAlloc.isSome
  | .memReduced => !s.mem.bad.isEmpty
  | .inboundFull => decide (Config.inboundSize ≤ s.lnk.inbound.length)

/-- The entry of a condition. -/
def condEntry (c : Condition) (s : State) : CondEntry := s.lnk.conds[condCode c]

/-- R213: set the latched flag and record the cause detail. -/
def setLatched (c : Condition) (d : CauseDetail) (s : State) : State :=
  { s with lnk := { s.lnk with conds := vmod s.lnk.conds (condCode c) (fun e => { e with latched := true, cause := d }) } }

/-- R210: a report is dropped: REPORT_LOSS is latched with its type. Its own CONDITION report finds no room either, and
that drop finds REPORT_LOSS latched. -/
def dropReport (r : Report) (s : State) : State :=
  if (condEntry .reportLoss s).latched then s else setLatched .reportLoss (.reportType (reportCode r)) s

/-- R210: a report that joins the queue when free ≥ 1 and is dropped otherwise. -/
def offerNew (r : Report) (s : State) : State :=
  if 1 ≤ freeCount s then enqueue (.report r) s else dropReport r s

/-- R211: whether an unsent record is the one that a newly offered report updates. -/
def updates (r : Report) (old : Record) : Bool :=
  match r, old with
  | .setupChanged i .., .report (.setupChanged j ..) => i == j
  | .setupReloaded .., .report (.setupReloaded ..) => true
  | .segment .., .report (.segment ..) => true
  | .encoder e .., .report (.encoder f ..) => e == f
  | _, _ => false

/-- R209, R211: an update of the head record is noted against the FETCH that has selected it. -/
def noteUpdate (p : Record → Bool) (s : State) : State :=
  match s.lnk.txn, s.lnk.outbound with
  | some t, h :: _ =>
    if t.selected && p h then { s with lnk := { s.lnk with txn := some { t with updated := true } } } else s
  | _, _ => s

/-- R210, R211: offer a report: update in place where an unsent record of its kind stands, or join, or be dropped. -/
def offer (r : Report) (s : State) : State :=
  match replaceFirst (updates r) (fun _ => .report r) s.lnk.outbound with
  | some q => { noteUpdate (updates r) s with lnk := { (noteUpdate (updates r) s).lnk with outbound := q } }
  | none => offerNew r s

/-- Offer several reports in order. -/
def offerAll (rs : List Report) (s : State) : State := rs.foldl (fun s r => offer r s) s

/-- R213: the owner of a condition asks for a latch. During start-up its CONDITION report is held. -/
def latchCondition (c : Condition) (d : CauseDetail) (s : State) : State :=
  if (condEntry c s).latched then s
  else
    let s1 := setLatched c d s
    let r := Report.condition c d (condActive c s1)
    if s1.lnk.startUp then { s1 with lnk := { s1.lnk with heldReports := s1.lnk.heldReports ++ [r] } } else offer r s1

/-- R215: clear the latched flag and the cause detail. -/
def clearLatched (c : Condition) (s : State) : State :=
  { s with lnk := { s.lnk with conds := vmod s.lnk.conds (condCode c) (fun e => { e with latched := false, cause := .absent }) } }

/-- R212: ATTN is asserted exactly when the outbound queue is non-empty. -/
def attn (s : State) : Bool := !s.lnk.outbound.isEmpty

/-- R212: ALERT is asserted exactly when some latched condition is routed to ALERT. -/
def alert (s : State) : Bool :=
  allConditions.any (fun c => (condEntry c s).latched && decide ((condEntry c s).route = .alert))

end Sys2Proof.Machine
end

