-- ==== Sys2Proof/Machine/Operands.lean ====
section
/-! DEFINITION. The operand forms of the requests: each payload read into its items by R205 (big-endian, smallest width, count
before a list, form byte before an item of several forms). `none` is a payload whose length or form does not fit its request,
which the owning block refuses BAD_ARG (R208). Range checks are the owner's. -/

namespace Sys2Proof.Machine

/-- `k` pieces of `n` bytes. -/
def pieces (n k : Nat) (bs : List Byte) : List (List Byte) :=
  match k with
  | 0 => []
  | j + 1 => bs.take n :: pieces n j (bs.drop n)

/-- A list preceded by its count in one byte, each item of `n` bytes, with nothing behind it. -/
def countedList (n : Nat) (p : List Byte) : Option (List (List Byte)) :=
  match p with
  | [] => none
  | c :: rest => if rest.length = n * c.toNat then some (pieces n c.toNat rest) else none

/-- A channel or reference slot 1..4, counted from 0. -/
def oneOfFour (v : Nat) : Option (Fin 4) := if h : 1 ≤ v ∧ v ≤ 4 then some ⟨v - 1, by omega⟩ else none

/-- A user slot 1..10, counted from 0 (R184). -/
def userSlot (v : Nat) : Option (Fin 10) := if h : 1 ≤ v ∧ v ≤ 10 then some ⟨v - 1, by omega⟩ else none

/-- A slot 0..10 (R178). -/
def anySlot (v : Nat) : Option (Fin 11) := if h : v < 11 then some ⟨v, h⟩ else none

/-- User slot n of 1..10 as a slot of 0..10. -/
def slotOfUser (n : Fin 10) : Fin 11 := ⟨n.val + 1, by omega⟩

/-- A choice of two, ON then OFF, as R173, R187 and R166 name them (log 12). -/
def onOff (v : Byte) : Option Bool := if v = 0 then some true else if v = 1 then some false else none

/-- R213: the condition of a code. -/
def condOfCode (v : Nat) : Option Condition :=
  match v with
  | 0 => some (.protect 0)
  | 1 => some (.protect 1)
  | 2 => some (.protect 2)
  | 3 => some (.protect 3)
  | 4 => some .clockFault
  | 5 => some .linkError
  | 6 => some .reportLoss
  | 7 => some .keyOverflow
  | 8 => some .counterOverrun
  | 9 => some .storeFault
  | 10 => some .calInvalid
  | 11 => some .starved
  | 12 => some .memReduced
  | 13 => some .inboundFull
  | _ => none

/-- Every element mapped, or `none` where one has no image. -/
def mapAll {α β : Type} (f : α → Option β) (xs : List α) : Option (List β) :=
  match xs with
  | [] => some []
  | x :: rest =>
    match f x, mapAll f rest with
    | some y, some ys => some (y :: ys)
    | _, _ => none

/-- R12: the pairs of SET_FIELDS, each an id of one byte and a value of eight. -/
def parsePairs (p : List Byte) : Option (List (Nat × Int)) :=
  (countedList 9 p).map (fun ps => ps.map (fun b => (ofBe (b.take 1), ofBeInt (b.drop 1))))

/-- R13: the ids of GET_FIELDS. -/
def parseIds (p : List Byte) : Option (List Nat) := (countedList 1 p).map (fun ps => ps.map ofBe)

/-- R215: the codes of ACK_CONDITIONS. -/
def parseCodes (p : List Byte) : Option (List Nat) := parseIds p

/-- An empty payload. -/
def parseNothing (p : List Byte) : Option Unit := if p = [] then some () else none

/-- A payload of one one-byte item. -/
def parseByte (p : List Byte) : Option Byte :=
  match p with
  | [a] => some a
  | _ => none

/-- R80: slot, source (LATEST, or a seq) and channel; `none` as the source is LATEST. -/
def parseSaveRef (p : List Byte) : Option (Nat × Option Nat × Nat) :=
  match p with
  | [slot, f, ch] => if f = 0 then some (slot.toNat, none, ch.toNat) else none
  | [slot, f, a, b, c, d, ch] => if f = 1 then some (slot.toNat, some (ofBe [a, b, c, d]), ch.toNat) else none
  | _ => none

/-- R86: starting seq and maximum count. -/
def parseSegmentList (p : List Byte) : Option (Nat × Nat) :=
  match p with
  | [a, b, c, d, k] => some (ofBe [a, b, c, d], k.toNat)
  | _ => none

/-- R87, R88: the forms that name a page or a sample; the numbers are as sent. -/
inductive PlaceForm where
  | segment (seq ch index : Nat)
  | reference (slot index : Nat)
  | physical (page : Nat)
  deriving DecidableEq, Repr

/-- R87: a logical page index lies in 0..255 and takes one byte; a page number takes two. -/
def parsePageQuery (p : List Byte) : Option PlaceForm :=
  match p with
  | [f, a, b, c, d, ch, i] => if f = 0 then some (.segment (ofBe [a, b, c, d]) ch.toNat i.toNat) else none
  | [f, x, y] =>
    if f = 1 then some (.reference x.toNat y.toNat) else if f = 2 then some (.physical (ofBe [x, y])) else none
  | _ => none

/-- R88: a sample index takes four bytes. -/
def parsePeek (p : List Byte) : Option PlaceForm :=
  match p with
  | [f, a, b, c, d, ch, i, j, k, l] =>
    if f = 0 then some (.segment (ofBe [a, b, c, d]) ch.toNat (ofBe [i, j, k, l])) else none
  | [f, slot, i, j, k, l] => if f = 1 then some (.reference slot.toNat (ofBe [i, j, k, l])) else none
  | _ => none

/-- R150: x, y, w, h and the colour of OV_FILL. -/
def parseFill (p : List Byte) : Option (Int × Int × Nat × Nat × Nat) :=
  match p with
  | [a, b, c, d, e, f, g, h, k] => some (ofBeInt [a, b], ofBeInt [c, d], ofBe [e, f], ofBe [g, h], k.toNat)
  | _ => none

/-- R151: x, y, fg, bg and the glyph codes of OV_TEXT. -/
def parseText (p : List Byte) : Option (Int × Int × Nat × Nat × List Nat) :=
  match p with
  | a :: b :: c :: d :: fg :: bg :: rest =>
    match countedList 1 rest with
    | some codes => some (ofBeInt [a, b], ofBeInt [c, d], fg.toNat, bg.toNat, codes.map ofBe)
    | none => none
  | _ => none

/-- R152: first glyph, count, and the bitmap bytes; the count and the length are judged by the rule. -/
def parseGlyphs (p : List Byte) : Option (Nat × Nat × List Byte) :=
  match p with
  | first :: k :: bits => some (first.toNat, k.toNat, bits)
  | _ => none

/-- R153: index and components. -/
def parsePalette (p : List Byte) : Option (Nat × Nat × Nat × Nat) :=
  match p with
  | [i, r, g, b] => some (i.toNat, r.toNat, g.toNat, b.toNat)
  | _ => none

/-- R163, R164: a binding: NONE, FORWARD, or LOCAL with an action and, where it needs one, its argument. The code of an action is its
place in R164's table, the list that names them all; R163's table of defaults names LOCAL_RELEASE and DEFAULT_SETUP before
FIELD_DEFAULT (DEDUCED, log 12). -/
def parseBinding (p : List Byte) : Option KeyBinding :=
  match p with
  | [b] => if b = 0 then some .none else if b = 1 then some .forward else none
  | [b, a] =>
    if b = 2 then
      match a.toNat with
      | 0 => some (.action .runStop)
      | 1 => some (.action .single)
      | 2 => some (.action .force)
      | 3 => some (.action .clearPersist)
      | 6 => some (.action .localRelease)
      | 7 => some (.action .defaultSetup)
      | _ => none
    else none
  | [b, a, x] =>
    if b = 2 ∧ a = 4 then (oneOfFour x.toNat).map (fun n => .action (.channelToggle n))
    else if b = 2 ∧ a = 5 then (if h : x.toNat < 12 then some (.action (.fieldDefault ⟨x.toNat, h⟩)) else none)
    else none
  | _ => none

/-- R163: key code and binding. -/
def parseKeyBind (p : List Byte) : Option (Fin 64 × KeyBinding) :=
  match p with
  | [] => none
  | k :: rest => if h : k.toNat < 64 then (parseBinding rest).map (fun b => (⟨k.toNat, h⟩, b)) else none

/-- R166: encoder, target (a field id, or NONE), mode (LOCAL, FORWARD), step and acceleration (ON, OFF). -/
def parseEncBind (p : List Byte) : Option (Nat × Option Nat × Nat × Nat × Bool) :=
  match p with
  | [e, f, mode, hi, lo, acc] =>
    if f = 1 then (onOff acc).map (fun on => (e.toNat, none, mode.toNat, ofBe [hi, lo], on)) else none
  | [e, f, id, mode, hi, lo, acc] =>
    if f = 0 then (onOff acc).map (fun on => (e.toNat, some id.toNat, mode.toNat, ofBe [hi, lo], on)) else none
  | _ => none

/-- R174: LED number and source, in the order of the table; CHANNEL carries n. -/
def parseLedSet (p : List Byte) : Option (Fin 64 × LedSource) :=
  match p with
  | [l, src] =>
    if h : l.toNat < 64 then
      match src.toNat with
      | 0 => some (⟨l.toNat, h⟩, .hostOff)
      | 1 => some (⟨l.toNat, h⟩, .hostOn)
      | 2 => some (⟨l.toNat, h⟩, .hostBlink)
      | 3 => some (⟨l.toNat, h⟩, .running)
      | 4 => some (⟨l.toNat, h⟩, .stopped)
      | 5 => some (⟨l.toNat, h⟩, .singleArmed)
      | 6 => some (⟨l.toNat, h⟩, .triggered)
      | 8 => some (⟨l.toNat, h⟩, .remote)
      | _ => none
    else none
  | [l, src, n] =>
    if h : l.toNat < 64 then
      if src = 7 then (oneOfFour n.toNat).map (fun c => (⟨l.toNat, h⟩, .channel c)) else none
    else none
  | _ => none

/-- R172. -/
def parseLock (p : List Byte) : Option PanelLock :=
  match p with
  | [m] => if m = 0 then some .unlocked else if m = 1 then some .remote else if m = 2 then some .lockout else none
  | _ => none

/-- R173: ON or OFF. -/
def parseBlank (p : List Byte) : Option Bool :=
  match p with
  | [v] => onOff v
  | _ => none

/-- R176: frequency and duration, two bytes each. -/
def parseBeep (p : List Byte) : Option (Nat × Nat) :=
  match p with
  | [a, b, c, d] => some (ofBe [a, b], ofBe [c, d])
  | _ => none

/-- R184: slot and label. -/
def parseSave (p : List Byte) : Option (Nat × List Byte) :=
  match p with
  | [] => none
  | slot :: rest => (countedList 1 rest).map (fun cs => (slot.toNat, cs.flatten))

/-- R187: slot and ON or OFF. -/
def parseProtect (p : List Byte) : Option (Nat × Bool) :=
  match p with
  | [slot, v] => (onOff v).map (fun on => (slot.toNat, on))
  | _ => none

/-- R188: LAST, DEFAULT, or a user slot. -/
def parsePowerSource (p : List Byte) : Option PowerSource :=
  match p with
  | [f] => if f = 0 then some .last else if f = 1 then some .deflt else none
  | [f, n] => if f = 2 then (userSlot n.toNat).map .user else none
  | _ => none

/-- R196: the forms of a transfer's source; the numbers are as sent. -/
inductive XferForm where
  | latest (ch : Nat)
  | segment (seq ch : Nat)
  | reference (slot : Nat)
  deriving DecidableEq, Repr

/-- R196: source, first and count. -/
def parseXferStart (p : List Byte) : Option (XferForm × Nat × Nat) :=
  match p with
  | [f, x, a, b, c, d, i, j, k, l] =>
    if f = 0 then some (.latest x.toNat, ofBe [a, b, c, d], ofBe [i, j, k, l])
    else if f = 2 then some (.reference x.toNat, ofBe [a, b, c, d], ofBe [i, j, k, l])
    else none
  | [f, q, r, s, t, ch, a, b, c, d, i, j, k, l] =>
    if f = 1 then some (.segment (ofBe [q, r, s, t]) ch.toNat, ofBe [a, b, c, d], ofBe [i, j, k, l]) else none
  | _ => none

/-- R216: code and route (ALERT, NONE). -/
def parseRoute (p : List Byte) : Option (Condition × Route) :=
  match p with
  | [c, r] =>
    match condOfCode c.toNat with
    | some k => if r = 0 then some (k, .alert) else if r = 1 then some (k, .none) else none
    | none => none
  | _ => none

end Sys2Proof.Machine
end

