-- ==== Sys2Proof/Machine/Memory.lean ====
section
/-! DEFINITION. MEM: pages, translation, the segment table, capture allocation, the reference reserves, and the queries of
section 4.4. What a release of pages or pins sets going in other blocks is in Capture.lean and Render.lean. -/

namespace Sys2Proof.Machine

/-! ### Pages and translation -/

/-- R68: the number of good pages. -/
def goodPages (s : State) : Nat := Config.pageCount - s.mem.bad.length

/-- R69: the pages of a record of n samples. -/
def pagesOf (n : Nat) : Nat := ceilDiv n Config.pageSize

/-- R69: the stored position of logical sample i. -/
def storedPosition (p origin i : Nat) : Nat := if i < p then (i + origin) % p else i

/-- R69: the address of stored position q in a page list; `none` past the list's end. -/
def positionAddr (pages : List Nat) (q : Nat) : Option Nat :=
  match pages[q / Config.pageSize]? with
  | some pg => some (pg * Config.pageSize + q % Config.pageSize)
  | none => none

/-- The code at stored position q of a page list; 0 past the list's end, which no record of the machine has. -/
def readPosition (dram : Store) (pages : List Nat) (q : Nat) : Byte :=
  match positionAddr pages q with
  | some a => storeRead dram a
  | none => 0

/-- Store a code at stored position q of a page list. -/
def writePosition (dram : Store) (pages : List Nat) (q : Nat) (b : Byte) : Store :=
  match positionAddr pages q with
  | some a => storeWrite dram a b
  | none => dram

/-- R69: the code of logical sample i of a channel of a segment. -/
def segmentSample (dram : Store) (r : SegRec) (ch : Channel) (i : Nat) : Byte :=
  readPosition dram r.pages[ch] (storedPosition r.p r.origin i)

/-! ### The segment table -/

/-- The record bearing a seq. -/
def findSeg (seq : Nat) (s : State) : Option SegRec := s.mem.table.find? (fun r => r.seq == seq)

/-- Change the record bearing a seq. -/
def modSeg (seq : Nat) (f : SegRec → SegRec) (s : State) : State :=
  { s with mem := { s.mem with table := s.mem.table.map (fun r => if r.seq == seq then f r else r) } }

/-- R78: the pin count is 0. -/
def unpinned (r : SegRec) : Bool := !r.pins.view && !r.pins.render && !r.pins.transfer && !r.pins.copy

/-- R78: the number of holders. -/
def pinCount (r : SegRec) : Nat :=
  (flagCode r.pins.view).toNat + (flagCode r.pins.render).toNat + (flagCode r.pins.transfer).toNat + (flagCode r.pins.copy).toNat

/-- R78: whether a holder holds a pin. -/
def hasPin (h : Holder) (p : SegPins) : Bool :=
  match h with
  | .view => p.view
  | .render => p.render
  | .transfer => p.transfer
  | .copy => p.copy

/-- R78: the holders with one added or taken out. -/
def setPin (h : Holder) (b : Bool) (p : SegPins) : SegPins :=
  match h with
  | .view => { p with view := b }
  | .render => { p with render := b }
  | .transfer => { p with transfer := b }
  | .copy => { p with copy := b }

/-- R66: all pages of a record, of every channel. -/
def segPages (r : SegRec) : List Nat := channels.flatMap (fun c => r.pages[c])

/-- R67: one release: the pages join the tail of the pool in ascending page number. -/
def freePages (ps : List Nat) (s : State) : State :=
  { s with mem := { s.mem with pool := s.mem.pool ++ sortAsc ps } }

/-- R76, without the retry: the record leaves the table and its pages form one release. -/
def dropSegment (seq : Nat) (s : State) : State :=
  match findSeg seq s with
  | none => s
  | some r =>
    freePages (segPages r) { s with mem := { s.mem with table := s.mem.table.eraseP (fun x => x.seq == seq) } }

/-- R72: the oldest COMPLETE record whose pin count is 0. -/
def oldestReclaimable (s : State) : Option SegRec :=
  s.mem.table.find? (fun r => decide (r.state = .complete) && unpinned r)

/-- R77, R80, R125, R196: the newest COMPLETE record. -/
def newestComplete (s : State) : Option SegRec :=
  s.mem.table.reverse.find? (fun r => decide (r.state = .complete))

/-- R72: whether a capture allocation still needs a reclaim. -/
def captureShort (k : Nat) (s : State) : Bool :=
  decide (s.mem.pool.length < k) || decide (Config.tableSize ≤ s.mem.table.length)

/-- R72: reclaim for a capture allocation, at most one record for each unit of `fuel`. -/
def reclaim (fuel k : Nat) (s : State) : State :=
  match fuel with
  | 0 => s
  | f + 1 =>
    if captureShort k s then
      match oldestReclaimable s with
      | none => s
      | some r => reclaim f k (dropSegment r.seq s)
    else s

/-- R70: the seq after one, leaving out 0. -/
def seqAfter (n : Nat) : Nat := if n + 1 < 2 ^ 32 then n + 1 else 1

/-- R70: the seq counter, advanced past each seq that a record in the table bears. -/
def freeSeq (fuel n : Nat) (s : State) : Nat :=
  match fuel with
  | 0 => n
  | f + 1 => if s.mem.table.any (fun r => r.seq == n) then freeSeq f (seqAfter n) s else n

/-- R72: the pages a request needs. -/
def pagesForRequest (q : CaptureRequest) : Nat := (channels.filter (fun c => q.set[c])).length * pagesOf q.n

/-- R72 step 1: the page list of a channel among the pages taken: the set's channels take theirs in ascending order. -/
def pageListFor (q : CaptureRequest) (taken : List Nat) (c : Channel) : List Nat :=
  if q.set[c] then
    (taken.drop ((channels.filter (fun d => q.set[d] && decide (d < c))).length * pagesOf q.n)).take (pagesOf q.n)
  else []

/-- R72: the FILLING record that an allocation creates. -/
def newSegment (q : CaptureRequest) (seq : Nat) (taken : List Nat) : SegRec :=
  { seq := seq, state := .filling, n := q.n, decimation := q.decimation, p := q.p, origin := 0, generation := q.generation,
    set := q.set, scales := q.scales, pages := .ofFn (fun c => pageListFor q taken c), triggerTime := 0, forced := false,
    clipped := .replicate 4 false, pins := ⟨false, false, false, false⟩ }

/-- R72: a capture allocation: reclaim, then the pages, the record and the seq; `none` where it fails. -/
def allocate (q : CaptureRequest) (s : State) : State × Option Nat :=
  let k := pagesForRequest q
  let s1 := reclaim s.mem.table.length k s
  if captureShort k s1 then (s1, none)
  else
    let seq := freeSeq (s1.mem.table.length + 1) s1.mem.seqCounter s1
    ({ s1 with mem := { s1.mem with pool := s1.mem.pool.drop k, seqCounter := seqAfter seq,
                                    table := s1.mem.table ++ [newSegment q seq (s1.mem.pool.take k)] } }, some seq)

/-- R78: a pin request on a segment: granted on a COMPLETE record. -/
def pinSegment (h : Holder) (seq : Nat) (s : State) : State × Bool :=
  match findSeg seq s with
  | none => (s, false)
  | some r =>
    if r.state = .complete then (modSeg seq (fun x => { x with pins := setPin h true x.pins }) s, true) else (s, false)

/-! ### Reference slots -/

/-- R79: the reference reserve of a slot. -/
def reserveOf (r : RefSlot) : Nat :=
  match r.state with
  | .empty => 0
  | .valid => r.pages.length
  | .copying => r.pages.length + (r.copy.map (·.need)).getD 0

/-- R79: the reserves of all four slots but those `skip` holds of. -/
def reservesExcept (skip : Fin 4 → Bool) (s : State) : Nat :=
  (channels.map (fun n => if skip n then 0 else reserveOf s.mem.refs[n])).sum

/-- R79: the capture allowance. -/
def captureAllowance (s : State) : Nat := goodPages s - reservesExcept (fun _ => false) s

/-- Change a reference slot. -/
def modRef (n : Fin 4) (f : RefSlot → RefSlot) (s : State) : State :=
  { s with mem := { s.mem with refs := vmod s.mem.refs n f } }

/-- R85: a pin request on a slot: granted while it has contents. -/
def pinRef (transfer : Bool) (n : Fin 4) (s : State) : State × Bool :=
  if s.mem.refs[n].contents.isSome then
    (modRef n (fun r => if transfer then { r with pinTransfer := true } else { r with pinRender := true }) s, true)
  else (s, false)

/-- The slot that is COPYING, if one is. -/
def copyingSlot (s : State) : Option (Fin 4) := channels.find? (fun n => decide (s.mem.refs[n].state = .copying))

/-- R80: the STATUS busy flag COPY. -/
def copyBusy (s : State) : Bool := (copyingSlot s).isSome

/-! ### Page records -/

/-- The place of a page in the page list of a channel of a segment. -/
def pageInSegment (pg : Nat) (r : SegRec) : Option (Channel × Nat) :=
  channels.findSome? (fun c => (r.pages[c].findIdx? (· == pg)).map (fun i => (c, i)))

/-- The place of a page in a reference slot: current list or copy list, and index. -/
def pageInRef (pg : Nat) (r : RefSlot) : Option (Bool × Nat) :=
  match r.pages.findIdx? (· == pg) with
  | some i => some (true, i)
  | none =>
    match r.copy with
    | some c => (c.pages.findIdx? (· == pg)).map (fun i => (false, i))
    | none => none

/-- R66: the record of a page, read off the one place it stands in. -/
def pageRecord (pg : Nat) (s : State) : PageRecord :=
  if s.mem.bad.contains pg then ⟨.bad, none, none⟩
  else
    match s.mem.table.findSome? (fun r => (pageInSegment pg r).map (fun ci => (r, ci.1, ci.2))) with
    | some (r, c, i) =>
      ⟨if r.state = .filling then .filling else .held, some (.segment r.seq c), some i⟩
    | none =>
      match channels.findSome? (fun n => (pageInRef pg s.mem.refs[n]).map (fun bi => (n, bi.1, bi.2))) with
      | some (n, cur, i) => ⟨.reference, some (.reference n cur), some i⟩
      | none => ⟨.free, none, none⟩

/-! ### The queries -/

/-- R86: the records from the starting seq on. -/
def listFrom (start : Nat) (table : List SegRec) : List SegRec :=
  if start = 0 then table
  else if table.any (fun r => r.seq == start) then table.dropWhile (fun r => r.seq != start)
  else table.dropWhile (fun r => !decide (start < r.seq))

/-- R86: a FILLING record is listed with clear flags; its fields are clear until completion. -/
def segmentListOf (tag : Byte) (payload : List Byte) (s : State) : State :=
  match parseSegmentList payload with
  | none => reply 0x42 tag .badArg .empty s
  | some (start, most) =>
    if 1 ≤ most ∧ most ≤ 24 then
      let from_ := listFrom start s.mem.table
      let next := match from_.drop most with
        | [] => 0
        | r :: _ => r.seq
      reply 0x42 tag .ok (.segments (from_.take most) next) s
    else reply 0x42 tag .badArg .empty s

/-- SEGMENT_LIST, R86. -/
def execSegmentList (tag : Byte) (payload : List Byte) (s : State) : Host.Outcome State Fault Refusal :=
  request 0x42 tag payload (segmentListOf tag payload) s

/-- R87: the answer to a page query. -/
def pageAnswer (f : PlaceForm) (s : State) : Status × ReplyBody :=
  match f with
  | .segment seq ch i =>
    match oneOfFour ch with
    | none => (.badArg, .empty)
    | some c =>
      match findSeg seq s with
      | none => (.notFound, .empty)
      | some r =>
        match r.set[c], r.pages[c][i]? with
        | true, some pg => (.ok, .segmentPage pg (pageRecord pg s).state)
        | _, _ => (.notFound, .empty)
  | .reference slot i =>
    match oneOfFour slot with
    | none => (.badArg, .empty)
    | some n =>
      match s.mem.refs[n].contents, s.mem.refs[n].pages[i]? with
      | some c, some pg => (.ok, .referencePage pg (pageRecord pg s).state c)
      | _, _ => (.notFound, .empty)
  | .physical pg => if pg < Config.pageCount then (.ok, .physicalPage (pageRecord pg s)) else (.badArg, .empty)

/-- R87. -/
def pageQueryOf (tag : Byte) (payload : List Byte) (s : State) : State :=
  match parsePageQuery payload with
  | none => reply 0x43 tag .badArg .empty s
  | some f => reply 0x43 tag (pageAnswer f s).1 (pageAnswer f s).2 s

/-- PAGE_QUERY, R87. -/
def execPageQuery (tag : Byte) (payload : List Byte) (s : State) : Host.Outcome State Fault Refusal :=
  request 0x43 tag payload (pageQueryOf tag payload) s

/-- R88: the answer to a PEEK, its checks in the order the rule gives. -/
def peekAnswer (f : PlaceForm) (s : State) : Status × ReplyBody :=
  match f with
  | .segment seq ch i =>
    match oneOfFour ch with
    | none => (.badArg, .empty)
    | some c =>
      match findSeg seq s with
      | none => (.notFound, .empty)
      | some r =>
        if r.state = .complete ∧ r.set[c] = true then
          (if i < r.n then (.ok, .sample (segmentSample s.mem.dram r c i)) else (.badArg, .empty))
        else (.notFound, .empty)
  | .reference slot i =>
    match oneOfFour slot with
    | none => (.badArg, .empty)
    | some n =>
      match s.mem.refs[n].contents with
      | none => (.notFound, .empty)
      | some c =>
        if i < c.n then (.ok, .sample (readPosition s.mem.dram s.mem.refs[n].pages i)) else (.badArg, .empty)
  | .physical _ => (.badArg, .empty)

/-- R88. -/
def peekOf (tag : Byte) (payload : List Byte) (s : State) : State :=
  match parsePeek payload with
  | none => reply 0x44 tag .badArg .empty s
  | some f => reply 0x44 tag (peekAnswer f s).1 (peekAnswer f s).2 s

/-- PEEK, R88. -/
def execPeek (tag : Byte) (payload : List Byte) (s : State) : Host.Outcome State Fault Refusal :=
  request 0x44 tag payload (peekOf tag payload) s

end Sys2Proof.Machine
end

