-- ==== Sys2Proof/Machine/FrontEnd.lean ====
section
/-! DEFINITION. FEC, sections 2.1 to 2.3: the drive state of each channel, the settle timer and code correction. -/

namespace Sys2Proof.Machine

/-- The trigger source of a setup (field 96). -/
def recordSource (r : Setup) : TrigSource :=
  match r.get 96 with
  | 0 => .channel 0
  | 1 => .channel 1
  | 2 => .channel 2
  | 3 => .channel 3
  | _ => .ext

/-- R26, R40: MEG1 while the protect latch is set, else the termination field. -/
def effectiveTerm (ch : Channel) (s : State) : Term :=
  if s.fec.latch[ch] then .meg1 else if s.setup.isOhm50 ch then .ohm50 else .meg1

/-- R27: enabled, or named by the source field, or the source TRG uses at present. -/
def isPowered (ch : Channel) (s : State) : Bool :=
  s.setup.enabled ch || decide (recordSource s.setup = .channel ch) || decide (s.trg.held.source = .channel ch)

/-- R26: the attenuator of a scale index. -/
def attenOf (scale : Nat) : Atten := if scale ≤ 6 then .div1 else .div100

/-- R26: the gain step of a scale index. -/
def gainOf (scale : Nat) : Nat := if scale ≤ 6 then scale else scale - 6

/-- R26: the driven scale, the index that a drive state encodes. -/
def drivenScale (d : Drive) : Nat := match d.atten with | .div1 => d.gain | .div100 => d.gain + 6

/-- The coupling relay of a coupling field. -/
def couplingOf (v : Int) : Coupling := match v with | 0 => .dc | 1 => .ac | _ => .gnd

/-- R26: the drive state that the record and the latches give a channel outside calibration. -/
def targetDrive (ch : Channel) (s : State) : Drive :=
  { power := isPowered ch s, atten := attenOf (s.setup.scale ch), gain := gainOf (s.setup.scale ch),
    coupling := couplingOf (s.setup.get (chField ch 4)), term := effectiveTerm ch s,
    bandwidth := if s.setup.get (chField ch 6) = 1 then .bw20 else .full, groundClosed := false }

/-- R29: the settle duration of a difference on one channel, in ns. -/
def settleDuration (old new : Drive) : Nat :=
  if !old.power && new.power then 20 * oneMs
  else if !new.power then 0
  else if old.atten ≠ new.atten ∨ old.coupling ≠ new.coupling ∨ old.term ≠ new.term ∨ old.groundClosed ≠ new.groundClosed
  then 5 * oneMs
  else if old.gain ≠ new.gain ∨ old.bandwidth ≠ new.bandwidth then 200 * oneUs
  else 0

/-- R29: start or extend the settle timer; a duration of 0 leaves it as it is. -/
def extendSettle (dur : Nat) (s : State) : State :=
  if dur = 0 then s
  else { s with fec := { s.fec with settle := some (max (s.fec.settle.getD 0) (s.now + dur)) } }

/-- R28: apply new drive states, and start or extend the settle timer for the channel that needs the longest. -/
def applyDrives (new : Vector Drive 4) (s : State) : State :=
  extendSettle ((channels.map (fun c => settleDuration s.fec.drive[c] new[c])).foldl max 0)
    { s with fec := { s.fec with drive := new } }

/-- R26, R28: derive the drive states from the record and the latches; while calibration runs they stay as forced. -/
def deriveDrives (s : State) : State :=
  if s.fec.calStep.isSome then s else applyDrives (.ofFn (fun c => targetDrive c s)) s

/-- R31: correction of a raw code by the calibration value. -/
def correctCode (r : Byte) (cal : Int) : Byte :=
  if r = 0 ∨ r = 255 then r else BitVec.ofInt 8 (clampInt 1 254 (r.toNat + cal))

/-- The place of a channel and scale index in a calibration table. -/
def calIndex (ch : Channel) (scale : Nat) : Nat := 13 * ch.val + scale

/-- R31: the live value for a channel and its driven scale. -/
def liveCal (ch : Channel) (s : State) : Int := s.fec.live[calIndex ch (drivenScale s.fec.drive[ch])]?.getD 0

/-- R31: the corrected code of a channel. -/
def correctedCode (ch : Channel) (raw : Byte) (s : State) : Byte := correctCode raw (liveCal ch s)

/-- R41 step 1: the termination relay goes to MEG1 and the protect latch is set. -/
def setProtect (ch : Channel) (s : State) : State :=
  { s with fec := { s.fec with drive := vmod s.fec.drive ch (fun d => { d with term := .meg1 }),
                               latch := s.fec.latch.set ch true } }

/-- R42, R43: the protect latch is cleared. -/
def clearLatch (ch : Channel) (s : State) : State := { s with fec := { s.fec with latch := s.fec.latch.set ch false } }

/-- R41: whether the sense of a channel is active while its relay is driven to OHM50. -/
def isTripping (ch : Channel) (s : State) : Bool := s.fec.sense[ch] && decide (s.fec.drive[ch].term = .ohm50)

end Sys2Proof.Machine
end

