-- ==== Sys2Proof/Machine/Trigger.lean ====
section
/-! DEFINITION. TRG: the held settings, the comparator, the qualifiers, the indications, the event counter and AUX. What ACQ
does with a trigger is in Capture.lean. -/

namespace Sys2Proof.Machine

/-! ### Held settings -/

/-- R46: the nine TRIGGER-class fields of a setup. -/
def settingsOf (r : Setup) : TrigSettings :=
  { source := recordSource r, pulse := r.get 97 == 1,
    slope := match r.get 98 with | 0 => .rise | 1 => .fall | _ => .either,
    level := (r.get 99).toNat, hysteresis := (r.get 100).toNat, greater := r.get 101 == 1,
    pulseLimit := (r.get 102).toNat, holdoff := (r.get 103).toNat, gate1000 := r.get 105 == 1 }

/-- R48: the upper threshold. -/
def upperOf (h : TrigSettings) : Nat :=
  match h.slope with
  | .fall => min 255 (h.level + h.hysteresis)
  | _ => h.level

/-- R48: the lower threshold. -/
def lowerOf (h : TrigSettings) : Nat :=
  match h.slope with
  | .fall => h.level
  | _ => h.level - h.hysteresis

/-- R61: the gate length in ns. -/
def gateLength (gate1000 : Bool) : Nat := if gate1000 then 1000 * oneMs else 100 * oneMs

/-- R61: the gate restarts: the running count is dropped and a new gate begins now. -/
def restartGate (s : State) : State := { s with trg := { s.trg with gateStart := s.now, count := 0 } }

/-- R47: whether two held copies differ in slope, level or hysteresis. -/
def thresholdsDiffer (a b : TrigSettings) : Bool :=
  decide (a.slope ≠ b.slope) || a.level != b.level || a.hysteresis != b.hysteresis

/-- R47, R49, R50: what the taking of new settings does to the DAC. Where the source stays EXT, a seed is still pending and the
comparator is HIGH, the rules name two codes; the model loads that of the comparator's state, lower (DESIGN CHOICE, log 17). -/
def dacAfterTaking (old new : TrigSettings) (high : Bool) (dac : Nat) : Nat :=
  if new.source ≠ .ext then dac
  else if old.source ≠ .ext then upperOf new
  else if thresholdsDiffer old new then (if high then lowerOf new else upperOf new) else dac

/-- R47, R56: what a change of holdoff does to a running counter. -/
def holdoffAfterTaking (old new : TrigSettings) (now : Instant) (h : Option Instant) : Option Instant :=
  if old.holdoff = new.holdoff then h else h.filter (fun t => decide (now - t < new.holdoff))

/-- R47: TRG copies the TRIGGER-class fields from the record and acts on each difference. -/
def takeSettings (s : State) : State :=
  let old := s.trg.held
  let new := settingsOf s.setup
  let sourceDiffers := decide (old.source ≠ new.source)
  let s1 := { s with trg := { s.trg with
    held := new
    seedPending := s.trg.seedPending || sourceDiffers
    dac := dacAfterTaking old new s.trg.high s.trg.dac
    qualifier := if sourceDiffers || old.pulse != new.pulse || thresholdsDiffer old new then none else s.trg.qualifier
    holdoff := holdoffAfterTaking old new s.now s.trg.holdoff } }
  let s2 := if sourceDiffers || old.pulse != new.pulse || decide (old.slope ≠ new.slope) || old.gate1000 != new.gate1000
    then restartGate s1 else s1
  if sourceDiffers then deriveDrives s2 else s2

/-- R46: ACQ tells TRG that it is leaving PRE_FILL or POST_FILL: TRG takes a held change. -/
def leavePhase (s : State) : State :=
  if s.trg.changeHeld then takeSettings { s with trg := { s.trg with changeHeld := false } } else s

/-- R46, R21: SETU hands TRG a change set that changes a TRIGGER-class field. -/
def triggerChange (s : State) : State :=
  match s.acq.state with
  | .preFill => { s with trg := { s.trg with changeHeld := true } }
  | .postFill => { s with trg := { s.trg with changeHeld := true } }
  | _ => takeSettings s

/-! ### Timers and indications -/

/-- R57: the auto-wait timer becomes IDLE without expiring. -/
def stopAutoWait (s : State) : State := { s with trg := { s.trg with autoWait := none } }

/-- R57: on a READY entry in AUTO the timer starts with the auto_wait the record holds. -/
def startAutoWait (s : State) : State :=
  { s with trg := { s.trg with autoWait := some (s.now + (s.setup.get 104).toNat * oneMs) } }

/-- R56: an accepted trigger starts the holdoff counter when the held holdoff is above 0. -/
def startHoldoff (s : State) : State :=
  if s.trg.held.holdoff = 0 then s else { s with trg := { s.trg with holdoff := some s.now } }

/-- R60: the trigger pulse of 100 ns and the triggered indication of 100 ms. -/
def startIndications (s : State) : State :=
  { s with trg := { s.trg with pulse := some (s.now + 100), indication := some (s.now + 100 * oneMs) } }

/-! ### The comparator and the qualifiers -/

/-- A comparator transition, or none. -/
inductive Transition where
  | none | rising | falling
  deriving DecidableEq, Repr

/-- R48, R49: the transition that a code or EXT reading makes. -/
def transitionOf (h : TrigSettings) (high : Bool) (code : Nat) (ext : Bool) : Transition :=
  match h.source with
  | .channel _ =>
    if high then (if code ≤ lowerOf h then .falling else .none) else (if upperOf h ≤ code then .rising else .none)
  | .ext => if high then (if ext then .none else .falling) else (if ext then .rising else .none)

/-- R50: the state that the first code or reading seeds. -/
def seedOf (h : TrigSettings) (code : Nat) (ext : Bool) : Bool :=
  match h.source with
  | .channel _ => decide (upperOf h ≤ code)
  | .ext => ext

/-- R49: the DAC follows the comparator while the source is EXT. -/
def dacFor (h : TrigSettings) (high : Bool) (dac : Nat) : Nat :=
  match h.source with
  | .channel _ => dac
  | .ext => if high then lowerOf h else upperOf h

/-- R51: whether an EDGE trigger's slope names a transition. -/
def slopeNames (sl : Slope) (t : Transition) : Bool :=
  match sl, t with
  | .rise, .rising => true
  | .fall, .falling => true
  | .either, .rising => true
  | .either, .falling => true
  | _, _ => false

/-- R52: the width count stops at 4,294,967,295. -/
def pulseWidth (opened now : Instant) : Nat := min (now - opened) 4294967295

/-- R53: whether a closed pulse of this width qualifies. -/
def pulseQualifies (h : TrigSettings) (w : Nat) : Bool :=
  if h.greater then decide (h.pulseLimit < w) else decide (w < h.pulseLimit)

/-- R52: whether a transition closes the open pulse. -/
def closesPulse (sl : Slope) (t : Transition) (q : OpenPulse) : Bool :=
  match sl, t with
  | .rise, .falling => q.positive
  | .fall, .rising => !q.positive
  | .either, .rising => !q.positive
  | .either, .falling => q.positive
  | _, _ => false

/-- R52: the pulse a transition opens, if any, and otherwise what is left of the qualifier. -/
def qualifierAfter (sl : Slope) (t : Transition) (now : Instant) (q : Option OpenPulse) : Option OpenPulse :=
  match sl, t with
  | .rise, .rising => some ⟨true, now⟩
  | .fall, .falling => some ⟨false, now⟩
  | .either, .rising => some ⟨true, now⟩
  | .either, .falling => some ⟨false, now⟩
  | sl, t => q.filter (fun p => !closesPulse sl t p)

/-- R51, R53: whether a transition is, or closes, a qualifying event. -/
def isQualifying (h : TrigSettings) (t : Transition) (now : Instant) (q : Option OpenPulse) : Bool :=
  if h.pulse then
    match q with
    | some p => closesPulse h.slope t p && pulseQualifies h (pulseWidth p.opened now)
    | none => false
  else slopeNames h.slope t

/-- R48 to R53, R61: the comparator takes one code or reading; the state after it, and whether it made a qualifying event. -/
def comparatorStep (code : Nat) (ext : Bool) (s : State) : State × Bool :=
  let h := s.trg.held
  if s.trg.seedPending then
    ({ s with trg := { s.trg with seedPending := false, high := seedOf h code ext,
                                  dac := dacFor h (seedOf h code ext) s.trg.dac } }, false)
  else
    match transitionOf h s.trg.high code ext with
    | .none => (s, false)
    | t =>
      let high := decide (t = .rising)
      let hit := isQualifying h t s.now s.trg.qualifier
      ({ s with trg := { s.trg with high := high, dac := dacFor h high s.trg.dac,
                                    qualifier := if h.pulse then qualifierAfter h.slope t s.now s.trg.qualifier else s.trg.qualifier,
                                    count := if hit then s.trg.count + 1 else s.trg.count } }, hit)

/-! ### Outputs -/

/-- R64: the AUX output; true is HIGH. -/
def auxOut (s : State) : Bool :=
  match s.trg.auxMode with
  | none => false
  | some 0 => s.trg.squareHigh
  | some 1 => s.trg.pulse.isSome
  | some 2 => false
  | some _ => true

/-! ### The commands -/

/-- R56: the holdoff counter reaches the held holdoff. -/
def holdoffEnds (s : State) : State :=
  match s.trg.holdoff with
  | none => s
  | some t => reach (t + s.trg.held.holdoff) { s with trg := { s.trg with holdoff := none } }

/-- HOLDOFF_END, R56. -/
def execHoldoffEnd (s : State) : Host.Outcome State Fault Refusal := whenUp holdoffEnds s

/-- R60: the trigger pulse becomes IDLE. -/
def triggerPulseEnds (s : State) : State :=
  match s.trg.pulse with
  | none => s
  | some t => reach t { s with trg := { s.trg with pulse := none } }

/-- TRIGGER_PULSE_END, R60. -/
def execTriggerPulseEnd (s : State) : Host.Outcome State Fault Refusal := whenUp triggerPulseEnds s

/-- R60: the triggered indication turns OFF. -/
def indicationEnds (s : State) : State :=
  match s.trg.indication with
  | none => s
  | some t => reach t { s with trg := { s.trg with indication := none } }

/-- TRIGGERED_INDICATION_END, R60. -/
def execTriggeredIndicationEnd (s : State) : Host.Outcome State Fault Refusal := whenUp indicationEnds s

/-- R62: the running count becomes the result; an unread result is lost with COUNTER_OVERRUN. R61: a new gate begins.
The cause detail is the held gate length, that of the gate which ends; R62 does not say which of the two gates it means where
counter_gate has changed since the lost result (DESIGN CHOICE, log 17). -/
def gateEnds (s : State) : State :=
  let s0 := reach (s.trg.gateStart + gateLength s.trg.held.gate1000) s
  let unread := s.trg.result.valid && !s.trg.result.read
  let s1 := if unread then
      latchCondition .counterOverrun (.gate s.trg.held.gate1000)
        { s0 with trg := { s0.trg with result := { s0.trg.result with overrun := true } } }
    else s0
  { s1 with trg := { s1.trg with
      result := ⟨true, s.trg.count, s.trg.held.gate1000, false, s1.trg.result.overrun⟩
      gateStart := s.trg.gateStart + gateLength s.trg.held.gate1000, count := 0 } }

/-- GATE_END, R61 and R62. -/
def execGateEnd (s : State) : Host.Outcome State Fault Refusal := whenUp gateEnds s

/-- R64: the AUX square wave toggles every 500 µs. -/
def squareWaveToggles (s : State) : State :=
  reach s.trg.squareNext
    { s with trg := { s.trg with squareHigh := !s.trg.squareHigh, squareNext := s.trg.squareNext + 500 * oneUs } }

/-- AUX_SQUARE_WAVE_TOGGLE, R64. -/
def execAuxSquareWaveToggle (s : State) : Host.Outcome State Fault Refusal := whenUp squareWaveToggles s

/-- R63: COUNTER_READ replies with the result, then sets read and clears overrun. -/
def counterReadOf (tag : Byte) (payload : List Byte) (s : State) : State :=
  match parseNothing payload with
  | none => reply 0x36 tag .badArg .empty s
  | some _ =>
    let r := s.trg.result
    let s1 := reply 0x36 tag .ok
      (.counter r.valid (if r.valid then r.count else 0) (if r.valid then r.gate1000 else s.trg.held.gate1000) r.overrun) s
    { s1 with trg := { s1.trg with result := { r with read := true, overrun := false } } }

/-- COUNTER_READ, R63. -/
def execCounterRead (tag : Byte) (payload : List Byte) (s : State) : Host.Outcome State Fault Refusal :=
  request 0x36 tag payload (counterReadOf tag payload) s

end Sys2Proof.Machine
end

