-- ==== Sys2Proof/Machine/Capture.lean ====
section
/-! DEFINITION. Arming and the phases of the FILLING segment (sections 5.3, 5.4), and what a release of pages or of a segment
pin sets going: the retry of a pending allocation (R73). -/

namespace Sys2Proof.Machine

/-- ACQ enters a state. -/
def setAcq (st : AcqState) (s : State) : State := { s with acq := { s.acq with state := st } }

/-- R91: the ACQ_STATE report of a change that left `left`, with the run count and last seq as they stand. -/
def reportAcq (left : AcqState) (cause : AcqCause) (s : State) : State :=
  offer (.acqState s.acq.state left cause s.acq.runCount s.acq.lastSeq) s

/-- R104: ACQ takes a trigger in READY: it records the instant and the mark and enters POST_FILL. -/
def acqTrigger (forced : Bool) (s : State) : State :=
  setAcq .postFill
    { s with acq := { s.acq with ctx := s.acq.ctx.map (fun c => { c with trigger := some s.now, forced := forced }) } }

/-- R59: TRG takes a forced trigger at the present instant. -/
def forceTrigger (s : State) : State := startIndications (acqTrigger true (stopAutoWait s))

/-- R54: TRG takes an accepted trigger at the present instant. -/
def acceptTrigger (s : State) : State := startIndications (acqTrigger false (startHoldoff (stopAutoWait s)))

/-- R103: the entry to READY. A trigger with P = N completes the segment at once; the callers see to that (R105). -/
def enterReady (s : State) : State :=
  let s1 := leavePhase (setAcq .ready s)
  let s2 := if s1.setup.get 83 = 0 then startAutoWait s1 else s1
  if s2.acq.forcePending then forceTrigger { s2 with acq := { s2.acq with forcePending := false } } else s2

/-- R98: the capture context of a new segment. -/
def newContext (q : CaptureRequest) (seq : Nat) : Capture :=
  { seq := seq, set := q.set, n := q.n, d := sampleInterval q.decimation, p := q.p, phase := 0, ring := 0, post := 0,
    trigger := none, forced := false, clips := .replicate 4 [] }

/-- R102: an allocation has succeeded: ACQ enters PRE_FILL, and READY at once if P = 0. -/
def enterPreFill (q : CaptureRequest) (seq : Nat) (s : State) : State :=
  let s1 := setAcq .preFill { s with acq := { s.acq with ctx := some (newContext q seq) } }
  if q.p = 0 then enterReady s1 else s1

/-- R98: the capture parameters of the active setup as it stands. -/
def captureRequest (s : State) : CaptureRequest :=
  { set := s.setup.channelSet, n := s.setup.n, decimation := (s.setup.get 81).toNat, p := s.setup.p,
    scales := .ofFn (fun c => s.setup.scale c), generation := s.generation }

/-- R73: the pending allocation, if there is one, is tried again; a retry that fails leaves it pending. -/
def retryPending (s : State) : State :=
  match s.mem.pendingAlloc with
  | none => s
  | some q =>
    match allocate q s with
    | (s1, none) => s1
    | (s1, some seq) => enterPreFill q seq { s1 with mem := { s1.mem with pendingAlloc := none } }

/-- R67: a release of pages, and the retry that follows it. -/
def releasePages (ps : List Nat) (s : State) : State := retryPending (freePages ps s)

/-- R76: a record is removed from the table. -/
def removeSegment (seq : Nat) (s : State) : State := retryPending (dropSegment seq s)

/-- R78: a holder releases its pin on a segment; a STALE record without holders is removed. -/
def releaseSegPin (h : Holder) (seq : Nat) (s : State) : State :=
  match findSeg seq s with
  | none => s
  | some r =>
    if hasPin h r.pins then
      let s1 := modSeg seq (fun x => { x with pins := setPin h false x.pins }) s
      if r.state = .stale ∧ unpinned { r with pins := setPin h false r.pins } = true then removeSegment seq s1
      else retryPending s1
    else s

/-- R98, R72, R73: ACQ hands MEM a capture allocation: it enters PRE_FILL with the new segment, or STARVED. -/
def requestAllocation (s : State) : State :=
  let q := captureRequest s
  match allocate q s with
  | (s1, some seq) => enterPreFill q seq s1
  | (s1, none) =>
    latchCondition .starved (.pages (pagesForRequest q))
      (setAcq .starved { s1 with mem := { s1.mem with pendingAlloc := some q } })

/-- R98: ACQ arms: SETTLING while the settle timer runs, else a capture allocation. -/
def arm (s : State) : State := if s.fec.settle.isSome then setAcq .settling s else requestAllocation s

/-- R109: the discard of the FILLING segment, without what follows it. -/
def discard (s : State) : State :=
  let s1 := match s.acq.ctx with
    | some c => removeSegment c.seq s
    | none => s
  let s2 := stopAutoWait (leavePhase s1)
  { s2 with acq := { s2.acq with forcePending := false, ctx := none } }

/-- R73: ACQ withdraws the pending allocation. -/
def withdraw (s : State) : State := { s with mem := { s.mem with pendingAlloc := none } }

/-- R95, R107, R111, R112: ACQ enters STOPPED: the two pending flags are cleared and ACQ_STATE is offered. -/
def enterStopped (cause : AcqCause) (s : State) : State :=
  reportAcq s.acq.state cause
    { s with acq := { s.acq with state := .stopped, singlePending := false, forcePending := false } }

/-- R95, R111, R112: a run is ended by force: the segment is discarded or the pending allocation withdrawn; then STOPPED.
In STOPPED and CALIBRATING there is nothing to end. -/
def endRun (cause : AcqCause) (s : State) : State :=
  match s.acq.state with
  | .stopped => s
  | .calibrating => s
  | .settling => enterStopped cause s
  | .starved => enterStopped cause (withdraw s)
  | .preFill => enterStopped cause (discard s)
  | .ready => enterStopped cause (discard s)
  | .postFill => enterStopped cause (discard s)

/-- R110: a capture change, by the state of ACQ. -/
def captureChange (s : State) : State :=
  match s.acq.state with
  | .stopped => s
  | .calibrating => s
  | .settling => s
  | .starved => arm (withdraw s)
  | .preFill => arm (discard s)
  | .ready => arm (discard s)
  | .postFill => arm (discard s)

/-- R111: ACQ is told of a protection trip. -/
def acqTrip (s : State) : State :=
  if s.setup.get 85 = 1 then endRun .protect s
  else
    match s.acq.state with
    | .stopped => s
    | .calibrating => s
    | .settling => s
    | .starved => arm (withdraw s)
    | .preFill => arm (discard s)
    | .ready => arm (discard s)
    | .postFill => arm (discard s)

end Sys2Proof.Machine
end

