-- ==== Sys2Proof/Machine/Render.lean ====
section
/-! DEFINITION. RND: the render queue, the passes, the column and row arithmetic, persistence and decay; and the release of
reference pins, which can complete a swap and so set redraw pending (R83, R85, R119). -/

namespace Sys2Proof.Machine

/-! ### Column and row arithmetic, section 6.5 -/

/-- R128: L_e. -/
def windowSpan (l n : Nat) : Nat := min l n
/-- R128: S_e. -/
def windowStart (st l n : Nat) : Nat := min st (n - windowSpan l n)

/-- R129, R130: the first logical sample of column j. -/
def columnFirst (st l n j : Nat) : Nat := windowStart st l n + j * windowSpan l n / 700

/-- R129, R130: the last logical sample of column j. -/
def columnLast (st l n j : Nat) : Nat :=
  if 700 ≤ windowSpan l n then windowStart st l n + (j + 1) * windowSpan l n / 700 - 1 else columnFirst st l n j

/-- The codes of the samples a column covers. -/
def columnCodes (code : Nat → Nat) (st l n j : Nat) : List Nat :=
  (List.range (columnLast st l n j + 1 - columnFirst st l n j)).map (fun i => code (columnFirst st l n j + i))

/-- The lowest of a list of codes. -/
def minCodes (cs : List Nat) : Nat := cs.foldl min 255
/-- The highest of a list of codes. -/
def maxCodes (cs : List Nat) : Nat := cs.foldl max 0

/-- R131, steps 1 to 5: the row of a code before the clamp. -/
def rawRow (c : Nat) (fine position : Int) (invert : Bool) : Int :=
  200 - (2 * ((if invert then 255 - (c : Int) else (c : Int)) - 128) * fine / 64 + position)

/-- R131, step 6: the clamped row. -/
def rowOf (c : Nat) (fine position : Int) (invert : Bool) : Nat := (clampInt 0 399 (rawRow c fine position invert)).toNat

/-- An invalid column entry (R116). -/
def invalidEntry : ColEntry := ⟨false, 0, 0, 0, 0, false, false⟩

/-- R131, R134: the column entry of a minimum and a maximum code. -/
def columnEntry (lo hi : Nat) (fine position : Int) (invert : Bool) : ColEntry :=
  { valid := true, minCode := lo, maxCode := hi,
    rlo := min (rowOf lo fine position invert) (rowOf hi fine position invert),
    rhi := max (rowOf lo fine position invert) (rowOf hi fine position invert),
    top := decide (rawRow lo fine position invert < 0) || decide (rawRow hi fine position invert < 0),
    bottom := decide (399 < rawRow lo fine position invert) || decide (399 < rawRow hi fine position invert) }

/-- R129 to R131: the 700 column entries of a drawing. -/
def drawTable (code : Nat → Nat) (st l n : Nat) (fine position : Int) (invert : Bool) : List ColEntry :=
  (List.range 700).map (fun j =>
    columnEntry (minCodes (columnCodes code st l n j)) (maxCodes (columnCodes code st l n j)) fine position invert)

/-- R132: the drawn span of a column, given the column before it. -/
def drawnSpan (vectors : Bool) (prev : Option ColEntry) (e : ColEntry) : Nat × Nat :=
  match vectors, prev with
  | true, some q =>
    if q.rhi < e.rlo then (q.rhi, e.rhi) else if e.rhi < q.rlo then (e.rlo, q.rlo) else (e.rlo, e.rhi)
  | _, _ => (e.rlo, e.rhi)

/-- The address of the cell at column j and row r of a plane. -/
def cellAddr (j r : Nat) : Nat := j * 400 + r

/-- The cells of a drawn span of column j. -/
def spanCells (j : Nat) (sp : Nat × Nat) : List Nat :=
  (List.range (sp.2 + 1 - sp.1)).map (fun i => cellAddr j (sp.1 + i))

/-- R132: the cells that the drawing of a table hits; `j` is the column of the first entry. -/
def hitCells (vectors : Bool) (j : Nat) (prev : Option ColEntry) (es : List ColEntry) : List Nat :=
  match es with
  | [] => []
  | e :: rest => spanCells j (drawnSpan vectors prev e) ++ hitCells vectors (j + 1) (some e) rest

/-- R133: a cell after a hit; `weight` is `none` in persistence OFF. -/
def hitCell (weight : Option Nat) (cell : Byte) : Byte :=
  match weight with
  | none => 255
  | some w => BitVec.ofNat 8 (min 255 (cell.toNat + w))

/-- R133: hit each of a list of cells once. -/
def hitAll (weight : Option Nat) (cells : List Nat) (plane : Store) : Store :=
  cells.foldl (fun m a => storeWrite m a (hitCell weight (storeRead m a))) plane

/-- R138: one decay of a cell. -/
def decayCell (amount : Nat) (cell : Byte) : Byte := BitVec.ofNat 8 (cell.toNat - ceilDiv (cell.toNat * amount) 256)

/-! ### The redraw and the queue -/

/-- R118: the entries are removed and each RENDER pin but that of `keep` is released, oldest first. -/
def emptyQueue (keep : Option Nat) (s : State) : State :=
  (s.rnd.queue.filter (fun q => decide (some q ≠ keep))).foldl (fun s q => releaseSegPin .render q s)
    { s with rnd := { s.rnd with queue := [] } }

/-- R125: the segment that a REDRAW views, from the fields it reads. -/
def viewedSeq (s : State) : Option Nat :=
  if s.setup.viewFixed then s.rnd.viewPin.filter (fun q => decide (q = s.setup.viewSeq ∧ q ≠ 0))
  else (newestComplete s).map (·.seq)

/-- R122 step 2: the viewed segment is pinned RENDER; `none` where there is none or the pin is refused. -/
def pinViewed (s : State) : State × Option Nat :=
  match viewedSeq s with
  | none => (s, none)
  | some q => if (pinSegment .render q s).2 then ((pinSegment .render q s).1, some q) else (s, none)

/-- Whether reference trace n is visible. -/
def refVisible (r : Setup) (n : Fin 4) : Bool := r.get (refField n 0) == 1

/-- R122 step 4: each visible reference with contents is pinned RENDER. -/
def pinVisibleRefs (s : State) : State :=
  channels.foldl (fun s n => if refVisible s.setup n then (pinRef false n s).1 else s) s

/-- The data of reference trace n at the start of a REDRAW: its contents, if it is visible and has some. -/
def refData (n : Fin 4) (s : State) : Option RefData :=
  if refVisible s.setup n then (s.mem.refs[n].contents).map (fun c => ⟨c.n, s.mem.refs[n].pages⟩) else none

/-- R122: the start of a REDRAW pass. -/
def startRedraw (s : State) : State :=
  let s0 := { s with rnd := { s.rnd with redraw := false } }
  let pv := pinViewed s0
  let s1 := pinVisibleRefs (emptyQueue pv.2 pv.1)
  { s1 with rnd := { s1.rnd with
      work := .replicate 8 [], workTab := .replicate 8 []
      pass := some { kind := .redraw, seg := pv.2.bind (fun q => findSeg q s1), refs := .ofFn (fun n => refData n s1),
                     setup := s1.setup } } }

/-- R123: the start of a SEGMENT pass on the head entry, whose RENDER pin becomes the pass's. -/
def startSegmentPass (seq : Nat) (rest : List Nat) (s : State) : State :=
  { s with rnd := { s.rnd with
      queue := rest
      pass := some { kind := .segment, seg := findSeg seq s, refs := .replicate 4 none, setup := s.setup } } }

/-- R121: RND selects a pass, provided none runs. -/
def selectPass (s : State) : State :=
  if s.rnd.pass.isSome then s
  else if s.rnd.redraw then startRedraw s
  else
    match s.rnd.queue with
    | [] => s
    | q :: rest => startSegmentPass q rest s

/-- R119: redraw pending is set, and a pass is selected if none runs. -/
def setRedraw (s : State) : State := selectPass { s with rnd := { s.rnd with redraw := true } }

/-- R117 step 2: a full queue drops its oldest entry and releases its pin. -/
def dropOldestEntry (s : State) : State :=
  match s.rnd.queue with
  | [] => s
  | q :: rest =>
    if Config.renderQueueSize ≤ s.rnd.queue.length then
      releaseSegPin .render q { s with rnd := { s.rnd with queue := rest } }
    else s

/-- R117: ACQ hands RND the seq of a segment it has completed. -/
def renderArrival (seq : Nat) (s : State) : State :=
  if (pinSegment .render seq s).2 then
    let s1 := dropOldestEntry (pinSegment .render seq s).1
    selectPass { s1 with rnd := { s1.rnd with queue := s1.rnd.queue ++ [seq] } }
  else s

/-! ### Reference pins and the swap -/

/-- R83: the swap: the copy list becomes the current list and the slot VALID; the old list is one release. -/
def swapRef (n : Fin 4) (s : State) : State :=
  match s.mem.refs[n].copy with
  | none => s
  | some c =>
    let old := s.mem.refs[n].pages
    let s1 := modRef n (fun r => { r with state := .valid, contents := some c.contents, pages := c.pages, copy := none }) s
    let s2 := if old = [] then s1 else releasePages old s1
    offer (.refDone n false c.contents.seq c.contents.channel) (setRedraw s2)

/-- R85: the set of holders of a slot has emptied. -/
def refUnpinned (n : Fin 4) (s : State) : State :=
  match s.mem.refs[n].state with
  | .valid => s
  | .copying =>
    match s.mem.refs[n].copy with
    | some c => if c.phase = .waitUnpin then swapRef n s else s
    | none => s
  | .empty =>
    if s.mem.refs[n].pages = [] then s
    else releasePages s.mem.refs[n].pages (modRef n (fun r => { r with pages := [] }) s)

/-- R85: RND or XFR releases its pin on a slot's current list. -/
def releaseRefPin (transfer : Bool) (n : Fin 4) (s : State) : State :=
  let held := if transfer then s.mem.refs[n].pinTransfer else s.mem.refs[n].pinRender
  if held then
    let s1 := modRef n (fun r => if transfer then { r with pinTransfer := false } else { r with pinRender := false }) s
    if s1.mem.refs[n].pinRender || s1.mem.refs[n].pinTransfer then s1 else refUnpinned n s1
  else s

/-! ### The end of a pass -/

/-- A trace number of a channel. -/
def chTrace (n : Channel) : Trace := ⟨n.val, by omega⟩
/-- A trace number of a reference. -/
def refTrace (n : Fin 4) : Trace := ⟨4 + n.val, by omega⟩

/-- R133, R136: the weight of a hit in the persistence mode of a setup; `none` in OFF. -/
def hitWeight (r : Setup) : Option Nat := if r.get 116 = 0 then none else some (r.get 119).toNat

/-- R122, R123, R135: what a pass makes of one trace's work plane: cleared and left, or cleared or kept and then drawn. -/
def drawTrace (t : Trace) (clear : Bool) (tab : List ColEntry) (p : Pass) (s : State) : State :=
  let base := if clear then [] else s.rnd.work[t]
  { s with rnd := { s.rnd with
      work := s.rnd.work.set t (hitAll (hitWeight p.setup) (hitCells (p.setup.get 120 == 1) 0 none tab) base)
      workTab := s.rnd.workTab.set t tab } }

/-- R122, R123: the column table that a pass draws for a channel trace; empty for an undrawn trace (R135). -/
def channelTable (n : Channel) (p : Pass) (dram : Store) : List ColEntry :=
  match p.seg with
  | some r =>
    if p.setup.enabled n && r.set[n] then
      drawTable (fun i => (segmentSample dram r n i).toNat) p.setup.viewStart p.setup.viewSpan r.n
        (p.setup.get (chField n 2)) (p.setup.get (chField n 3)) (p.setup.get (chField n 7) == 1)
    else []
  | none => []

/-- R122, section 6.5: the column table of a reference trace; drawn with invert OFF. -/
def refTable (n : Fin 4) (p : Pass) (dram : Store) : List ColEntry :=
  match p.refs[n] with
  | some d =>
    drawTable (fun i => (readPosition dram d.pages i).toNat) p.setup.viewStart p.setup.viewSpan d.n
      (p.setup.get (refField n 2)) (p.setup.get (refField n 1)) false
  | none => []

/-- R122, R123: the drawing of a pass. A SEGMENT pass accumulates on a drawn channel in DECAY and INFINITE, and does not
touch the references. -/
def drawPass (p : Pass) (s : State) : State :=
  let s1 := channels.foldl (fun s n =>
    let tab := channelTable n p s.mem.dram
    drawTrace (chTrace n) (decide (p.kind = .redraw) || tab.isEmpty || p.setup.get 116 == 0) tab p s) s
  match p.kind with
  | .segment => s1
  | .redraw => channels.foldl (fun s n => drawTrace (refTrace n) true (refTable n p s.mem.dram) p s) s1

/-- R145: the marker basis of a pass. -/
def passBasis (p : Pass) : Option MarkerBasis :=
  p.seg.map (fun r => ⟨r.n, r.p, p.setup.viewStart, p.setup.viewSpan⟩)

/-- R124 step 1, R145: the commit, and the marker basis it hands CMP. -/
def commitPass (p : Pass) (s : State) : State :=
  { s with rnd := { s.rnd with shown := s.rnd.work, shownTab := s.rnd.workTab }, cmp := { s.cmp with basis := passBasis p } }

/-- R124 step 2: the pass's pins are released. The spec gives the slots no order; the model goes from REF1 to REF4 (DESIGN CHOICE,
log 13). -/
def releasePassPins (p : Pass) (s : State) : State :=
  let s1 := match p.seg with
    | some r => releaseSegPin .render r.seq s
    | none => s
  channels.foldl (fun s n => if (p.refs[n]).isSome then releaseRefPin false n s else s) s1

/-- R138: one decay of all sixteen planes. -/
def applyDecay (s : State) : State :=
  let f := storeMap (fun _ c => decayCell (s.setup.get 118).toNat c)
  { s with rnd := { s.rnd with work := s.rnd.work.map f, shown := s.rnd.shown.map f } }

/-- R124 steps 3 and 4. -/
def finishPass (s : State) : State :=
  let s1 := if s.rnd.decayPending then applyDecay { s with rnd := { s.rnd with decayPending := false } } else s
  selectPass { s1 with rnd := { s1.rnd with pass := none } }

/-- R124: a pass ends. -/
def passEnds (s : State) : State :=
  match s.rnd.pass with
  | none => s
  | some p => finishPass (releasePassPins p (commitPass p (drawPass p s)))

/-- RENDER_PASS_END, R124. -/
def execRenderPassEnd (s : State) : Host.Outcome State Fault Refusal := whenUp passEnds s

/-- R138: the decay timer expires: one decay now, or one pending during a pass; R137: the timer reloads itself. -/
def decayExpires (s : State) : State :=
  match s.rnd.decay with
  | none => s
  | some t =>
    let s1 := reach t { s with rnd := { s.rnd with decay := some (t + (s.setup.get 117).toNat * oneMs) } }
    if s1.rnd.pass.isSome then { s1 with rnd := { s1.rnd with decayPending := true } } else applyDecay s1

/-- DECAY_EXPIRY, R138. -/
def execDecayExpiry (s : State) : Host.Outcome State Fault Refusal := whenUp decayExpires s

/-- R120: CLEAR_PERSIST sets redraw pending. -/
def clearPersistOf (tag : Byte) (payload : List Byte) (s : State) : State :=
  match parseNothing payload with
  | none => reply 0x50 tag .badArg .empty s
  | some _ => reply 0x50 tag .ok .empty (setRedraw s)

/-- CLEAR_PERSIST, R120. -/
def execClearPersist (tag : Byte) (payload : List Byte) (s : State) : Host.Outcome State Fault Refusal :=
  request 0x50 tag payload (clearPersistOf tag payload) s

end Sys2Proof.Machine
end

