-- ==== Sys2Proof/Machine/Acquire.lean ====
section
/-! DEFINITION. ACQ: run starts and ends, completion, and the sample-clock instant (SAMPLE_CODE); FEC's protection, sample-clock
monitor and calibration procedure (sections 2.4 to 2.6), whose effects end in ACQ. -/

namespace Sys2Proof.Machine

/-! ### Completion, section 5.5 -/

/-- R106 step 1, R104: the completed record. -/
def completedRecord (c : Capture) (runStart : Instant) (r : SegRec) : SegRec :=
  { r with state := .complete, triggerTime := c.trigger.getD 0 - runStart, forced := c.forced,
           origin := if c.p = 0 then 0 else c.ring % c.p,
           clipped := .ofFn (fun n => c.set[n] && !c.clips[n].isEmpty) }

/-- R106 steps 1 to 3. -/
def recordCompletion (c : Capture) (s : State) : State :=
  let s1 := modSeg c.seq (completedRecord c (s.acq.runStart.getD 0)) s
  let s2 := leavePhase { s1 with acq := { s1.acq with ctx := none } }
  { s2 with acq := { s2.acq with runCount := min (s2.acq.runCount + 1) 4294967295, lastSeq := c.seq } }

/-- R106 step 4. -/
def queueForRender (seq : Nat) (s : State) : State := if s.setup.viewFixed then s else renderArrival seq s

/-- R106 step 5, R108. -/
def notifySegment (c : Capture) (s : State) : State :=
  if s.setup.get 86 = 1 then
    offer (.segment c.seq c.forced (.ofFn (fun n => c.set[n] && !c.clips[n].isEmpty)) s.acq.runCount) s
  else s

/-- R107: the run ends, or ACQ arms again. -/
def endOrRearm (s : State) : State :=
  if s.acq.singlePending then enterStopped .singleDone s
  else if 0 < s.setup.get 84 ∧ s.setup.get 84 ≤ s.acq.runCount then enterStopped .stopAfter s
  else arm s

/-- R106: the completion of the segment in flight. -/
def complete (c : Capture) (s : State) : State :=
  endOrRearm (notifySegment c (queueForRender c.seq (recordCompletion c s)))

/-- R105: in POST_FILL with all N - P samples written, the segment is complete. -/
def completeIfFull (s : State) : State :=
  match s.acq.state, s.acq.ctx with
  | .postFill, some c => if c.n ≤ c.p + c.post then complete c s else s
  | _, _ => s

/-! ### One sample-clock instant, section 5.4 -/

/-- The stored position of the next group start, by the state; `none` where nothing is stored (R101, R102). -/
def nextPosition (st : AcqState) (c : Capture) : Option Nat :=
  match st with
  | .preFill => if c.p = 0 then none else some (c.ring % c.p)
  | .ready => if c.p = 0 then none else some (c.ring % c.p)
  | .postFill => some (c.p + c.post)
  | _ => none

/-- R101: whether a code is a clip code. -/
def isClip (b : Byte) : Bool := decide (b = 0 ∨ b = 255)

/-- R101, R106: the clip notes of a channel after a code is stored at a position. -/
def noteClip (q : Nat) (b : Byte) (notes : List Nat) : List Nat :=
  if isClip b then q :: notes.erase q else notes.erase q

/-- R101: store one code of each captured channel at a position. -/
def storeCodes (c : Capture) (q : Nat) (codes : Vector Byte 4) (s : State) : State :=
  match findSeg c.seq s with
  | none => s
  | some r =>
    let d1 := channels.foldl (fun d n => if c.set[n] then writePosition d r.pages[n] q codes[n] else d) s.mem.dram
    { s with mem := { s.mem with dram := d1 } }

/-- The counters of the context after a group start in a state (R101). -/
def countGroup (st : AcqState) (q : Nat) (codes : Vector Byte 4) (c : Capture) : Capture :=
  let c1 := { c with clips := .ofFn (fun n => noteClip q codes[n] c.clips[n]) }
  match st with
  | .postFill => { c1 with post := c.post + 1 }
  | _ => { c1 with ring := c.ring + 1 }

/-- R102: the ring is full in PRE_FILL: ACQ enters READY, where a pending force can complete a segment with P = N.
A pending force taken at that entry falls at the instant of the P-th ring write: the group written stays in the ring, and position P
is written at the next group start. R103 and R104 do not say to which side that group belongs (DESIGN CHOICE, log 17). -/
def readyIfFilled (s : State) : State :=
  match s.acq.state, s.acq.ctx with
  | .preFill, some c => if c.p ≤ c.ring then completeIfFull (enterReady s) else s
  | _, _ => s

/-- R101: the context counts one sample-clock instant. -/
def countInstant (s : State) : State :=
  { s with acq := { s.acq with ctx := s.acq.ctx.map (fun c => { c with phase := if c.phase + 1 < c.d then c.phase + 1 else 0 }) } }

/-- R101 to R105: ACQ takes one sample-clock instant. -/
def acqInstant (codes : Vector Byte 4) (s : State) : State :=
  match s.acq.ctx with
  | none => s
  | some c =>
    if c.phase = 0 then
      match nextPosition s.acq.state c with
      | none => countInstant s
      | some q =>
        let s1 := storeCodes c q codes s
        completeIfFull (readyIfFilled
          (countInstant { s1 with acq := { s1.acq with ctx := some (countGroup s.acq.state q codes c) } }))
    else countInstant s

/-- The seq of the segment in flight. -/
def flightSeq (s : State) : Option Nat := s.acq.ctx.map (·.seq)

/-- R101: an instant at which a segment ends and the next enters PRE_FILL is also the next one's group 0 (log 13). -/
def acqInstants (codes : Vector Byte 4) (s : State) : State :=
  let s1 := acqInstant codes s
  if (flightSeq s).isSome ∧ (flightSeq s1).isSome ∧ flightSeq s ≠ flightSeq s1 then acqInstant codes s1 else s1

/-- The code that the comparator sees: the corrected code of the source channel (R48). -/
def sourceCode (codes : Vector Byte 4) (s : State) : Nat :=
  match s.trg.held.source with
  | .channel n => codes[n].toNat
  | .ext => 0

/-- R31: the corrected codes of the four channels. -/
def correctedCodes (raw : Vector Byte 4) (s : State) : Vector Byte 4 := .ofFn (fun n => correctedCode n raw[n] s)

/-- R54: a qualifying event is accepted when ACQ is READY and the holdoff counter is IDLE. -/
def offerEvent (hit : Bool) (s : State) : State :=
  if hit ∧ s.acq.state = .ready ∧ s.trg.holdoff = none then completeIfFull (acceptTrigger s) else s

/-- R35: how many raw codes a calibration step sums. -/
def calStepCodes : Nat := 256

/-- R35: while the settle timer is IDLE, the calibration step in progress sums the raw codes of its channel. -/
def sumCodes (raw : Vector Byte 4) (s : State) : State :=
  match s.fec.calStep with
  | none => s
  | some k =>
    if s.fec.settle = none ∧ s.fec.calCodes < calStepCodes then
      { s with fec := { s.fec with calSum := s.fec.calSum + (raw[k.val / 13]'(by omega)).toNat,
                                   calCodes := s.fec.calCodes + 1 } }
    else s

/-- SAMPLE_CODE's effect: FEC (R31, R35), then TRG (R48 to R54), then ACQ (R101 to R106). -/
def sampleInstant (raw : Vector Byte 4) (ext : Bool) (s : State) : State :=
  let codes := correctedCodes raw s
  let cs := comparatorStep (sourceCode codes s) ext (sumCodes raw s)
  acqInstants codes (offerEvent cs.2 cs.1)

/-- The next sample-clock instant. -/
def nextInstant (s : State) : State := { s with now := s.now + 1 }

/-- SAMPLE_CODE, R48: it acts at the present instant, which then passes. -/
def execSampleCode (c1 c2 c3 c4 : Byte) (ext : Bool) (s : State) : Host.Outcome State Fault Refusal :=
  if s.lnk.startUp then .next (nextInstant s) else .next (nextInstant (sampleInstant #v[c1, c2, c3, c4] ext s))

/-- AUTO_WAIT_EXPIRY's effect, R58. -/
def autoWaitExpires (s : State) : State :=
  match s.trg.autoWait with
  | none => s
  | some t =>
    let s1 := reach t (stopAutoWait s)
    if s1.acq.state = .ready then completeIfFull (forceTrigger s1) else s1

/-- AUTO_WAIT_EXPIRY, R58. -/
def execAutoWaitExpiry (s : State) : Host.Outcome State Fault Refusal := whenUp autoWaitExpires s

/-! ### Settling -/

/-- R30, R99: the settle timer becomes IDLE; in SETTLING, ACQ requests the allocation. -/
def settleExpires (s : State) : State :=
  match s.fec.settle with
  | none => s
  | some t =>
    let s1 := reach t { s with fec := { s.fec with settle := none } }
    if s1.acq.state = .settling then requestAllocation s1 else s1

/-- SETTLE_TIMER_EXPIRY, R30. -/
def execSettleTimerExpiry (s : State) : Host.Outcome State Fault Refusal := whenUp settleExpires s

/-! ### Protection, section 2.5 -/

/-- R176: a sound of kind BEEP or CLICK starts now, replacing any other. -/
def startSound (frequency duration : Nat) (click : Bool) (s : State) : State :=
  { s with pnl := { s.pnl with beeper := some ⟨frequency, s.now + duration * oneMs, click⟩ } }

/-- R41 steps 1 to 3. -/
def tripProtect (ch : Channel) (s : State) : State :=
  latchCondition (.protect ch) (.acqState s.acq.state) (extendSettle (5 * oneMs) (setProtect ch s))

/-- R41: a trip of a channel. -/
def tripChannel (ch : Channel) (s : State) : State :=
  let s1 := tripProtect ch s
  acqTrip (if s1.setup.get 162 = 1 then startSound 2000 500 false s1 else s1)

/-- R41: the trips of the channels whose relay has been driven to OHM50 while their sense is active. Where one derivation drives
several, the spec gives no order; the model takes them in ascending channel number (DESIGN CHOICE, log 13). -/
def checkTrips (s : State) : State := channels.foldl (fun s n => if isTripping n s then tripChannel n s else s) s

/-- R41: the overload sense of a channel becomes active. -/
def senseActive (ch : Channel) (s : State) : State :=
  let s1 := { s with fec := { s.fec with sense := s.fec.sense.set ch true } }
  if !s1.lnk.startUp && isTripping ch s1 then tripChannel ch s1 else s1

/-- TRIP, R41: the sense becomes active with the relay at OHM50. -/
def execTrip (ch : Channel) (s : State) : Host.Outcome State Fault Refusal := .next (senseActive ch s)

/-- OVERLOAD_SENSE_ACTIVE, R41: the sense becomes active; with the relay at MEG1 no trip occurs. -/
def execOverloadSenseActive (ch : Channel) (s : State) : Host.Outcome State Fault Refusal := .next (senseActive ch s)

/-- OVERLOAD_SENSE_INACTIVE, R42. -/
def execOverloadSenseInactive (ch : Channel) (s : State) : Host.Outcome State Fault Refusal :=
  .next { s with fec := { s.fec with sense := s.fec.sense.set ch false } }

/-- R42: the latch is cleared; outside calibration the relay returns and ACQ is told. -/
def clearProtectChannel (ch : Channel) (s : State) : State :=
  let s1 := clearLatch ch s
  if s1.fec.calStep.isSome then s1 else captureChange (extendSettle (5 * oneMs) (deriveDrives s1))

/-- R42. -/
def clearProtectOf (tag : Byte) (payload : List Byte) (s : State) : State :=
  match parseByte payload with
  | none => reply 0x35 tag .badArg .empty s
  | some b =>
    match oneOfFour b.toNat with
    | none => reply 0x35 tag .badArg .empty s
    | some ch =>
      if s.fec.latch[ch] then
        if s.fec.sense[ch] then reply 0x35 tag .stillActive .empty s
        else reply 0x35 tag .ok .empty (clearProtectChannel ch s)
      else reply 0x35 tag .ok .empty s

/-- CLEAR_PROTECT, R42. -/
def execClearProtect (tag : Byte) (payload : List Byte) (s : State) : Host.Outcome State Fault Refusal :=
  request 0x35 tag payload (clearProtectOf tag payload) s

/-! ### Calibration, section 2.4 -/

/-- R34: the drive state that calibration forces: scale 0, input grounded. -/
def calDrive : Drive := ⟨true, .div1, 0, .dc, .meg1, .full, true⟩

/-- R34: the procedure starts. -/
def calStarts (s : State) : State :=
  let s1 := { s with fec := { s.fec with staged := .replicate 52 0, calStep := some 0, calSum := 0, calCodes := 0 } }
  reportAcq .stopped .request (setAcq .calibrating (applyDrives (.replicate 4 calDrive) s1))

/-- R39: the procedure ends: drive states, CAL_DONE, ACQ to STOPPED, and then any trip. -/
def calEnds (outcome : CalOutcome) (failure : Option CalFailure) (cause : AcqCause) (s : State) : State :=
  let s1 := deriveDrives { s with fec := { s.fec with calStep := none, calSum := 0, calCodes := 0 } }
  checkTrips (enterStopped cause (offer (.calDone outcome failure) s1))

/-- R35: a step begins: the driven scale of its channel is set, and no code is summed yet. -/
def setCalScale (k : Fin 52) (s : State) : State :=
  applyDrives (vmod s.fec.drive ⟨k.val / 13, by omega⟩ (fun d => { d with atten := attenOf (k.val % 13), gain := gainOf (k.val % 13) }))
    { s with fec := { s.fec with calStep := some k, calSum := 0, calCodes := 0 } }

/-- R35: the value a sum of 256 raw codes yields. -/
def calValue (sum : Nat) : Int := 128 - ((sum + 128) / 256 : Nat)

/-- R36: the staged table replaces the live table. -/
def adoptStaged (s : State) : State := { s with fec := { s.fec with live := s.fec.staged, tableValid := true } }

/-- R35 to R37: a step has summed its codes: it writes its value and the next follows, or the procedure ends. Before its 256
codes are summed it has not ended, nor does it end with another sum than theirs (log 8). -/
def calStepEnds (sum : Nat) (s : State) : State :=
  match s.fec.calStep with
  | none => s
  | some k =>
    let cal := calValue s.fec.calSum
    if s.fec.calCodes < calStepCodes ∨ sum ≠ s.fec.calSum then s
    else if 40 < cal.natAbs then
      calEnds .failed (some ⟨⟨k.val / 13, by omega⟩, k.val % 13, cal⟩) .request s
    else
      let s1 := { s with fec := { s.fec with staged := s.fec.staged.set k (clampInt (-32) 31 cal) } }
      if h : k.val + 1 < 52 then setCalScale ⟨k.val + 1, h⟩ s1
      else calEnds .ok none .request (adoptStaged s1)

/-- CAL_STEP, R35. -/
def execCalStep (sum : Nat) (s : State) : Host.Outcome State Fault Refusal := whenUp (calStepEnds sum) s

/-- R33: CALIBRATE; an accepted one replies before the procedure starts. -/
def calibrateOf (tag : Byte) (payload : List Byte) (s : State) : State :=
  match parseNothing payload with
  | none => reply 0x34 tag .badArg .empty s
  | some _ =>
    if s.acq.state = .calibrating then reply 0x34 tag .busy .empty s
    else if !s.fec.locked then reply 0x34 tag .badState .empty s
    else if s.acq.state = .stopped then calStarts (reply 0x34 tag .accepted .empty s)
    else reply 0x34 tag .badState .empty s

/-- CALIBRATE, R33. -/
def execCalibrate (tag : Byte) (payload : List Byte) (s : State) : Host.Outcome State Fault Refusal :=
  request 0x34 tag payload (calibrateOf tag payload) s

/-! ### The sample-clock monitor, section 2.6 -/

/-- R44 steps 1 to 3. -/
def lockLost (s : State) : State :=
  let s1 := latchCondition .clockFault (.acqState s.acq.state) { s with fec := { s.fec with locked := false } }
  let s2 := if s1.fec.calStep.isSome then calEnds .aborted none .clock s1 else s1
  endRun .clock s2

/-- CLOCK_LOSS, R44. -/
def execClockLoss (s : State) : Host.Outcome State Fault Refusal :=
  let s1 := { s with fec := { s.fec with lockPin := false } }
  if s.lnk.startUp || !s.fec.locked then .next s1 else .next (lockLost s1)

/-- CLOCK_LOCK_RETURN, R44. -/
def execClockLockReturn (s : State) : Host.Outcome State Fault Refusal :=
  .next { s with fec := { s.fec with lockPin := true, locked := if s.lnk.startUp then s.fec.locked else true } }

/-! ### The run controls, section 5.2 -/

/-- R127: a VIEW_LOST report, and the view fallback handed to SETU. -/
def viewLost (cause : ViewLostCause) (seq : Nat) (s : State) : State :=
  let s1 := offer (.viewLost seq cause) s
  { s1 with fallbacks := s1.fallbacks ++ [seq] }

/-- R77: what a run restart makes of the record bearing a seq. -/
def restartSegment (seq : Nat) (s : State) : State :=
  match findSeg seq s with
  | none => s
  | some r =>
    if r.state ≠ .complete then s
    else if unpinned r then removeSegment seq s
    else
      let s1 := modSeg seq (fun x => { x with state := .stale }) s
      if r.pins.view then
        viewLost .stale seq (releaseSegPin .view seq { s1 with rnd := { s1.rnd with viewPin := none } })
      else s1

/-- R77: the run restart, from oldest to newest. -/
def runRestart (s : State) : State := (s.mem.table.map (·.seq)).foldl (fun s q => restartSegment q s) s

/-- R92: a run start. -/
def runStarts (single : Bool) (s : State) : State :=
  let s1 := { s with acq := { s.acq with runCount := 0, lastSeq := 0, singlePending := single, forcePending := false,
                                         runStart := some s.now } }
  let s2 := runRestart (emptyQueue none s1)
  reportAcq .stopped .request (arm { s2 with trg := { s2.trg with holdoff := none } })

/-- R93: ACQ takes a RUN. -/
def takeRun (s : State) : State × Status :=
  match s.acq.state with
  | .stopped => if s.fec.locked then (runStarts false s, .ok) else (s, .badState)
  | .calibrating => (s, .busy)
  | _ => (s, .ok)

/-- R94: ACQ takes a SINGLE. -/
def takeSingle (s : State) : State × Status :=
  match s.acq.state with
  | .stopped => if s.fec.locked then (runStarts true s, .ok) else (s, .badState)
  | .calibrating => (s, .busy)
  | _ => ({ s with acq := { s.acq with singlePending := true } }, .ok)

/-- R95: ACQ takes a STOP; in CALIBRATING FEC aborts the procedure (R38). -/
def takeStop (s : State) : State :=
  match s.acq.state with
  | .calibrating => calEnds .aborted none .request s
  | _ => endRun .request s

/-- R96: ACQ takes a FORCE. -/
def takeForce (s : State) : State × Status :=
  match s.acq.state with
  | .ready => (completeIfFull (forceTrigger s), .ok)
  | .preFill => ({ s with acq := { s.acq with forcePending := true } }, .ok)
  | _ => (s, .badState)

/-- A request without arguments whose owner answers with a status; the reply follows the effect (R93, log 13). -/
def plainRequest (code tag : Byte) (payload : List Byte) (f : State → State × Status) (s : State) : State :=
  match parseNothing payload with
  | none => reply code tag .badArg .empty s
  | some _ => reply code tag (f s).2 .empty (f s).1

/-- RUN, R93. -/
def execRun (tag : Byte) (payload : List Byte) (s : State) : Host.Outcome State Fault Refusal :=
  request 0x30 tag payload (plainRequest 0x30 tag payload takeRun) s

/-- STOP, R95. -/
def execStop (tag : Byte) (payload : List Byte) (s : State) : Host.Outcome State Fault Refusal :=
  request 0x31 tag payload (plainRequest 0x31 tag payload (fun s => (takeStop s, .ok))) s

/-- SINGLE, R94. -/
def execSingle (tag : Byte) (payload : List Byte) (s : State) : Host.Outcome State Fault Refusal :=
  request 0x32 tag payload (plainRequest 0x32 tag payload takeSingle) s

/-- FORCE, R96. -/
def execForce (tag : Byte) (payload : List Byte) (s : State) : Host.Outcome State Fault Refusal :=
  request 0x33 tag payload (plainRequest 0x33 tag payload takeForce) s

end Sys2Proof.Machine
end

