-- ==== Sys2Proof/Machine/References.lean ====
section
/-! DEFINITION. The reference slots and the copy engine (section 4.3). -/

namespace Sys2Proof.Machine

/-- R82: reclaim for a copy allocation: the oldest COMPLETE record without pins, while the pool is short. -/
def reclaimForCopy (fuel need : Nat) (s : State) : State :=
  match fuel with
  | 0 => s
  | f + 1 =>
    if s.mem.pool.length < need then
      match oldestReclaimable s with
      | none => s
      | some r => reclaimForCopy f need (removeSegment r.seq s)
    else s

/-- R83: the copy ends with NO_ROOM: the slot returns to the state it held before the SAVE_REF. -/
def copyNoRoom (n : Fin 4) (c : RefCopy) (s : State) : State :=
  let s1 := releaseSegPin .copy c.contents.seq s
  let s2 := modRef n (fun r => { r with state := if r.contents.isSome then .valid else .empty, copy := none }) s1
  offer (.refDone n true c.contents.seq c.contents.channel) s2

/-- R82: the copy's pages are taken from the head of the pool. -/
def takeCopyPages (n : Fin 4) (c : RefCopy) (s : State) : State :=
  modRef n (fun r => { r with copy := some { c with phase := .move, pages := s.mem.pool.take c.need } })
    { s with mem := { s.mem with pool := s.mem.pool.drop c.need } }

/-- R82: the copy of a slot passes to phase MOVE: it allocates its need, or ends with NO_ROOM. -/
def startMove (n : Fin 4) (s : State) : State :=
  match s.mem.refs[n].copy with
  | none => s
  | some c =>
    let s1 := reclaimForCopy s.mem.table.length c.need
      (modRef n (fun r => { r with copy := some { c with phase := .move } }) s)
    if s1.mem.pool.length < c.need then copyNoRoom n c s1 else takeCopyPages n c s1

/-- R80: the segment that a source resolves to: LATEST, or a seq that names a COMPLETE record. -/
def resolveSource (source : Option Nat) (s : State) : Option SegRec :=
  match source with
  | none => newestComplete s
  | some seq => (findSeg seq s).filter (fun r => decide (r.state = .complete))

/-- R80: the NO_ROOM check. -/
def refNoRoom (n : Fin 4) (need : Nat) (s : State) : Bool :=
  let room := goodPages s - reservesExcept (fun m => m == n) s
  decide (room < need + s.setup.pagesNeeded) || decide (room < need + s.mem.refs[n].pages.length)

/-- R80 steps 1 to 4, for a request that passed its checks. -/
def saveRefAccepted (tag : Byte) (n : Fin 4) (ch : Channel) (r : SegRec) (s : State) : State :=
  let need := pagesOf r.n
  let s1 := modRef n (fun x => { x with
      state := .copying
      copy := some ⟨.waitSetup, ⟨ch, r.seq, r.n, r.decimation, r.scales[ch]⟩, need, []⟩ }) (pinSegment .copy r.seq s).1
  let s2 := reply 0x40 tag .accepted (.saveRef r.seq need) s1
  if captureAllowance s2 < s2.setup.pagesNeeded then s2 else startMove n s2

/-- R80: SAVE_REF, its checks in the order of the table. -/
def saveRefOf (tag : Byte) (payload : List Byte) (s : State) : State :=
  match parseSaveRef payload with
  | none => reply 0x40 tag .badArg .empty s
  | some (slot, source, ch) =>
    match oneOfFour slot, oneOfFour ch with
    | some n, some c =>
      if s.mem.refs[n].state = .copying then reply 0x40 tag .badState .empty s
      else if copyBusy s then reply 0x40 tag .busy .empty s
      else if s.mem.refs[n].state = .empty ∧ s.mem.refs[n].pages ≠ [] then reply 0x40 tag .badState .empty s
      else
        match resolveSource source s with
        | none => reply 0x40 tag .notFound .empty s
        | some r =>
          if !r.set[c] then reply 0x40 tag .badState .empty s
          else if refNoRoom n (pagesOf r.n) s then reply 0x40 tag .noRoom .empty s
          else saveRefAccepted tag n c r s
    | _, _ => reply 0x40 tag .badArg .empty s

/-- SAVE_REF, R80. -/
def execSaveRef (tag : Byte) (payload : List Byte) (s : State) : Host.Outcome State Fault Refusal :=
  request 0x40 tag payload (saveRefOf tag payload) s

/-- R82: logical samples 0..n - 1 of a channel are written to stored positions 0..n - 1 of a page list. -/
def copySamples (dram : Store) (r : SegRec) (ch : Channel) (pages : List Nat) (n : Nat) : Store :=
  (List.range n).foldl (fun d i => writePosition d pages i (segmentSample dram r ch i)) dram

/-- R82: what a copy has written when its last sample is done. -/
def copyWritten (c : RefCopy) (s : State) : State :=
  match findSeg c.contents.seq s with
  | none => s
  | some r => { s with mem := { s.mem with dram := copySamples s.mem.dram r c.contents.channel c.pages c.contents.n } }

/-- R83: the end of the move: the COPY pin is released; the swap follows, or waits for the last pin. -/
def copyEnds (s : State) : State :=
  match copyingSlot s with
  | none => s
  | some n =>
    match s.mem.refs[n].copy with
    | none => s
    | some c =>
      if c.phase = .move then
        let s1 := releaseSegPin .copy c.contents.seq (copyWritten c s)
        if s1.mem.refs[n].pinRender || s1.mem.refs[n].pinTransfer then
          modRef n (fun r => { r with copy := some { c with phase := .waitUnpin } }) s1
        else swapRef n s1
      else s

/-- COPY_END, R83. -/
def execCopyEnd (s : State) : Host.Outcome State Fault Refusal := whenUp copyEnds s

/-- R84: a VALID slot is emptied; its pages go now or at the last pin release; redraw pending is set. -/
def clearRefSlot (n : Fin 4) (s : State) : State :=
  let s1 := modRef n (fun r => { r with state := .empty, contents := none }) s
  setRedraw (if s1.mem.refs[n].pinRender || s1.mem.refs[n].pinTransfer then s1 else refUnpinned n s1)

/-- R84. -/
def clearRefOf (tag : Byte) (payload : List Byte) (s : State) : State :=
  match parseByte payload with
  | none => reply 0x41 tag .badArg .empty s
  | some b =>
    match oneOfFour b.toNat with
    | none => reply 0x41 tag .badArg .empty s
    | some n =>
      match s.mem.refs[n].state with
      | .copying => reply 0x41 tag .badState .empty s
      | .empty => reply 0x41 tag .ok .empty s
      | .valid => reply 0x41 tag .ok .empty (clearRefSlot n s)

/-- CLEAR_REF, R84. -/
def execClearRef (tag : Byte) (payload : List Byte) (s : State) : Host.Outcome State Fault Refusal :=
  request 0x41 tag payload (clearRefOf tag payload) s

end Sys2Proof.Machine
end

