-- ==== Sys2Proof/Machine/Setup.lean ====
section
/-! DEFINITION. SETU: the checks of pairs, the coupled resolution, the taking of change sets and what each hands on (chapter 1). -/

namespace Sys2Proof.Machine

/-! ### Checks, R5 -/

/-- The kind of a field; `none` for an unknown field id. -/
def fieldKind? (id : Nat) : Option FieldKind := (fieldSpec? id).map FieldSpec.kind

/-- R5: the value an accepted pair writes; `none` is REFUSED. -/
def checkValue (id : Nat) (v : Int) (s : State) : Option Int :=
  match fieldKind? id with
  | none => none
  | some (.enum k) => if 0 ≤ v ∧ v < k then some v else none
  | some (.index top) => some (clampInt 0 top v)
  | some (.number lo hi) => some (clampInt lo hi v)
  | some .order => if isTraceOrder v then some v else none
  | some .seq =>
    if v = 0 then some 0
    else if 0 < v ∧ v < 4294967296 ∧ ((findSeg v.toNat s).any (fun r => decide (r.state = .complete))) = true then some v else none

/-! ### Coupled constraints, section 1.3 -/

/-- R8 for one channel. -/
def constrainOhm50 (r : Setup) (n : Channel) : Setup :=
  if r.isOhm50 n then
    let r1 := if r.get (chField n 4) = 1 then r.set (chField n 4) 0 else r
    if 9 < r1.get (chField n 1) then r1.set (chField n 1) 9 else r1
  else r

/-- R8: step 1. -/
def resolveStep1 (r : Setup) : Setup := channels.foldl constrainOhm50 r

/-- R9: step 2: the view window is rescaled from length n to n'; a kept field is left as it is. -/
def rescaleView (keepStart keepSpan : Bool) (n n' : Nat) (r : Setup) : Setup :=
  let start := r.get 114
  let span := r.get 115
  let r1 := if keepStart then r else r.set 114 (start * n' / n)
  if keepSpan then r1 else r1.set 115 (max 70 (span * n' / n))

/-- R9: step 3: view_span to 70..N, then view_start to 0..N - view_span. -/
def clampView (r : Setup) : Setup :=
  let r1 := r.set 115 (clampInt 70 r.n (r.get 115))
  r1.set 114 (clampInt 0 (r1.n - r1.get 115) (r1.get 114))

/-- R9: steps 2 and 3. -/
def resolveView (keepStart keepSpan : Bool) (n : Nat) (r : Setup) : Setup :=
  clampView (if n = r.n then r else rescaleView keepStart keepSpan n r.n r)

/-- R10: the largest record_length index at which e channels fit. -/
def largestFit (e avail : Nat) : Option Nat :=
  [10, 9, 8, 7, 6, 5, 4, 3, 2, 1, 0].find? (fun i => decide (e * pagesOf (recordN i) ≤ avail))

/-- R10: the order in which channels are turned OFF: those the change set turned ON first, highest number first. -/
def offOrder (old r : Setup) : List Channel :=
  (channels.reverse.filter (fun n => r.enabled n && !old.enabled n)) ++
  (channels.reverse.filter (fun n => r.enabled n && old.enabled n))

/-- R10: step 4. -/
def fitMemory (old : Setup) (avail : Nat) (r : Setup) : Setup :=
  if r.pagesNeeded ≤ avail then r
  else
    match largestFit r.enabledCount avail with
    | some i => r.set 80 i
    | none =>
      (offOrder old r).foldl (fun r n => if r.pagesNeeded ≤ avail then r else r.set (chField n 0) 0) (r.set 80 0)

/-- Section 1.3: the four steps; steps 2 and 3 again where step 4 lowers the record length. -/
def resolve (keepStart keepSpan : Bool) (old : Setup) (avail : Nat) (r : Setup) : Setup :=
  let r2 := resolveView keepStart keepSpan old.n (resolveStep1 r)
  let r3 := fitMemory old avail r2
  if r3.n = r2.n then r3 else resolveView keepStart keepSpan r2.n r3

/-! ### Change sets -/

/-- R4: a change set: its origin, the values it writes, whether it wrote the view fields for the new length (R9), and the
slot of a recall. -/
structure ChangeSet where
  origin : Origin
  writes : List (Nat × Int)
  keepStart : Bool
  keepSpan : Bool
  slot : Option (Fin 11)
  deriving DecidableEq, Repr

/-- The record that a change set leaves. -/
def recordAfter (cs : ChangeSet) (s : State) : Setup :=
  resolve cs.keepStart cs.keepSpan s.setup (captureAllowance s) (s.setup.setAll cs.writes)

/-- R7: the changed fields, in ascending id. -/
def changedFields (old new : Setup) : List Nat := fieldIds.filter (fun i => decide (old.get i ≠ new.get i))

/-- Whether one of the changed fields has an apply class. -/
def changesClass (c : ApplyClass) (ids : List Nat) : Bool :=
  ids.any (fun i => decide ((fieldSpec? i).map (·.cls) = some c))

/-- R126: the VIEW pin follows the view fields. -/
def moveViewPin (s : State) : State :=
  let held := s.rnd.viewPin
  let release (s : State) : State := match held with
    | some y => releaseSegPin .view y s
    | none => s
  if s.setup.viewFixed ∧ s.setup.viewSeq ≠ 0 then
    let x := s.setup.viewSeq
    if held = some x then s
    else
      match pinSegment .view x s with
      | (s1, true) => release { s1 with rnd := { s1.rnd with viewPin := some x } }
      | (s1, false) => viewLost .unavailable x (release { s1 with rnd := { s1.rnd with viewPin := none } })
  else release { s with rnd := { s.rnd with viewPin := none } }

/-- R43: a change set that writes MEG1 into the termination field of a latched channel clears the latch. -/
def clearWrittenLatches (written : List Nat) (s : State) : State :=
  channels.foldl (fun s n =>
    if s.fec.latch[n] && written.contains (chField n 5) && !s.setup.isOhm50 n then clearLatch n s else s) s

/-- R28, R43, R41: FEC takes a change set of CAPTURE-class fields or of the source field. -/
def fecChange (written : List Nat) (s : State) : State := checkTrips (deriveDrives (clearWrittenLatches written s))

/-- R137: what changes of persistence and decay_interval do to the decay timer. -/
def decayChange (ids : List Nat) (s : State) : State :=
  let start := { s with rnd := { s.rnd with decay := some (s.now + (s.setup.get 117).toNat * oneMs) } }
  if ids.contains 116 then
    if s.setup.get 116 = 1 then start else { s with rnd := { s.rnd with decay := none, decayPending := false } }
  else if ids.contains 117 ∧ s.setup.get 116 = 1 then start else s

/-- R119, R23: whether changed fields set redraw pending. -/
def redrawCause (ids : List Nat) : Bool :=
  changesClass .display ids || channels.any (fun n => ids.contains (chField n 0))

/-- R24, R64: aux_mode reaches AUX at once. -/
def auxChange (s : State) : State := { s with trg := { s.trg with auxMode := some (s.setup.get 106).toNat } }

/-- R7 step 1: each consumer of a changed field, by its apply class. -/
def handOver (written ids : List Nat) (s : State) : State :=
  let s1 := if changesClass .capture ids || ids.contains 96 then fecChange written s else s
  let s2 := if changesClass .trigger ids then triggerChange s1 else s1
  let s3 := if ids.contains 106 then auxChange s2 else s2
  let s4 := if changesClass .capture ids then captureChange s3 else s3
  let s5 := decayChange ids s4
  if redrawCause ids then setRedraw s5 else s5

/-- R7 step 2, R190: the autosave timer restarts with a deadline 2 s ahead. -/
def restartAutosave (s : State) : State := { s with sto := { s.sto with autosave := some (s.now + 2000 * oneMs) } }

/-- R15, R16: the reports of a change set by its origin. -/
def changeReports (cs : ChangeSet) (ids : List Nat) (s : State) : State :=
  match cs.origin with
  | .host => s
  | .panel => offerAll (ids.map (fun i => .setupChanged i (s.setup.get i) s.generation .panel)) s
  | .device => offerAll (ids.map (fun i => .setupChanged i (s.setup.get i) s.generation .device)) s
  | .recall => offer (.setupReloaded s.generation .recall cs.slot) s
  | .deflt => offer (.setupReloaded s.generation .deflt none) s

/-- R7, R11: the new record and the generation it is given. -/
def writeRecord (new : Setup) (s : State) : State := { s with setup := new, generation := s.generation + 1 }

/-- R7: a change set is taken as a whole. -/
def takeChangeSet (cs : ChangeSet) (s : State) : State :=
  let new := recordAfter cs s
  let ids := changedFields s.setup new
  if ids = [] then s
  else
    let s1 := writeRecord new s
    let s2 := if ids.contains 112 || ids.contains 113 then moveViewPin s1 else s1
    changeReports cs ids (restartAutosave (handOver (cs.writes.map (·.1)) ids s2))

/-- R14: the change set that takes every field to its default. -/
def defaultChangeSet : ChangeSet := ⟨.deflt, defaultSetup.toPairs, true, true, none⟩

/-- R18: the change set of a recall: every image value that is not REFUSED, in ascending field id. -/
def recallChangeSet (slot : Fin 11) (image : List Int) (s : State) : ChangeSet :=
  ⟨.recall, (fieldIds.zip image).filterMap (fun iv => (checkValue iv.1 iv.2 s).map (fun v => (iv.1, v))), true, true, some slot⟩

/-- R6: the value that a relative edit gives a field; `none` for a SEQ or ORDER field. -/
def relativeValue (id : Nat) (up : Bool) (m : Nat) (r : Setup) : Option Int :=
  let old := r.get id
  match fieldKind? id with
  | some (.enum k) => some (clampInt 0 (k - 1) (if up then old + 1 else old - 1))
  | some (.index top) => some (clampInt 0 top (if up then old + 1 else old - 1))
  | some (.number lo hi) =>
    let by_ : Int := if id = 114 then max 1 (m * r.viewSpan / 700 : Nat) else m
    some (clampInt lo hi (if up then old + by_ else old - by_))
  | _ => none

/-- R6, R17: the change set of one detent. -/
def takeRelativeEdit (id : Nat) (up : Bool) (m : Nat) (s : State) : State :=
  match relativeValue id up m s.setup with
  | some v => takeChangeSet ⟨.panel, [(id, v)], false, false, none⟩ s
  | none => s

/-- R17: CHANNEL_TOGGLE. -/
def takeChannelToggle (n : Channel) (s : State) : State :=
  takeChangeSet ⟨.panel, [(chField n 0, if s.setup.enabled n then 0 else 1)], false, false, none⟩ s

/-- R17: the default that FIELD_DEFAULT writes: the present N for view_span, else the field's default. -/
def fieldDefaultValue (id : Nat) (r : Setup) : Int := if id = 115 then r.n else defaultSetup.get id

/-- R17: FIELD_DEFAULT. -/
def takeFieldDefault (id : Nat) (s : State) : State :=
  takeChangeSet ⟨.panel, [(id, fieldDefaultValue id s.setup)], false, false, none⟩ s

/-! ### Requests -/

/-- R7: the outcome and final value of a pair, from the check made before and the record after. -/
def pairResult (before after : State) (p : Nat × Int) : PairResult :=
  let final := after.setup.get p.1
  match checkValue p.1 p.2 before with
  | none => ⟨p.1, .refused, final⟩
  | some _ => ⟨p.1, if final = p.2 then .applied else .clamped, final⟩

/-- The pairs that pass their checks, with the values they write. -/
def acceptedPairs (ps : List (Nat × Int)) (s : State) : List (Nat × Int) :=
  ps.filterMap (fun p => (checkValue p.1 p.2 s).map (fun v => (p.1, v)))

/-- R12: the change set of a SET_FIELDS. -/
def hostChangeSet (ps : List (Nat × Int)) (s : State) : ChangeSet :=
  let ws := acceptedPairs ps s
  ⟨.host, ws, (ws.map (·.1)).contains 114, (ws.map (·.1)).contains 115, none⟩

/-- R7, R12: the coupled changes: the changed fields that no accepted pair named, each with its final value. -/
def coupledChanges (ws : List (Nat × Int)) (before after : State) : List (Nat × Int) :=
  ((changedFields before.setup after.setup).filter (fun i => !(ws.map (·.1)).contains i)).map (fun i => (i, after.setup.get i))

/-- R12: whether a list of pairs is refused as a whole. -/
def pairsRefused (ps : List (Nat × Int)) : Bool :=
  ps.isEmpty || decide (16 < ps.length) || !(decide (ps.map (·.1)).Nodup) || ps.any (fun p => !knownField p.1)

/-- R12: SET_FIELDS. A refused one carries the generation too, as each reply to a setup request does (R11, log 12). -/
def setFieldsOf (tag : Byte) (payload : List Byte) (s : State) : State :=
  match parsePairs payload with
  | none => reply 0x20 tag .badArg (.generation s.generation) s
  | some ps =>
    if pairsRefused ps then reply 0x20 tag .badArg (.generation s.generation) s
    else
      let cs := hostChangeSet ps s
      let s1 := takeChangeSet cs s
      reply 0x20 tag .ok
        (.setFields s1.generation (ps.map (pairResult s s1)) (coupledChanges cs.writes s s1)) s1

/-- SET_FIELDS, R12. -/
def execSetFields (tag : Byte) (payload : List Byte) (s : State) : Host.Outcome State Fault Refusal :=
  request 0x20 tag payload (setFieldsOf tag payload) s

/-- R13: what stands beside a field's value. -/
def fieldExtra (id : Nat) (s : State) : FieldExtra :=
  if id = 82 then .pretrigger s.setup.p
  else
    match channels.find? (fun n => chField n 5 == id) with
    | some n => .termination (effectiveTerm n s) s.fec.latch[n]
    | none => .nothing

/-- R13: GET_FIELDS; an empty list asks for all fields. Its replies carry the generation (R11). -/
def getFieldsOf (tag : Byte) (payload : List Byte) (s : State) : State :=
  match parseIds payload with
  | none => reply 0x21 tag .badArg (.generation s.generation) s
  | some ids =>
    if ids.any (fun i => !knownField i) || decide (83 < ids.length) then
      reply 0x21 tag .badArg (.generation s.generation) s
    else
      let asked := if ids = [] then fieldIds else ids
      reply 0x21 tag .ok (.getFields s.generation (asked.map (fun i => (s.setup.get i, fieldExtra i s)))) s

/-- GET_FIELDS, R13. -/
def execGetFields (tag : Byte) (payload : List Byte) (s : State) : Host.Outcome State Fault Refusal :=
  request 0x21 tag payload (getFieldsOf tag payload) s

/-- R14: DEFAULT_SETUP. Its replies carry the generation (R11). -/
def defaultSetupOf (tag : Byte) (payload : List Byte) (s : State) : State :=
  match parseNothing payload with
  | none => reply 0x22 tag .badArg (.generation s.generation) s
  | some _ =>
    let s1 := takeChangeSet defaultChangeSet s
    reply 0x22 tag .ok (.generation s1.generation) s1

/-- DEFAULT_SETUP, R14. -/
def execDefaultSetup (tag : Byte) (payload : List Byte) (s : State) : Host.Outcome State Fault Refusal :=
  request 0x22 tag payload (defaultSetupOf tag payload) s

/-- R19: SETU takes the oldest view fallback. -/
def takeViewFallback (s : State) : State :=
  match s.fallbacks with
  | [] => s
  | seq :: rest =>
    let s1 := { s with fallbacks := rest }
    if s.setup.viewFixed ∧ s.setup.viewSeq = seq then
      takeChangeSet ⟨.device, [(112, 0), (113, 0)], false, false, none⟩ s1
    else s1

/-- VIEW_FALLBACK, R19. -/
def execViewFallback (s : State) : Host.Outcome State Fault Refusal := whenUp takeViewFallback s

/-- R19, R81: SETU takes the memory correction of the copy in WAIT_SETUP, which then passes to MOVE. -/
def takeMemoryCorrection (s : State) : State :=
  match copyingSlot s with
  | none => s
  | some n =>
    match s.mem.refs[n].copy with
    | none => s
    | some c =>
      if c.phase = .waitSetup then startMove n (takeChangeSet ⟨.device, [], false, false, none⟩ s) else s

/-- MEMORY_CORRECTION, R19. -/
def execMemoryCorrection (s : State) : Host.Outcome State Fault Refusal := whenUp takeMemoryCorrection s

end Sys2Proof.Machine
end

