-- ==== Sys2Proof/Machine/Compose.lean ====
section
/-! DEFINITION. CMP: frames, the composition of a pixel, the overlay requests and their hold list, and the backlight (chapter 7). -/

namespace Sys2Proof.Machine

/-! ### Composition, sections 7.1 to 7.4 -/

/-- R143: the full colour of a trace, in the numbering of R3. -/
def traceColour (t : Nat) : Rgb :=
  match t with
  | 0 => ⟨63, 63, 0⟩
  | 1 => ⟨0, 63, 63⟩
  | 2 => ⟨63, 0, 63⟩
  | 3 => ⟨16, 63, 16⟩
  | 4 => ⟨63, 40, 0⟩
  | 5 => ⟨40, 40, 63⟩
  | 6 => ⟨63, 40, 40⟩
  | _ => ⟨48, 48, 48⟩

/-- R143: a component scaled by a cell. -/
def scaleColour (c : Rgb) (cell : Byte) : Rgb :=
  ⟨c.r * cell.toNat / 255, c.g * cell.toNat / 255, c.b * cell.toNat / 255⟩

/-- R141: the area column and row of a screen pixel that lies in the waveform area. -/
def areaPoint (x y : Nat) : Option (Nat × Nat) :=
  if 50 ≤ x ∧ x ≤ 749 ∧ 40 ≤ y ∧ y ≤ 439 then some (x - 50, y - 40) else none

/-- R144: the one-pixel rectangle just outside the area. -/
def onFrame (x y : Nat) : Bool :=
  (decide (x = 49 ∨ x = 750) && decide (39 ≤ y ∧ y ≤ 440)) || (decide (y = 39 ∨ y = 440) && decide (49 ≤ x ∧ x ≤ 750))

/-- R144: the dots of style FULL. -/
def onDots (j r : Nat) : Bool :=
  (decide (0 < j ∧ j % 70 = 0) && decide (r % 5 = 0)) || (decide (0 < r ∧ r % 50 = 0) && decide (j % 5 = 0))

/-- R144: the lines and ticks of style AXES. -/
def onAxes (j r : Nat) : Bool :=
  decide (j = 350) || decide (r = 200) || (decide (j % 14 = 0) && decide (198 ≤ r ∧ r ≤ 202))
    || (decide (r % 10 = 0) && decide (348 ≤ j ∧ j ≤ 352))

/-- R144: layer 2 at a screen pixel. The grid values are FULL 0, AXES 1 and NONE 2. -/
def graticulePixel (grid x y : Nat) : Option Rgb :=
  if onFrame x y then some ⟨40, 40, 40⟩
  else
    match areaPoint x y with
    | none => none
    | some (j, r) =>
      match grid with
      | 0 => if onDots j r then some ⟨24, 24, 24⟩ else none
      | 1 => if onAxes j r then some ⟨40, 40, 40⟩ else none
      | _ => none

/-- The cell of a trace's plane at an area point. -/
def planeCell (planes : Vector Store 8) (t j r : Nat) : Byte :=
  match planes[t]? with
  | some p => storeRead p (cellAddr j r)
  | none => 0

/-- R142, R143: layer 3: the first trace of the order whose cell is above 0. -/
def tracePixel (order : List Nat) (planes : Vector Store 8) (x y : Nat) : Option Rgb :=
  match areaPoint x y with
  | none => none
  | some (j, r) =>
    (order.find? (fun t => decide (planeCell planes t j r ≠ 0))).map
      (fun t => scaleColour (traceColour t) (planeCell planes t j r))

/-- R145: the column of the trigger position marker, where it is shown. -/
def markerColumn (b : Option MarkerBasis) : Option Nat :=
  match b with
  | none => none
  | some m =>
    let le := windowSpan m.span m.n
    let se := windowStart m.start m.span m.n
    if se ≤ m.p ∧ m.p < se + le then some ((m.p - se) * 700 / le) else none

/-- R146: the row of the trigger level marker, where it is shown. -/
def levelRow (c : FrameContext) : Option Nat :=
  match c.levelSource with
  | .ext => none
  | .channel _ =>
    let r := rawRow c.level c.levelFine c.levelPosition c.levelInvert
    if 0 ≤ r ∧ r ≤ 399 then some r.toNat else none

/-- R146: the colour of the source's trace. -/
def levelColour (c : FrameContext) : Rgb :=
  match c.levelSource with
  | .channel n => traceColour n.val
  | .ext => ⟨0, 0, 0⟩

/-- R145, R146: layer 4. -/
def markerPixel (c : FrameContext) (b : Option MarkerBasis) (x y : Nat) : Option Rgb :=
  if (markerColumn b).any (fun k => decide (49 + k ≤ x ∧ x ≤ 51 + k ∧ 32 ≤ y ∧ y ≤ 38)) then some ⟨63, 32, 0⟩
  else if (levelRow c).any (fun r => decide (42 ≤ x ∧ x ≤ 48 ∧ 39 + r ≤ y ∧ y ≤ 41 + r)) then some (levelColour c)
  else none

/-- R147: layer 5. The cursor modes are OFF 0, VERT 1, HORIZ 2 and BOTH 3. -/
def cursorPixel (c : FrameContext) (x y : Nat) : Option Rgb :=
  match areaPoint x y with
  | none => none
  | some (j, r) =>
    let vert := decide (c.cursorMode = 1 ∨ c.cursorMode = 3) && decide (j = c.cursorXa ∨ j = c.cursorXb)
    let horiz := decide (c.cursorMode = 2 ∨ c.cursorMode = 3) && decide (r = c.cursorYa ∨ r = c.cursorYb)
    if vert || horiz then some (traceColour c.cursorSource) else none

/-- The address of a screen pixel in an overlay buffer. -/
def pixelAddr (x y : Nat) : Nat := y * Config.screenWidth + x

/-- R149, R153: layer 6: an index of 1..15 through the frame's palette; index 0 lets the layers below show. -/
def overlayPixel (palette : Vector Rgb 16) (shown : Store) (x y : Nat) : Option Rgb :=
  let i := (storeRead shown (pixelAddr x y)).toNat
  if i = 0 then none else palette[i]?

/-- R142: the colour of a screen pixel of a frame: the topmost layer that covers it, and black where none does. -/
def framePixel (f : Frame) (x y : Nat) : Rgb :=
  let under := (cursorPixel f.context x y).getD ((markerPixel f.context f.basis x y).getD
    ((tracePixel f.context.traceOrder f.planes x y).getD ((graticulePixel f.context.grid x y).getD ⟨0, 0, 0⟩)))
  (overlayPixel f.context.palette f.overlay x y).getD under

/-- R140 step 3: line `y` of a frame, its 800 pixels from left to right. -/
def frameLine (f : Frame) (y : Nat) : List Rgb := (List.range Config.screenWidth).map (fun x => framePixel f x y)

/-- R140 step 3: the lines of a frame in the order in which they are scanned out, top line first. -/
def scanOut (f : Frame) : List (List Rgb) := (List.range Config.screenHeight).map (frameLine f)

/-! ### Overlay requests, section 7.5 -/

/-- The address of a pixel that lies on the screen. -/
def screenAddr (x y : Int) : Option Nat :=
  if 0 ≤ x ∧ x < 800 ∧ 0 ≤ y ∧ y < 480 then some (pixelAddr x.toNat y.toNat) else none

/-- R150: the addresses of the pixels of a rectangle that lie on the screen. -/
def rectAddrs (x y : Int) (w h : Nat) : List Nat :=
  let x0 := (clampInt 0 800 x).toNat
  let x1 := (clampInt 0 800 (x + w)).toNat
  let y0 := (clampInt 0 480 y).toNat
  let y1 := (clampInt 0 480 (y + h)).toNat
  (List.range (y1 - y0)).flatMap (fun j => (List.range (x1 - x0)).map (fun i => pixelAddr (x0 + i) (y0 + j)))

/-- R150: OV_FILL: the draw buffer after it; `none` is BAD_ARG. -/
def fillBuffer (p : List Byte) (draw : Store) : Option Store :=
  match parseFill p with
  | none => none
  | some (x, y, w, h, colour) =>
    if colour ≤ 15 then some (storeWriteAll draw ((rectAddrs x y w h).map (fun a => (a, BitVec.ofNat 8 colour)))) else none

/-- R150: OV_CLEAR. -/
def clearBuffer (p : List Byte) : Option Store :=
  match parseByte p with
  | none => none
  | some colour => if colour.toNat ≤ 15 then some (storeFill (Config.screenWidth * Config.screenHeight) colour) else none

/-- R152: the address of row r of a glyph. -/
def glyphAddr (code r : Nat) : Nat := code * 16 + r

/-- R151: bit i, from the leftmost pixel, of row r of a glyph. -/
def glyphBit (glyphs : Store) (code r i : Nat) : Bool := (storeRead glyphs (glyphAddr code r)).getLsbD (7 - i)

/-- R151: what pixel (i, r) of a glyph at (gx, gy) writes. -/
def glyphWrite (glyphs : Store) (code : Nat) (gx gy : Int) (fg bg r i : Nat) : Option (Nat × Byte) :=
  match screenAddr (gx + i) (gy + r) with
  | none => none
  | some a =>
    if glyphBit glyphs code r i then some (a, BitVec.ofNat 8 fg) else if bg = 0 then none else some (a, BitVec.ofNat 8 bg)

/-- R151: the pixels that one glyph writes. -/
def glyphWrites (glyphs : Store) (code : Nat) (gx gy : Int) (fg bg : Nat) : List (Nat × Byte) :=
  (List.range 16).flatMap (fun r => (List.range 8).filterMap (fun i => glyphWrite glyphs code gx gy fg bg r i))

/-- R151: the pixels that a list of glyphs writes, the first at (x, y) and each next 8 to the right. -/
def textWrites (glyphs : Store) (x y : Int) (fg bg : Nat) (codes : List Nat) : List (Nat × Byte) :=
  match codes with
  | [] => []
  | c :: rest => glyphWrites glyphs c x y fg bg ++ textWrites glyphs (x + 8) y fg bg rest

/-- R151: OV_TEXT. -/
def textBuffer (p : List Byte) (glyphs draw : Store) : Option Store :=
  match parseText p with
  | none => none
  | some (x, y, fg, bg, codes) =>
    if codes = [] ∨ 64 < codes.length ∨ codes.any (fun c => decide (127 < c)) = true ∨ 15 < fg ∨ 15 < bg then none
    else some (storeWriteAll draw (textWrites glyphs x y fg bg codes))

/-- R152: GLYPH_LOAD. -/
def loadGlyphs (p : List Byte) (glyphs : Store) : Option Store :=
  match parseGlyphs p with
  | none => none
  | some (first, k, bits) =>
    if 1 ≤ k ∧ k ≤ 8 ∧ first + k ≤ 128 ∧ bits.length = 16 * k then
      some (storeWriteAll glyphs (bits.mapIdx (fun i b => (glyphAddr first 0 + i, b))))
    else none

/-- R153: PALETTE_SET. -/
def setPalette (p : List Byte) (pal : Vector Rgb 16) : Option (Vector Rgb 16) :=
  match parsePalette p with
  | none => none
  | some (i, r, g, b) =>
    if h : 1 ≤ i ∧ i ≤ 15 then some (pal.set i ⟨min r 63, min g 63, min b 63⟩ (by omega)) else none

/-- Section 11.7: the codes of the overlay requests. -/
def overlayCode (k : OverlayKind) : Byte :=
  match k with
  | .fill => 0x52
  | .text => 0x53
  | .clear => 0x54
  | .present => 0x55
  | .glyphs => 0x56
  | .palette => 0x57

/-- R150 to R154: what an executed overlay request makes of CMP; `none` is BAD_ARG. -/
def overlayEffect (r : OverlayRequest) (c : Cmp) : Option Cmp :=
  match r.kind with
  | .fill => (fillBuffer r.payload c.draw).map (fun d => { c with draw := d })
  | .text => (textBuffer r.payload c.glyphs c.draw).map (fun d => { c with draw := d })
  | .clear => (clearBuffer r.payload).map (fun d => { c with draw := d })
  | .present => (parseNothing r.payload).map (fun _ => { c with showPending := true, showTag := r.tag })
  | .glyphs => (loadGlyphs r.payload c.glyphs).map (fun g => { c with glyphs := g })
  | .palette => (setPalette r.payload c.palette).map (fun q => { c with palette := q })

/-- R149, R154: an overlay request is executed and answered; an executed OV_SHOW gives no reply yet. -/
def executeOverlay (r : OverlayRequest) (s : State) : State :=
  match overlayEffect r s.cmp with
  | none => reply (overlayCode r.kind) r.tag .badArg .empty s
  | some c =>
    if r.kind = .present then { s with cmp := c } else reply (overlayCode r.kind) r.tag .ok .empty { s with cmp := c }

/-- R149: CMP takes an overlay request: executed at once, held, or refused BUSY. -/
def takeOverlay (r : OverlayRequest) (s : State) : State :=
  if s.cmp.showPending then
    if s.cmp.hold.length < Config.holdSize then { s with cmp := { s.cmp with hold := s.cmp.hold ++ [r] } }
    else reply (overlayCode r.kind) r.tag .busy .empty s
  else executeOverlay r s

/-- R155: the held requests are executed from the head until the list is empty or an OV_SHOW has been executed. -/
def drainHold (rs : List OverlayRequest) (s : State) : State :=
  match rs with
  | [] => { s with cmp := { s.cmp with hold := [] } }
  | r :: rest =>
    let s1 := executeOverlay r s
    if s1.cmp.showPending then { s1 with cmp := { s1.cmp with hold := rest } } else drainHold rest s1

/-- OV_FILL, R150. -/
def execOvFill (tag : Byte) (payload : List Byte) (s : State) : Host.Outcome State Fault Refusal :=
  request 0x52 tag payload (takeOverlay ⟨.fill, tag, payload⟩) s

/-- OV_TEXT, R151. -/
def execOvText (tag : Byte) (payload : List Byte) (s : State) : Host.Outcome State Fault Refusal :=
  request 0x53 tag payload (takeOverlay ⟨.text, tag, payload⟩) s

/-- OV_CLEAR, R150. -/
def execOvClear (tag : Byte) (payload : List Byte) (s : State) : Host.Outcome State Fault Refusal :=
  request 0x54 tag payload (takeOverlay ⟨.clear, tag, payload⟩) s

/-- OV_SHOW, R154. -/
def execOvShow (tag : Byte) (payload : List Byte) (s : State) : Host.Outcome State Fault Refusal :=
  request 0x55 tag payload (takeOverlay ⟨.present, tag, payload⟩) s

/-- GLYPH_LOAD, R152. -/
def execGlyphLoad (tag : Byte) (payload : List Byte) (s : State) : Host.Outcome State Fault Refusal :=
  request 0x56 tag payload (takeOverlay ⟨.glyphs, tag, payload⟩) s

/-- PALETTE_SET, R153. -/
def execPaletteSet (tag : Byte) (payload : List Byte) (s : State) : Host.Outcome State Fault Refusal :=
  request 0x57 tag payload (takeOverlay ⟨.palette, tag, payload⟩) s

/-! ### Frames -/

/-- R140 step 1: the frame context of a frame start. -/
def frameContext (s : State) : FrameContext :=
  let r := s.setup
  let of (n : Channel) (k : Nat) : Int := r.get (chField n k)
  { grid := (r.get 121).toNat, traceOrder := traceOrderBytes (r.get 123), cursorMode := (r.get 124).toNat,
    cursorSource := (r.get 125).toNat, cursorXa := (r.get 126).toNat, cursorXb := (r.get 127).toNat,
    cursorYa := (r.get 128).toNat, cursorYb := (r.get 129).toNat,
    levelSource := recordSource r, level := (r.get 99).toNat,
    levelFine := match recordSource r with | .channel n => of n 2 | .ext => 0
    levelPosition := match recordSource r with | .channel n => of n 3 | .ext => 0
    levelInvert := match recordSource r with | .channel n => of n 7 == 1 | .ext => false
    palette := s.cmp.palette }

/-- R140 step 2, R154, R155: a pending overlay copy, its reply, and the drain of the hold list. -/
def overlayCopy (s : State) : State :=
  if s.cmp.showPending then
    let s1 := reply 0x55 s.cmp.showTag .ok .empty { s with cmp := { s.cmp with shown := s.cmp.draw, showPending := false } }
    drainHold s1.cmp.hold s1
  else s

/-- R140: the instant of the frame start that follows the first `k`. -/
def frameInstant (broughtUp : Instant) (k : Nat) : Instant := broughtUp + k * 1000000000 / 60

/-- R140: a frame start. The frame is composed from the context taken at step 1 and from what stands after step 2. -/
def frameStarts (s : State) : State :=
  let s0 := reach (frameInstant s.cmp.broughtUp s.cmp.frames) s
  let ctx := frameContext s0
  let s1 := overlayCopy { s0 with cmp := { s0.cmp with frames := s.cmp.frames + 1, heldBacklight := (s0.setup.get 122).toNat } }
  { s1 with cmp := { s1.cmp with
      frame := some { context := ctx, basis := s1.cmp.basis, overlay := s1.cmp.shown, planes := s1.rnd.shown } } }

/-- FRAME_START, R140. -/
def execFrameStart (s : State) : Host.Outcome State Fault Refusal := whenUp frameStarts s

/-- R156: a backlight period starts: the duty of the period is set. -/
def backlightStarts (s : State) : State :=
  let s0 := reach (s.cmp.broughtUp + s.cmp.periods * 32000) s
  { s0 with cmp := { s0.cmp with periods := s0.cmp.periods + 1, duty := if s0.cmp.blanked then 0 else s0.cmp.heldBacklight } }

/-- BACKLIGHT_PERIOD_START, R156. -/
def execBacklightPeriodStart (s : State) : Host.Outcome State Fault Refusal := whenUp backlightStarts s

/-- R156: the backlight output during tick `t` of a period; true is high. -/
def backlightHigh (t : Nat) (s : State) : Bool := decide (t < s.cmp.duty)

/-! ### CURSOR_READ -/

/-- R148: the shown column entry of a trace at a column. -/
def shownEntry (t j : Nat) (s : State) : ColEntry :=
  match s.rnd.shownTab[t]? with
  | some tab => tab[j]?.getD invalidEntry
  | none => invalidEntry

/-- R148. -/
def cursorReadOf (tag : Byte) (payload : List Byte) (s : State) : State :=
  match parseNothing payload with
  | none => reply 0x51 tag .badArg .empty s
  | some _ =>
    let t := (s.setup.get 125).toNat
    let xa := (s.setup.get 126).toNat
    let xb := (s.setup.get 127).toNat
    reply 0x51 tag .ok (.cursors t xa (shownEntry t xa s) xb (shownEntry t xb s)) s

/-- CURSOR_READ, R148. -/
def execCursorRead (tag : Byte) (payload : List Byte) (s : State) : Host.Outcome State Fault Refusal :=
  request 0x51 tag payload (cursorReadOf tag payload) s

end Sys2Proof.Machine
end

