-- ==== Sys2Proof/Machine/Panel.lean ====
section
/-! DEFINITION. PNL: the scan matrix and debouncing, dispositions and local actions, encoders, waiting reports, the lock and the
blank, LEDs and the beeper (chapter 8). -/

namespace Sys2Proof.Machine

/-! ### Waiting reports, sections 8.4 and 8.5 -/

/-- A waiting item of PNL (R171). -/
inductive PanelItem where
  | key (e : KeyEvent)
  | encoder (e : Fin 12)
  deriving DecidableEq, Repr

/-- R171: the encoder that has waited longest, in ascending number among equals, among a list of encoders. -/
def oldestEncoder (es : List (Fin 12)) (p : Pnl) : Option (Fin 12) :=
  match es with
  | [] => none
  | e :: rest =>
    if p.encs[e].sum = 0 then oldestEncoder rest p
    else
      match oldestEncoder rest p with
      | none => some e
      | some f => if p.encs[f].since < p.encs[e].since then some f else some e

/-- The twelve encoders in ascending number. -/
def encoders : List (Fin 12) := List.finRange 12

/-- R171: the item that has waited longest; among equals the key event, then encoders in ascending number. -/
def oldestItem (p : Pnl) : Option PanelItem :=
  match p.events, oldestEncoder encoders p with
  | [], none => none
  | [], some e => some (.encoder e)
  | k :: _, none => some (.key k)
  | k :: _, some e => if p.encs[e].since < k.since then some (.encoder e) else some (.key k)

/-- R170, R210: LNK accepts a panel report while free ≥ 4. -/
def panelRoom (s : State) : Bool := decide (4 ≤ freeCount s)

/-- R171: one waiting item leaves PNL as a report. -/
def offerItem (i : PanelItem) (s : State) : State :=
  match i with
  | .key k =>
    offer (.key k.key k.kind k.disposition k.stamp) { s with pnl := { s.pnl with events := s.pnl.events.drop 1 } }
  | .encoder e =>
    offer (.encoder e s.pnl.encs[e].sum s.pnl.encs[e].stamp)
      { s with pnl := { s.pnl with encs := vmod s.pnl.encs e (fun x => { x with sum := 0 }) } }

/-- R171: PNL offers its longest-waiting item, if LNK will accept a report. -/
def offerOldest (s : State) : State :=
  if panelRoom s then
    match oldestItem s.pnl with
    | none => s
    | some i => offerItem i s
  else s

/-- R171: PNL offers its waiting items one at a time while LNK will accept them; `fuel` bounds their number. -/
def offerWaiting (fuel : Nat) (s : State) : State :=
  match fuel with
  | 0 => s
  | f + 1 => offerWaiting f (offerOldest s)

/-- R171: room exists as an event is made or an accumulator becomes non-zero. -/
def drainPanel (s : State) : State := offerWaiting (s.pnl.events.length + 12) s

/-- PANEL_REPORT_OFFER, R171. -/
def execPanelReportOffer (s : State) : Host.Outcome State Fault Refusal := whenUp offerOldest s

/-! ### Key events -/

/-- R162: a key event is appended, or dropped with KEY_OVERFLOW. -/
def pushEvent (key : Nat) (kind : KeyKind) (d : Disposition) (s : State) : State :=
  if s.pnl.events.length < Config.keyQueueSize then
    drainPanel { s with pnl := { s.pnl with events := s.pnl.events ++ [⟨key, kind, d, panelClock s, s.now⟩] } }
  else latchCondition .keyOverflow (.key key) s

/-- Change the state of a key. -/
def modKey (k : Fin 64) (f : KeyState → KeyState) (s : State) : State :=
  { s with pnl := { s.pnl with keys := vmod s.pnl.keys k f } }

/-- R173: the flag changes and PNL tells CMP. -/
def setBlank (b : Bool) (s : State) : State :=
  { s with pnl := { s.pnl with blanked := b }, cmp := { s.cmp with blanked := b } }

/-- R176: a key click, with key_click ON, when the beeper is SILENT or sounds a CLICK. -/
def keyClick (s : State) : State :=
  if s.setup.get 161 = 1 then
    match s.pnl.beeper with
    | none => startSound 4000 2 true s
    | some b => if b.click then startSound 4000 2 true s else s
  else s

/-- R164: RUN_STOP, taken as RUN when ACQ is STOPPED and as STOP in every other state. -/
def runStopKey (s : State) : State := if s.acq.state = .stopped then (takeRun s).1 else takeStop s

/-- R164: a local action. -/
def localAction (a : LocalAction) (s : State) : State :=
  match a with
  | .runStop => runStopKey s
  | .single => (takeSingle s).1
  | .force => (takeForce s).1
  | .clearPersist => setRedraw s
  | .channelToggle n => takeChannelToggle n s
  | .fieldDefault e =>
    match s.pnl.encBindings[e].target with
    | some id => takeFieldDefault id s
    | none => s
  | .localRelease => if s.pnl.lock = .remote then { s with pnl := { s.pnl with lock := .unlocked } } else s
  | .defaultSetup => takeChangeSet defaultChangeSet s

/-- R161: the disposition of a PRESS; `none` where the binding is NONE and no event is made. -/
def dispositionOf (blanked : Bool) (lock : PanelLock) (b : KeyBinding) : Option Disposition :=
  if blanked then some .wake
  else
    match b with
    | .none => none
    | .forward => if lock = .unlocked then some .forwarded else some .locked
    | .action a =>
      if lock = .unlocked ∨ (lock = .remote ∧ a = .localRelease) then some .localActed else some .locked

/-- R161: the action of a PRESS: the unblanking, and steps 1 and 2. -/
def pressAction (d : Disposition) (b : KeyBinding) (s : State) : State :=
  match d with
  | .wake => setBlank false s
  | .locked => keyClick s
  | .forwarded => keyClick s
  | .localActed =>
    match b with
    | .action a => localAction a (keyClick s)
    | _ => keyClick s

/-- R160, R161: an accepted PRESS. -/
def keyPressed (k : Fin 64) (s : State) : State :=
  let b := s.pnl.bindings[k]
  let d := dispositionOf s.pnl.blanked s.pnl.lock b
  let s1 := modKey k (fun x => { x with hold := some (s.now + 800 * oneMs), holdTaken := false, disposition := d }) s
  match d with
  | none => s1
  | some d => pushEvent k.val .press d (pressAction d b s1)

/-- R161: the event of a HOLD or RELEASE, with the recorded disposition; none where none was recorded. -/
def laterEvent (k : Fin 64) (kind : KeyKind) (s : State) : State :=
  match s.pnl.keys[k].disposition with
  | none => s
  | some d => pushEvent k.val kind d s

/-- R160: the hold deadline of a key is cleared. -/
def clearHold (k : Fin 64) (s : State) : State := modKey k (fun x => { x with hold := none, holdTaken := false }) s

/-- R160: an accepted RELEASE. -/
def keyReleased (k : Fin 64) (s : State) : State := laterEvent k .release (clearHold k s)

/-- R160: the hold deadline of a key is reached: it is cleared, and while the key is DOWN a HOLD is made. -/
def makeHold (k : Fin 64) (s : State) : State :=
  if s.pnl.keys[k].down then laterEvent k .hold (clearHold k s) else clearHold k s

/-! ### Encoders -/

/-- R165: the place of a line pair (A, B) in the clockwise order 00, 10, 11, 01. -/
def quadrant (p : Bool × Bool) : Nat :=
  match p with
  | (false, false) => 0
  | (true, false) => 1
  | (true, true) => 2
  | (false, true) => 3

/-- R165: the quarter step from one pair to another; 0 where none is counted. -/
def quarterStep (last pair : Bool × Bool) : Int :=
  match (quadrant pair + 4 - quadrant last) % 4 with
  | 1 => 1
  | 3 => -1
  | _ => 0

/-- R167: the acceleration factor. -/
def accelFactor (accel : Bool) (last : Option (Instant × Bool)) (now : Instant) (up : Bool) : Nat :=
  match accel, last with
  | true, some (t, d) =>
    if d = up then (if now - t < 15 * oneMs then 8 else if now - t < 40 * oneMs then 4 else 1) else 1
  | _, _ => 1

/-- R169: the clamp of a sum. -/
def clampSum (v : Int) : Int := clampInt (-32767) 32767 v

/-- R169: the unsent ENCODER report of an encoder with a value added. -/
def addToReport (e : Fin 12) (v : Int) (stamp : Word32) (r : Record) : Record :=
  match r with
  | .report (.encoder _ sum _) => .report (.encoder e (clampSum (sum + v)) stamp)
  | r => r

/-- R169: a forwarded detent adds `v` to the unsent report of the encoder, or to its accumulator. -/
def forwardDetent (e : Fin 12) (v : Int) (s : State) : State :=
  let mine := updates (.encoder e 0 0)
  match replaceFirst mine (addToReport e v (panelClock s)) s.lnk.outbound with
  | some q => { noteUpdate mine s with lnk := { (noteUpdate mine s).lnk with outbound := q } }
  | none =>
    drainPanel { s with pnl := { s.pnl with encs := vmod s.pnl.encs e (fun x =>
      { x with sum := clampSum (x.sum + v), since := if x.sum = 0 then s.now else x.since, stamp := panelClock s }) } }

/-- R167: a detent that is acted on is recorded. -/
def recordDetent (e : Fin 12) (up : Bool) (s : State) : State :=
  { s with pnl := { s.pnl with encs := vmod s.pnl.encs e (fun x => { x with acted := some (s.now, up) }) } }

/-- R168: one recognised detent. -/
def detent (e : Fin 12) (up : Bool) (s : State) : State :=
  let b := s.pnl.encBindings[e]
  let m := b.step * accelFactor b.accel s.pnl.encs[e].acted s.now up
  if s.pnl.blanked then pushEvent (52 + e.val) .turn .wake (setBlank false s)
  else if s.pnl.lock ≠ .unlocked then s
  else if b.isLocal then
    match b.target with
    | none => s
    | some id => takeRelativeEdit id up m (recordDetent e up s)
  else forwardDetent e (if up then m else -(m : Int)) (recordDetent e up s)

/-- Write the last pair and the quarter-step count of an encoder. -/
def setPair (e : Fin 12) (pair : Bool × Bool) (q : Int) (s : State) : State :=
  { s with pnl := { s.pnl with encs := vmod s.pnl.encs e (fun x => { x with last := some pair, quarter := q }) } }

/-- R165: one sample of an encoder. -/
def sampleEncoder (e : Fin 12) (pair : Bool × Bool) (s : State) : State :=
  let x := s.pnl.encs[e]
  match x.last with
  | none => setPair e pair x.quarter s
  | some last =>
    let q := x.quarter + quarterStep last pair
    if q = 4 then detent e true (setPair e pair 0 s)
    else if q = -4 then detent e false (setPair e pair 0 s)
    else setPair e pair q s

/-! ### The scan -/

/-- R159: one scan of a key whose contact reads `down`. -/
def scanKey (k : Fin 64) (down : Bool) (s : State) : State :=
  let x := s.pnl.keys[k]
  if x.down = down then modKey k (fun x => { x with disagree := 0 }) s
  else if x.disagree < 2 then modKey k (fun x => { x with disagree := x.disagree + 1 }) s
  else
    let s1 := modKey k (fun x => { x with down := down, disagree := 0 }) s
    if down then keyPressed k s1 else keyReleased k s1

/-- R158: the key of row r and column c. -/
def keyAt (r c : Fin 8) : Fin 64 := ⟨8 * r.val + c.val, by omega⟩

/-- The 64 keys in ascending key code. -/
def allKeys : List (Fin 64) := List.finRange 64

/-- R158: the row of a key. -/
def rowOfKey (k : Fin 64) : Fin 8 := ⟨k.val / 8, by omega⟩

/-- R160, R162: what falls at the instant of a row slot for one key: a hold deadline that has been taken before the scan, the scan
of a key of the row, and a hold deadline that is left after it. `t` is the slot's own instant. -/
def slotKey (t : Instant) (r : Fin 8) (contacts : Byte) (k : Fin 64) (s : State) : State :=
  let s1 := if s.pnl.keys[k].hold = some t ∧ s.pnl.keys[k].holdTaken = true then makeHold k s else s
  let s2 := if rowOfKey k = r then scanKey k (contacts.getLsbD (k.val % 8)) s1 else s1
  if s2.pnl.keys[k].hold = some t then makeHold k s2 else s2

/-- R162: the sample of the encoder whose push switch has this key code, where lines have been taken at this instant. -/
def turnAt (lines : Option (BitVec 12 × BitVec 12)) (k : Fin 64) (s : State) : State :=
  match lines with
  | none => s
  | some (a, b) =>
    if h : 52 ≤ k.val then
      let e : Fin 12 := ⟨k.val - 52, by omega⟩
      sampleEncoder e (a.getLsbD e.val, b.getLsbD e.val) s
    else s

/-- R158, R162: the events of a row slot and of the encoder sample taken at its instant, in ascending key code; those of a push
switch come before the turn of its encoder. -/
def slotKeys (t : Instant) (r : Fin 8) (contacts : Byte) (lines : Option (BitVec 12 × BitVec 12)) (s : State) : State :=
  allKeys.foldl (fun s k => turnAt lines k (slotKey t r contacts k s)) s

/-! ### LEDs -/

/-- Whether ACQ is in a running state (R174). -/
def acqRunning (a : AcqState) : Bool :=
  match a with
  | .stopped => false
  | .calibrating => false
  | .settling => true
  | .starved => true
  | .preFill => true
  | .ready => true
  | .postFill => true

/-- Lit, or dark. -/
def litIf (b : Bool) : LedLook := if b then .lit else .dark

/-- R174: what a source makes of an LED. -/
def ledLook (src : LedSource) (s : State) : LedLook :=
  match src with
  | .hostOff => .dark
  | .hostOn => .lit
  | .hostBlink => .blinking
  | .running => litIf (acqRunning s.acq.state)
  | .stopped => if s.acq.state = .stopped then .lit else if s.acq.state = .calibrating then .blinking else .dark
  | .singleArmed => litIf s.acq.singlePending
  | .triggered => litIf s.trg.indication.isSome
  | .channel n => if s.fec.latch[n] then .blinking else litIf (s.setup.enabled n)
  | .remote => litIf (decide (s.pnl.lock ≠ .unlocked))

/-- R175: whether an LED is on. -/
def ledOn (l : Fin 64) (s : State) : Bool :=
  !s.pnl.blanked &&
    match ledLook s.pnl.leds[l] s with
    | .lit => true
    | .blinking => s.pnl.blinkOn
    | .dark => false

/-- R175: the LEDs of a row for a slot, with the duty taken at its start. -/
def driveLeds (r : Fin 8) (s : State) : State :=
  { s with pnl := { s.pnl with
      ledDrive := some ⟨r, .ofFn (fun c => ledOn (keyAt r c) s), (s.setup.get 160).toNat⟩ } }

/-- R158: the row slot after this one. -/
def nextRow (r : Fin 8) : Fin 8 := ⟨(r.val + 1) % 8, by omega⟩

/-- R175: whether the LED of column c is driven during tick `t` of 256 of the present row slot. -/
def ledDriven (t : Nat) (c : Fin 8) (s : State) : Bool :=
  match s.pnl.ledDrive with
  | none => false
  | some d => d.on[c] && decide (t < d.duty)

/-- R158: a row slot: the keys of the row are read, its LEDs are driven, and the next row follows. -/
def runSlot (contacts : Byte) (s : State) : State :=
  let r := s.pnl.row
  let s1 := driveLeds r (slotKeys s.pnl.rowNext r contacts s.pnl.lines (reach s.pnl.rowNext s))
  { s1 with pnl := { s1.pnl with row := nextRow r, rowNext := s.pnl.rowNext + 500 * oneUs, contacts := none, lines := none } }

/-- R162: an encoder sample is due at the instant of the next row slot. -/
def sampleDue (s : State) : Bool := decide (s.pnl.encNext = s.pnl.rowNext)

/-- R158: a row slot that has been left waiting runs before the next one. -/
def settleSlot (s : State) : State :=
  match s.pnl.contacts with
  | none => s
  | some c => runSlot c { s with pnl := { s.pnl with contacts := none } }

/-- R158, R162: a row slot. On a blanked panel an encoder sample of the same instant can make TURN events, which have their place
among those of the slot: the slot then waits for it. -/
def rowSlot (contacts : Byte) (s : State) : State :=
  let s1 := settleSlot s
  if s1.pnl.blanked && sampleDue s1 then
    let s2 := reach s1.pnl.rowNext s1
    { s2 with pnl := { s2.pnl with contacts := some contacts } }
  else runSlot contacts s1

/-- ROW_SLOT, R158. -/
def execRowSlot (contacts : Byte) (s : State) : Host.Outcome State Fault Refusal := whenUp (rowSlot contacts) s

/-! ### Encoder samples -/

/-- R165: the sample of the twelve encoders, in ascending number. -/
def sampleAll (a b : BitVec 12) (s : State) : State :=
  encoders.foldl (fun s e => sampleEncoder e (a.getLsbD e.val, b.getLsbD e.val) s) s

/-- R165: a sample whose row slot has not come is finished before the next one. -/
def settleLines (s : State) : State :=
  match s.pnl.lines with
  | none => s
  | some (a, b) => sampleAll a b { s with pnl := { s.pnl with lines := none } }

/-- R165: the sample's instant is reached, and the next one follows 250 µs later. -/
def nextSample (s : State) : State :=
  let s1 := reach s.pnl.encNext s
  { s1 with pnl := { s1.pnl with encNext := s.pnl.encNext + 250 * oneUs } }

/-- R165, R162: an encoder sample. On a blanked panel, at the instant of the next row slot, its events have their place among those
of that slot, which runs with it if it waits. -/
def encoderSamples (a b : BitVec 12) (s : State) : State :=
  let s1 := settleLines s
  let s2 := nextSample s1
  if sampleDue s1 && (s1.pnl.blanked || s1.pnl.contacts.isSome) then
    settleSlot { s2 with pnl := { s2.pnl with lines := some (a, b) } }
  else sampleAll a b s2

/-- ENCODER_SAMPLE, R165. -/
def execEncoderSample (lineA lineB : BitVec 12) (s : State) : Host.Outcome State Fault Refusal :=
  whenUp (encoderSamples lineA lineB) s

/-! ### Holds -/

/-- R160, R162: the hold deadline of a key is reached. Where the next row slot falls at the same instant, the HOLD has its place
among that slot's events (R162) and is taken before a release there (R160). Elsewhere it is made now, behind those of lower key
codes that fall at the same deadline. -/
def holdReached (k : Fin 64) (s : State) : State :=
  match s.pnl.keys[k].hold with
  | none => s
  | some t =>
    if t = s.pnl.rowNext then modKey k (fun x => { x with holdTaken := true }) (reach t s)
    else (allKeys.filter (fun m => decide (m ≤ k ∧ s.pnl.keys[m].hold = some t))).foldl (fun s m => makeHold m s) (reach t s)

/-- HOLD_DEADLINE, R160. -/
def execHoldDeadline (key : Fin 64) (s : State) : Host.Outcome State Fault Refusal := whenUp (holdReached key) s

/-- R175: the blink phase toggles every 250 ms. -/
def blinkToggles (s : State) : State :=
  reach s.pnl.blinkNext
    { s with pnl := { s.pnl with blinkOn := !s.pnl.blinkOn, blinkNext := s.pnl.blinkNext + 250 * oneMs } }

/-- BLINK_TOGGLE, R175. -/
def execBlinkToggle (s : State) : Host.Outcome State Fault Refusal := whenUp blinkToggles s

/-- R176: the present time reaches the end instant: the beeper becomes SILENT. -/
def beeperEnds (s : State) : State :=
  match s.pnl.beeper with
  | none => s
  | some b => reach b.until_ { s with pnl := { s.pnl with beeper := none } }

/-- BEEPER_END, R176. -/
def execBeeperEnd (s : State) : Host.Outcome State Fault Refusal := whenUp beeperEnds s

/-! ### Requests -/

/-- R163. -/
def keyBindOf (tag : Byte) (payload : List Byte) (s : State) : State :=
  match parseKeyBind payload with
  | none => reply 0x60 tag .badArg .empty s
  | some (k, b) => reply 0x60 tag .ok .empty { s with pnl := { s.pnl with bindings := s.pnl.bindings.set k b } }

/-- KEY_BIND, R163. -/
def execKeyBind (tag : Byte) (payload : List Byte) (s : State) : Host.Outcome State Fault Refusal :=
  request 0x60 tag payload (keyBindOf tag payload) s

/-- R166: the mode LOCAL is 0 and FORWARD 1; a step outside 1..1000 is clamped. -/
def encBindOf (tag : Byte) (payload : List Byte) (s : State) : State :=
  match parseEncBind payload with
  | none => reply 0x61 tag .badArg .empty s
  | some (e, target, mode, step, accel) =>
    if h : e < 12 then
      if mode ≤ 1 ∧ target.all knownField = true then
        reply 0x61 tag .ok (.step (max 1 (min 1000 step)))
          { s with pnl := { s.pnl with encBindings := s.pnl.encBindings.set e ⟨target, mode == 0, max 1 (min 1000 step), accel⟩ } }
      else reply 0x61 tag .badArg .empty s
    else reply 0x61 tag .badArg .empty s

/-- ENC_BIND, R166. -/
def execEncBind (tag : Byte) (payload : List Byte) (s : State) : Host.Outcome State Fault Refusal :=
  request 0x61 tag payload (encBindOf tag payload) s

/-- R174. -/
def ledSetOf (tag : Byte) (payload : List Byte) (s : State) : State :=
  match parseLedSet payload with
  | none => reply 0x62 tag .badArg .empty s
  | some (l, src) => reply 0x62 tag .ok .empty { s with pnl := { s.pnl with leds := s.pnl.leds.set l src } }

/-- LED_SET, R174. -/
def execLedSet (tag : Byte) (payload : List Byte) (s : State) : Host.Outcome State Fault Refusal :=
  request 0x62 tag payload (ledSetOf tag payload) s

/-- R172. -/
def panelLockOf (tag : Byte) (payload : List Byte) (s : State) : State :=
  match parseLock payload with
  | none => reply 0x63 tag .badArg .empty s
  | some m => reply 0x63 tag .ok .empty { s with pnl := { s.pnl with lock := m } }

/-- PANEL_LOCK, R172. -/
def execPanelLock (tag : Byte) (payload : List Byte) (s : State) : Host.Outcome State Fault Refusal :=
  request 0x63 tag payload (panelLockOf tag payload) s

/-- R173. -/
def panelBlankOf (tag : Byte) (payload : List Byte) (s : State) : State :=
  match parseBlank payload with
  | none => reply 0x64 tag .badArg .empty s
  | some b => reply 0x64 tag .ok .empty (setBlank b s)

/-- PANEL_BLANK, R173. -/
def execPanelBlank (tag : Byte) (payload : List Byte) (s : State) : Host.Outcome State Fault Refusal :=
  request 0x64 tag payload (panelBlankOf tag payload) s

/-- R176: frequency and duration are clamped. -/
def beepOf (tag : Byte) (payload : List Byte) (s : State) : State :=
  match parseBeep payload with
  | none => reply 0x65 tag .badArg .empty s
  | some (f, d) =>
    let f1 := max 200 (min 8000 f)
    let d1 := max 1 (min 2000 d)
    reply 0x65 tag .ok (.sound f1 d1) (startSound f1 d1 false s)

/-- BEEP, R176. -/
def execBeep (tag : Byte) (payload : List Byte) (s : State) : Host.Outcome State Fault Refusal :=
  request 0x65 tag payload (beepOf tag payload) s

end Sys2Proof.Machine
end

