-- ==== Sys2Proof/Machine/Store.lean ====
section
/-! DEFINITION. STO: the records of the flash areas and their CRC, the header copies, the store engine, autosave, and what a reset
leaves of an interrupted operation (chapter 9). -/

namespace Sys2Proof.Machine

/-! ### Records, section 9.1. The byte layouts are the model's (log 11). -/

/-- R178: a record with its CRC behind it. -/
def sealRecord (content : List Byte) : List Byte := content ++ crcBytes content

/-- R178: the contents of a record that checks; `none` where it does not. -/
def checkedContent (bs : List Byte) : Option (List Byte) :=
  if 2 ≤ bs.length ∧ crcBytes (bs.take (bs.length - 2)) = bs.drop (bs.length - 2) then some (bs.take (bs.length - 2)) else none

/-- R179: the bytes of a slot record. -/
def slotBytes (r : SlotRecord) : List Byte :=
  sealRecord (beBytes 1 r.format ++ beBytes 1 r.label.length ++ r.label ++ beBytes 4 r.saveCount.toNat
    ++ r.image.flatMap (beInt 8))

/-- R179: the fields behind the format number, in the layout of format 1. -/
def slotFields (format : Nat) (p : List Byte) : Option SlotRecord :=
  match p with
  | [] => none
  | k :: rest =>
    if rest.length = k.toNat + 4 + 664 then
      some ⟨format, rest.take k.toNat, BitVec.ofNat 32 (ofBe ((rest.drop k.toNat).take 4)),
            (pieces 8 83 (rest.drop (k.toNat + 4))).map ofBeInt⟩
    else none

/-- R179: what a slot area holds: erased, a record that checks, or anything else. A record of another format number keeps
that number whatever the layout behind it; where the layout does not fit, its label is empty and its save count 0, as the spec gives
none (DESIGN CHOICE, log 11). -/
def readSlot (area : Option (List Byte)) : AreaState × Option SlotRecord :=
  match area with
  | none => (.empty, none)
  | some bs =>
    match checkedContent bs with
    | some (f :: p) =>
      match slotFields f.toNat p with
      | some r => (.valid, some r)
      | none => if f = 1 then (.damaged, none) else (.valid, some ⟨f.toNat, [], 0, []⟩)
    | _ => (.damaged, none)

/-- The directory entry of what a read found. -/
def dirOf (r : AreaState × Option SlotRecord) : DirEntry :=
  match r with
  | (.valid, some x) => ⟨.valid, x.format, x.label, x.saveCount⟩
  | (st, _) => dirNone st

/-- R180: the power-on source, by form: LAST, DEFAULT, a user slot. -/
def sourceBytes (p : PowerSource) : List Byte :=
  match p with
  | .last => [0]
  | .deflt => [1]
  | .user n => [2, BitVec.ofNat 8 (n.val + 1)]

/-- R205: a set of ten choices as a bit field, the first in the least significant bit. -/
def bitField (bs : List Bool) : Nat := bs.foldr (fun b acc => 2 * acc + (if b then 1 else 0)) 0

/-- R180: the bytes of a header record. -/
def headerBytes (r : HeaderRecord) : List Byte :=
  sealRecord (beBytes 1 r.format ++ beBytes 4 r.writeCount.toNat ++ sourceBytes r.source ++ beBytes 2 (bitField r.protects.toList))

/-- The protect flags of a bit field. -/
def protectsOf (v : Nat) : Vector Bool 10 := .ofFn (fun i => v.testBit i.val)

/-- R180: a valid header: a record that checks, of format 1, whose source is within the list. -/
def readHeader (area : Option (List Byte)) : Option HeaderRecord :=
  match area.bind checkedContent with
  | some [f, a, b, c, d, src, x, y] =>
    if f = 1 then
      (parsePowerSource [src]).map (fun p => ⟨1, BitVec.ofNat 32 (ofBe [a, b, c, d]), p, protectsOf (ofBe [x, y])⟩)
    else none
  | some [f, a, b, c, d, src, n, x, y] =>
    if f = 1 then
      (parsePowerSource [src, n]).map (fun p => ⟨1, BitVec.ofNat 32 (ofBe [a, b, c, d]), p, protectsOf (ofBe [x, y])⟩)
    else none
  | _ => none

/-- R181: the bytes of a calibration record. -/
def calBytes (vs : List Int) : List Byte := sealRecord (beBytes 1 1 ++ vs.flatMap (beInt 1))

/-- R181: what the calibration area holds. -/
def readCal (area : Option (List Byte)) : AreaState × Option (List Int) :=
  match area with
  | none => (.empty, none)
  | some bs =>
    match checkedContent bs with
    | some (f :: p) =>
      let vs := (pieces 1 52 p).map ofBeInt
      if f = 1 ∧ p.length = 52 ∧ vs.all (fun v => decide (-32 ≤ v ∧ v ≤ 31)) = true then (.valid, some vs) else (.damaged, none)
    | _ => (.damaged, none)

/-! ### The header copies, R180 -/

/-- R180: the write count after one. -/
def countAfter (c : Word32) : Word32 := if c = 4294967295#32 then 1 else c + 1

/-- The header copy that a valid header gives. -/
def headerCopyOf (r : HeaderRecord) (inB : Bool) : HeaderCopy := ⟨true, r.writeCount, r.source, r.protects, inB⟩

/-- R180: the newest valid header. -/
def newestHeader (a b : Option HeaderRecord) : HeaderCopy :=
  match a, b with
  | none, none => headerNone
  | some x, none => headerCopyOf x false
  | none, some y => headerCopyOf y true
  | some x, some y =>
    if x.writeCount = countAfter y.writeCount then headerCopyOf x false
    else if y.writeCount = countAfter x.writeCount then headerCopyOf y true
    else if x.writeCount < y.writeCount then headerCopyOf y true
    else headerCopyOf x false

/-- R180: whether a header write goes to copy B. -/
def headerTargetB (h : HeaderCopy) : Bool := h.valid && !h.inB

/-- R180: the write count of the next header write. -/
def nextWriteCount (h : HeaderCopy) : Word32 := if h.valid then countAfter h.writeCount else 1

/-! ### Flash areas -/

/-- The area an operation works on. -/
def jobArea (j : StoreJob) (h : HeaderCopy) : FlashArea :=
  match j with
  | .save n _ => .slot n
  | .recall n => .slot n
  | .erase n => .slot n
  | .protect _ _ => if headerTargetB h then .headerB else .headerA
  | .powerOn _ => if headerTargetB h then .headerB else .headerA
  | .calSave _ => .calibration

/-- Write an area. -/
def setArea (a : FlashArea) (v : Option (List Byte)) (f : Flash) : Flash :=
  match a with
  | .headerA => { f with headerA := v }
  | .headerB => { f with headerB := v }
  | .slot n => { f with slots := f.slots.set n v }
  | .calibration => { f with calibration := v }

/-- What an area holds. -/
def areaOf (a : FlashArea) (f : Flash) : Option (List Byte) :=
  match a with
  | .headerA => f.headerA
  | .headerB => f.headerB
  | .slot n => f.slots[n]
  | .calibration => f.calibration

/-- The record an operation programs; nothing for an erase or a recall. -/
def jobBytes (j : StoreJob) : Option (List Byte) :=
  match j with
  | .save _ r => some (slotBytes r)
  | .recall _ => none
  | .erase _ => none
  | .protect _ r => some (headerBytes r)
  | .powerOn r => some (headerBytes r)
  | .calSave vs => some (calBytes vs)

/-- Set an area of STO's flash. -/
def writeArea (a : FlashArea) (v : Option (List Byte)) (s : State) : State :=
  { s with sto := { s.sto with flash := setArea a v s.sto.flash } }

/-- Set a slot's directory entry. -/
def setDir (n : Fin 11) (e : DirEntry) (s : State) : State := { s with sto := { s.sto with dir := s.sto.dir.set n e } }

/-- R187, R191: a header area that is no longer valid, whatever it holds. -/
def unlessHeader (c : Option (List Byte)) : Option (List Byte) := if (readHeader c).isSome then some [] else c

/-- R191: a slot area that is EMPTY or DAMAGED. -/
def unlessSlot (c : Option (List Byte)) : Option (List Byte) := if (readSlot c).1 = .valid then some [] else c

/-- R191: a slot area that is DAMAGED. -/
def damagedSlot (c : Option (List Byte)) : Option (List Byte) := if (readSlot c).1 = .damaged then c else some []

/-- R191: a calibration area that is EMPTY or DAMAGED. -/
def unlessCal (c : Option (List Byte)) : Option (List Byte) := if (readCal c).1 = .valid then some [] else c

/-! ### The store engine, section 9.2 -/

/-- R183: the operation named in STORE_DONE. -/
def jobOp (j : StoreJob) : StoreOp :=
  match j with
  | .save _ _ => .save
  | .recall _ => .recall
  | .erase _ => .erase
  | .protect _ _ => .protect
  | .powerOn _ => .powerOn
  | .calSave _ => .calSave

/-- R183: the slot item of STORE_DONE. -/
def jobArg (j : StoreJob) : StoreArg :=
  match j with
  | .save n _ => .slot n
  | .recall n => .slot n
  | .erase n => .slot n
  | .protect n _ => .slot (slotOfUser n)
  | .powerOn r => .source r.source
  | .calSave _ => .absent

/-- The engine becomes BUSY with an operation, at its first step. -/
def startJob (j : StoreJob) (s : State) : State :=
  let step := match j with
    | .recall _ => StoreStep.read
    | _ => StoreStep.erase
  { s with sto := { s.sto with engine := some ⟨j, step, s.now⟩ } }

/-- R184: the setup image: the active setup with view_mode LATEST and view_seq 0. -/
def setupImage (r : Setup) : List Int := ((r.set 112 0).set 113 0).vals.toList

/-- R184: the save count of a new record. Past the range of R179 it is a free value (log 10). -/
def nextSaveCount (n : Fin 11) (s : State) : Word32 :=
  let e := s.sto.dir[n]
  if e.state = .valid then
    (if e.saveCount = 4294967295#32 then Config.saveCountPastRange s.fresh else e.saveCount + 1)
  else 1

/-- R184, R190: the engine starts a save: the image is taken at once. -/
def startSave (n : Fin 11) (label : List Byte) (s : State) : State :=
  drawn (startJob (.save n ⟨1, label, nextSaveCount n s, setupImage s.setup⟩) s)

/-- R190: an autosave starts, and the pending flag clears. -/
def startAutosave (s : State) : State := startSave 0 [] { s with sto := { s.sto with autosavePending := false } }

/-- R190: a waiting autosave starts while the engine is IDLE. -/
def startPendingAutosave (s : State) : State :=
  if s.sto.autosavePending && s.sto.engine.isNone then startAutosave s else s

/-- The requests that the engine can start on (R183): STORE_SAVE, STORE_RECALL, STORE_ERASE, STORE_PROTECT, STORE_POWER_ON and
CAL_SAVE. -/
def startsEngine (type : Byte) : Bool :=
  decide (type = 0x70 ∨ type = 0x71 ∨ type = 0x72 ∨ type = 0x73 ∨ type = 0x75 ∨ type = 0x76)

/-- R190: a store request stands at the head of the inbound queue and LNK can take it (R208). -/
def storeRequestArrives (s : State) : Bool :=
  s.lnk.inbound.head?.any (fun f => startsEngine f.type) && !s.lnk.startUp && decide (2 ≤ freeCount s)

/-- R190: the engine has become IDLE: a waiting autosave starts, unless a store request stands at the head of the inbound queue.
That request is taken first and the autosave waits for it (`storeOwner`); a request sent later finds the autosave started (log 16). -/
def engineIdle (s : State) : State := if storeRequestArrives s then s else startPendingAutosave s

/-- R183: the operation ends: the engine becomes IDLE and STORE_DONE is offered. -/
def endJob (j : StoreJob) (o : StoreOutcome) (gen : Option Word32) (s : State) : State :=
  offer (.storeDone (jobOp j) (jobArg j) o gen) { s with sto := { s.sto with engine := none } }

/-- R182: an operation ends with an outcome other than FAILED, which clears the fault flag. -/
def endWell (j : StoreJob) (o : StoreOutcome) (gen : Option Word32) (s : State) : State :=
  endJob j o gen { s with sto := { s.sto with fault := false } }

/-- R182: what a failed step does to the directory: a slot or the calibration area becomes DAMAGED; a header copy stays. -/
def markFailed (j : StoreJob) (s : State) : State :=
  match jobArea j s.sto.header with
  | .slot n => setDir n (dirNone .damaged) s
  | .calibration => { s with sto := { s.sto with calDir := .damaged } }
  | .headerA => s
  | .headerB => s

/-- R182, R187: the area being written is of unknown content; a header area is no longer valid. A recall writes none. -/
def spoilArea (j : StoreJob) (s : State) : State :=
  let c := Config.unknownContent s.fresh
  let a := jobArea j s.sto.header
  match j with
  | .recall _ => s
  | .protect _ _ => drawn (writeArea a (unlessHeader c) s)
  | .powerOn _ => drawn (writeArea a (unlessHeader c) s)
  | _ => drawn (writeArea a c s)

/-- R182: a step fails: the operation ends FAILED, the fault flag is set and STORE_FAULT is latched. -/
def failJob (j : StoreJob) (cause : StoreCause) (s : State) : State :=
  let s1 := markFailed j (spoilArea j s)
  endJob j .failed none
    (latchCondition .storeFault (.store (jobOp j) cause) { s1 with sto := { s1.sto with fault := true } })

/-- The engine goes on to a step. -/
def toStep (st : StoreStep) (s : State) : State :=
  { s with sto := { s.sto with engine := s.sto.engine.map (fun e => { e with step := st, since := s.now }) } }

/-- R182, R186: the ERASE step ends: the area is erased; a slot reads EMPTY. -/
def eraseEnds (s : State) : State :=
  match s.sto.engine with
  | none => s
  | some e =>
    if e.step = .erase then
      let a := jobArea e.job s.sto.header
      let s1 := writeArea a none s
      let s2 := match a with
        | .slot n => setDir n (dirNone .empty) s1
        | _ => s1
      match e.job with
      | .erase _ => toStep .verify s2
      | _ => toStep .program s2
    else s

/-- ERASE_STEP_END, R182. -/
def execEraseStepEnd (s : State) : Host.Outcome State Fault Refusal := whenUp eraseEnds s

/-- R182: the PROGRAM step ends: the area holds the record with its CRC. -/
def programEnds (s : State) : State :=
  match s.sto.engine with
  | none => s
  | some e => if e.step = .program then toStep .verify (writeArea (jobArea e.job s.sto.header) (jobBytes e.job) s) else s

/-- PROGRAM_STEP_END, R182. -/
def execProgramStepEnd (s : State) : Host.Outcome State Fault Refusal := whenUp programEnds s

/-- R184, R186, R187, R188, R189: what a passed VERIFY makes of the directory or the header copy. -/
def verified (j : StoreJob) (s : State) : State :=
  match j with
  | .save n r => setDir n ⟨.valid, 1, r.label, r.saveCount⟩ s
  | .recall _ => s
  | .erase n => setDir n (dirNone .empty) s
  | .protect _ r => { s with sto := { s.sto with header := headerCopyOf r (headerTargetB s.sto.header) } }
  | .powerOn r => { s with sto := { s.sto with header := headerCopyOf r (headerTargetB s.sto.header) } }
  | .calSave _ => { s with sto := { s.sto with calDir := .valid } }

/-- R182, R186: the VERIFY step ends: the read-back agrees, or the step fails with cause VERIFY. -/
def verifyEnds (agrees : Bool) (s : State) : State :=
  match s.sto.engine with
  | none => s
  | some e =>
    if e.step = .verify then
      engineIdle (if agrees then endWell e.job .ok none (verified e.job s) else failJob e.job .verify s)
    else s

/-- VERIFY_STEP_END, R182, R190. -/
def execVerifyStepEnd (agrees : Bool) (s : State) : Host.Outcome State Fault Refusal := whenUp (verifyEnds agrees) s

/-- R185: a recall acts by what it has read. -/
def recallRead (n : Fin 11) (s : State) : State :=
  let found := readSlot s.sto.flash.slots[n]
  let s1 := setDir n (dirOf found) s
  match found with
  | (.valid, some r) =>
    if r.format = 1 then
      let s2 := takeChangeSet (recallChangeSet n r.image s1) s1
      endWell (.recall n) .ok (some s2.generation) s2
    else endWell (.recall n) .format none s1
  | (.empty, _) => endWell (.recall n) .notFound none s1
  | _ => endWell (.recall n) .damaged none s1

/-- R185: the READ step ends. -/
def readEnds (s : State) : State :=
  match s.sto.engine with
  | none => s
  | some e =>
    match e.job, e.step with
    | .recall n, .read => engineIdle (recallRead n s)
    | _, _ => s

/-- READ_STEP_END, R185, R190. -/
def execReadStepEnd (s : State) : Host.Outcome State Fault Refusal := whenUp readEnds s

/-- R182: the time limit of a step. -/
def stepLimit (st : StoreStep) : Nat :=
  match st with
  | .erase => 500 * oneMs
  | .program => 50 * oneMs
  | .verify => 50 * oneMs
  | .read => 50 * oneMs

/-- R182: a step is not answered within its time limit. -/
def stepTimesOut (s : State) : State :=
  match s.sto.engine with
  | none => s
  | some e => engineIdle (failJob e.job .noResponse (reach (e.since + stepLimit e.step) s))

/-- STEP_TIMEOUT, R182, R190. -/
def execStepTimeout (s : State) : Host.Outcome State Fault Refusal := whenUp stepTimesOut s

/-- R190: the autosave deadline is reached. -/
def autosaveExpires (s : State) : State :=
  match s.sto.autosave with
  | none => s
  | some t =>
    let s1 := reach t { s with sto := { s.sto with autosave := none } }
    if s1.sto.engine.isSome then { s1 with sto := { s1.sto with autosavePending := true } } else startAutosave s1

/-- AUTOSAVE_EXPIRY, R190. -/
def execAutosaveExpiry (s : State) : Host.Outcome State Fault Refusal := whenUp autosaveExpires s

/-! ### Requests -/

/-- R184: a label of at most 16 characters, each of code 32..126. -/
def labelOk (label : List Byte) : Bool :=
  decide (label.length ≤ 16) && label.all (fun c => decide (32 ≤ c.toNat ∧ c.toNat ≤ 126))

/-- R183: the protect flag of a slot; slot 0 has none. -/
def isProtected (n : Fin 11) (s : State) : Bool :=
  if h : 1 ≤ n.val then s.sto.header.protects[n.val - 1]'(by omega) else false

/-- R183: a request that passed its BAD_ARG check: BUSY, then the request's own refusal, then ACCEPTED and the start. -/
def storeRequest (code tag : Byte) (refusal : Option Status) (start : State → State) (s : State) : State :=
  if s.sto.engine.isSome then reply code tag .busy .empty s
  else
    match refusal with
    | some st => reply code tag st .empty s
    | none => start (reply code tag .accepted .empty s)

/-- R190: a store request that was taken before a waiting autosave: where it has left the engine IDLE, the autosave starts. -/
def storeOwner (owner : State → State) (s : State) : State := startPendingAutosave (owner s)

/-- R183: the PROTECTED check. -/
def protectRefusal (n : Fin 11) (s : State) : Option Status := if isProtected n s then some .protectedSlot else none

/-- R184. -/
def storeSaveOf (tag : Byte) (payload : List Byte) (s : State) : State :=
  match parseSave payload with
  | none => reply 0x70 tag .badArg .empty s
  | some (slot, label) =>
    match userSlot slot with
    | none => reply 0x70 tag .badArg .empty s
    | some n =>
      if labelOk label then
        storeRequest 0x70 tag (protectRefusal (slotOfUser n) s) (startSave (slotOfUser n) label) s
      else reply 0x70 tag .badArg .empty s

/-- STORE_SAVE, R184. -/
def execStoreSave (tag : Byte) (payload : List Byte) (s : State) : Host.Outcome State Fault Refusal :=
  request 0x70 tag payload (storeOwner (storeSaveOf tag payload)) s

/-- The slot of a payload that names one of 0..10. -/
def parseSlot (p : List Byte) : Option (Fin 11) := (parseByte p).bind (fun b => anySlot b.toNat)

/-- R185. -/
def storeRecallOf (tag : Byte) (payload : List Byte) (s : State) : State :=
  match parseSlot payload with
  | none => reply 0x71 tag .badArg .empty s
  | some n => storeRequest 0x71 tag none (startJob (.recall n)) s

/-- STORE_RECALL, R185. -/
def execStoreRecall (tag : Byte) (payload : List Byte) (s : State) : Host.Outcome State Fault Refusal :=
  request 0x71 tag payload (storeOwner (storeRecallOf tag payload)) s

/-- R186. -/
def storeEraseOf (tag : Byte) (payload : List Byte) (s : State) : State :=
  match parseSlot payload with
  | none => reply 0x72 tag .badArg .empty s
  | some n => storeRequest 0x72 tag (protectRefusal n s) (startJob (.erase n)) s

/-- STORE_ERASE, R186. -/
def execStoreErase (tag : Byte) (payload : List Byte) (s : State) : Host.Outcome State Fault Refusal :=
  request 0x72 tag payload (storeOwner (storeEraseOf tag payload)) s

/-- R187: the header record of a STORE_PROTECT. -/
def protectRecord (n : Fin 10) (on : Bool) (h : HeaderCopy) : HeaderRecord :=
  ⟨1, nextWriteCount h, h.source, h.protects.set n on⟩

/-- R187. -/
def storeProtectOf (tag : Byte) (payload : List Byte) (s : State) : State :=
  match parseProtect payload with
  | none => reply 0x73 tag .badArg .empty s
  | some (slot, on) =>
    match userSlot slot with
    | none => reply 0x73 tag .badArg .empty s
    | some n => storeRequest 0x73 tag none (startJob (.protect n (protectRecord n on s.sto.header))) s

/-- STORE_PROTECT, R187. -/
def execStoreProtect (tag : Byte) (payload : List Byte) (s : State) : Host.Outcome State Fault Refusal :=
  request 0x73 tag payload (storeOwner (storeProtectOf tag payload)) s

/-- R188: the header record of a STORE_POWER_ON. -/
def powerOnRecord (p : PowerSource) (h : HeaderCopy) : HeaderRecord := ⟨1, nextWriteCount h, p, h.protects⟩

/-- R188. -/
def storePowerOnOf (tag : Byte) (payload : List Byte) (s : State) : State :=
  match parsePowerSource payload with
  | none => reply 0x75 tag .badArg .empty s
  | some p => storeRequest 0x75 tag none (startJob (.powerOn (powerOnRecord p s.sto.header))) s

/-- STORE_POWER_ON, R188. -/
def execStorePowerOn (tag : Byte) (payload : List Byte) (s : State) : Host.Outcome State Fault Refusal :=
  request 0x75 tag payload (storeOwner (storePowerOnOf tag payload)) s

/-- R189. -/
def calSaveOf (tag : Byte) (payload : List Byte) (s : State) : State :=
  match parseNothing payload with
  | none => reply 0x76 tag .badArg .empty s
  | some _ =>
    storeRequest 0x76 tag (if s.fec.tableValid then none else some .badState) (startJob (.calSave s.fec.live.toList)) s

/-- CAL_SAVE, R189. -/
def execCalSave (tag : Byte) (payload : List Byte) (s : State) : Host.Outcome State Fault Refusal :=
  request 0x76 tag payload (storeOwner (calSaveOf tag payload)) s

/-- R193: the slots 0..10. -/
def allSlots : List (Fin 11) := List.finRange 11

/-- R193. The slot item of a running STORE_POWER_ON is the source named, and that of a CAL_SAVE is absent, as in STORE_DONE (R183);
R193 says only 'the operation and slot' (DEDUCED, log 12). -/
def storeListOf (tag : Byte) (payload : List Byte) (s : State) : State :=
  match parseNothing payload with
  | none => reply 0x74 tag .badArg .empty s
  | some _ =>
    reply 0x74 tag .ok
      (.storeList (allSlots.map (fun n => (s.sto.dir[n], isProtected n s))) s.sto.header s.sto.calDir
        (s.sto.engine.map (fun e => (jobOp e.job, jobArg e.job)))) s

/-- STORE_LIST, R193. -/
def execStoreList (tag : Byte) (payload : List Byte) (s : State) : Host.Outcome State Fault Refusal :=
  request 0x74 tag payload (storeListOf tag payload) s

/-! ### Interruption by a reset, R191 -/

/-- R191: what a reset leaves in the area of the operation in progress; `began` says whether a save's step had begun. -/
def interruptedArea (e : StoreEngine) (began : Bool) (c old : Option (List Byte)) : Option (List Byte) :=
  match e.job, e.step with
  | .recall _, _ => old
  | .protect _ _, _ => unlessHeader c
  | .powerOn _, _ => unlessHeader c
  | .calSave _, .verify => old
  | .calSave _, _ => unlessCal c
  | .save _ _, .verify => old
  | .save _ _, .program => if began then damagedSlot c else old
  | .save _ _, _ => if began then unlessSlot c else old
  | .erase _, .verify => old
  | .erase _, _ => unlessSlot c

/-- R191: the flash after a reset that comes while the engine is BUSY. -/
def interruptedFlash (s : State) : Flash :=
  match s.sto.engine with
  | none => s.sto.flash
  | some e =>
    let a := jobArea e.job s.sto.header
    setArea a (interruptedArea e (Config.stepHadBegun s.fresh) (Config.unknownContent s.fresh) (areaOf a s.sto.flash)) s.sto.flash

end Sys2Proof.Machine
end

