-- ==== Sys2Proof/Machine/Link.lean ====
section
/-! DEFINITION. LNK: the frame layout and the bytes of every reply and report (R205), SEND and FETCH transactions, and LNK's own
requests (chapter 11). The position codes and widths that R205 derives are in log 12. -/

namespace Sys2Proof.Machine

/-! ### The bytes of items -/

/-- A flag: CLEAR 0, SET 1. -/
def flagByte (b : Bool) : List Byte := [flagCode b]

/-- A channel or reference slot, sent as 1..4. -/
def fourByte (n : Fin 4) : List Byte := beBytes 1 (n.val + 1)

/-- R205: a set of choices of four channels, with `first` as a choice before them. -/
def setByte (bs : List Bool) : List Byte := beBytes 1 (bitField bs)

/-- R216: ALERT 0, NONE 1. -/
def routeCode (r : Route) : Byte :=
  match r with
  | .alert => 0
  | .none => 1

/-- R182, R192: the cause detail of STORE_FAULT: operation and cause, or START_UP. -/
def detailBytes (d : CauseDetail) : List Byte :=
  match d with
  | .absent => []
  | .acqState a => [acqCode a]
  | .link c => [linkCauseCode c]
  | .reportType t => [t]
  | .key k => beBytes 1 k
  | .gate g => flagByte g
  | .store op c => [0, storeOpCode op, storeCauseCode c]
  | .storeStartUp => [1]
  | .startUp => [0]
  | .pages n => beBytes 2 n
  | .zero => [0]

/-- R183: the slot item of STORE_DONE, absent for CAL_SAVE. -/
def argBytes (a : StoreArg) : List Byte :=
  match a with
  | .absent => [0]
  | .slot n => 1 :: beBytes 1 n.val
  | .source p => 1 :: sourceBytes p

/-- R217: POWER 0, SOFT 1. -/
def resetCauseCode (c : ResetCause) : Byte :=
  match c with
  | .power => 0
  | .soft => 1

/-- R218: the setup source: a slot number, or DEFAULT. -/
def setupSourceBytes (x : SetupSource) : List Byte :=
  match x with
  | .slot n => 0 :: beBytes 1 n.val
  | .deflt => [1]

/-- R127: STALE 0, UNAVAILABLE 1. -/
def viewLostCode (c : ViewLostCause) : Byte :=
  match c with
  | .stale => 0
  | .unavailable => 1

/-- The payload of a report, its items in the order in which its rule lists them. -/
def reportBytes (r : Report) : List Byte :=
  match r with
  | .ready cause good cal src => [resetCauseCode cause] ++ beBytes 2 good ++ flagByte cal ++ setupSourceBytes src
  | .condition c d active => beBytes 1 (condCode c).val ++ detailBytes d ++ flagByte active
  | .setupChanged id v g o => beBytes 1 id ++ beInt 8 v ++ beBytes 4 g.toNat ++ [originCode o]
  | .setupReloaded g o slot =>
    beBytes 4 g.toNat ++ [originCode o] ++ (match slot with | none => [0] | some n => 1 :: beBytes 1 n.val)
  | .acqState a b c runs last => [acqCode a, acqCode b, acqCauseCode c] ++ beBytes 4 runs ++ beBytes 4 last
  | .segment seq forced clipped runs => beBytes 4 seq ++ setByte (forced :: clipped.toList) ++ beBytes 4 runs
  | .calDone o f =>
    [calOutcomeCode o] ++ (match f with | none => [] | some x => fourByte x.channel ++ beBytes 1 x.scale ++ beInt 2 x.value)
  | .refDone n noRoom seq ch => fourByte n ++ flagByte noRoom ++ beBytes 4 seq ++ fourByte ch
  | .viewLost seq c => beBytes 4 seq ++ [viewLostCode c]
  | .key k kind d stamp => beBytes 1 k ++ [keyKindCode kind, dispositionCode d] ++ beBytes 4 stamp.toNat
  | .encoder e sum stamp => beBytes 1 e.val ++ beInt 2 sum ++ beBytes 4 stamp.toNat
  | .storeDone op arg o g =>
    [storeOpCode op] ++ argBytes arg ++ [storeOutcomeCode o] ++ (match g with | none => [] | some x => beBytes 4 x.toNat)
  | .data id off xs => [id] ++ beBytes 4 off ++ beBytes 2 xs.length ++ xs
  | .xferEnd id aborted k => [id] ++ flagByte aborted ++ beBytes 4 k

/-- R86: one record of a SEGMENT_LIST reply. -/
def segRecBytes (r : SegRec) : List Byte :=
  beBytes 4 r.seq ++ [segStateCode r.state] ++ setByte (r.forced :: r.clipped.toList) ++ beBytes 4 r.n
    ++ beBytes 1 r.decimation ++ beBytes 4 r.p ++ beBytes 8 r.triggerTime ++ beBytes 4 r.generation.toNat
    ++ setByte r.set.toList ++ beBytes 1 ((channels.filter (fun c => r.set[c])).length)
    ++ (channels.filter (fun c => r.set[c])).flatMap (fun c => beBytes 1 r.scales[c]) ++ beBytes 1 (pinCount r)

/-- R87: the contents of a slot. -/
def contentsBytes (c : RefContents) : List Byte :=
  fourByte c.channel ++ beBytes 4 c.seq ++ beBytes 4 c.n ++ beBytes 1 c.decimation ++ beBytes 1 c.scale

/-- R87: the owner and index of a page, each absent for a FREE or BAD page; then current or copy list, for a reference page. -/
def pageRecordBytes (r : PageRecord) : List Byte :=
  [pageStateCode r.state]
    ++ (match r.owner with
        | none => [0]
        | some (.segment seq c) => [1, 0] ++ beBytes 4 seq ++ fourByte c
        | some (.reference n _) => [1, 1] ++ fourByte n)
    ++ (match r.index with
        | none => [0]
        | some i => 1 :: beBytes 1 i)
    ++ (match r.owner with
        | some (.reference _ cur) => flagByte (!cur)
        | _ => [])

/-- R148: one cursor's entry; the clip marks are a set of choices. -/
def entryBytes (x : Nat) (e : ColEntry) : List Byte :=
  beBytes 2 x ++ flagByte e.valid ++ beBytes 1 e.minCode ++ beBytes 1 e.maxCode ++ setByte [e.top, e.bottom]

/-- R193: one slot of a STORE_LIST reply. -/
def dirBytes (e : DirEntry × Bool) : List Byte :=
  [areaStateCode e.1.state] ++ flagByte e.2
    ++ (match e.1.state with
        | .valid => beBytes 1 e.1.format ++ beBytes 1 e.1.label.length ++ e.1.label ++ beBytes 4 e.1.saveCount.toNat
        | _ => [])

/-- R13: what stands beside a value. -/
def extraBytes (x : FieldExtra) : List Byte :=
  match x with
  | .nothing => []
  | .termination t latch => [match t with | .meg1 => 0 | .ohm50 => 1] ++ flagByte latch
  | .pretrigger p => beBytes 4 p

/-- The body of a reply, by the rule of its request. -/
def bodyBytes (b : ReplyBody) : List Byte :=
  match b with
  | .empty => []
  | .status conds a busy =>
    conds.flatMap (fun c => flagByte c.latched ++ flagByte c.active ++ [routeCode c.route])
      ++ (conds.filter (·.latched)).flatMap (fun c => detailBytes c.cause)
      ++ [acqCode a] ++ setByte [busy.cal, busy.copy, busy.store, busy.xfer, busy.render]
  | .conditions cs => beBytes 1 cs.length ++ cs.flatMap (fun c => beBytes 1 (condCode c).val)
  | .setFields g ps cs =>
    beBytes 4 g.toNat ++ beBytes 1 ps.length
      ++ ps.flatMap (fun p => beBytes 1 p.id ++ [outcomeCode p.outcome] ++ beInt 8 p.value)
      ++ beBytes 1 cs.length ++ cs.flatMap (fun c => beBytes 1 c.1 ++ beInt 8 c.2)
  | .getFields g es => beBytes 4 g.toNat ++ beBytes 1 es.length ++ es.flatMap (fun e => beInt 8 e.1 ++ extraBytes e.2)
  | .generation g => beBytes 4 g.toNat
  | .counter valid n gate overrun => flagByte valid ++ beBytes 4 n ++ flagByte gate ++ flagByte overrun
  | .saveRef seq need => beBytes 4 seq ++ beBytes 2 need
  | .segments rs next => beBytes 1 rs.length ++ rs.flatMap segRecBytes ++ beBytes 4 next
  | .segmentPage pg st => beBytes 2 pg ++ [pageStateCode st]
  | .referencePage pg st c => beBytes 2 pg ++ [pageStateCode st] ++ contentsBytes c
  | .physicalPage r => pageRecordBytes r
  | .sample c => [c]
  | .cursors t xa a xb b => beBytes 1 t ++ entryBytes xa a ++ entryBytes xb b
  | .step n => beBytes 2 n
  | .sound f d => beBytes 2 f ++ beBytes 2 d
  | .storeList slots h cal e =>
    slots.flatMap dirBytes ++ flagByte h.valid ++ sourceBytes h.source ++ [areaStateCode cal]
      ++ (match e with | none => [0] | some x => [1, storeOpCode x.1] ++ argBytes x.2)
  | .xferStart id seq ch first count n =>
    [id] ++ beBytes 4 seq ++ fourByte ch ++ beBytes 4 first ++ beBytes 4 count ++ beBytes 4 n

/-! ### Frames, R205 -/

/-- R205: a frame: LEN, TYPE, TAG, PAYLOAD and the CRC over them. -/
def frameBytes (type tag : Byte) (payload : List Byte) : List Byte :=
  let body := beBytes 2 (payload.length + 2) ++ [type, tag] ++ payload
  body ++ crcBytes body

/-- R208, R205: the frame of a record of the outbound queue. -/
def recordFrame (r : Record) : List Byte :=
  match r with
  | .reply x => frameBytes replyCode x.tag ([x.request, statusCode x.status] ++ bodyBytes x.body)
  | .report x => frameBytes (reportCode x) 0 (reportBytes x)

/-- R207: the judgement of the bytes of a SEND, at the first failure of the table. -/
def judgeFrame (bs : List Byte) : LinkCause ⊕ LinkFrame :=
  let len := ofBe (bs.take 2)
  if 2 ≤ bs.length ∧ ¬ (2 ≤ len ∧ len ≤ 1026) then .inl .length
  else if bs.length < 2 ∨ bs.length < len + 4 then .inl .short
  else if len + 4 < bs.length then .inl .long
  else
    match bs with
    | _ :: _ :: t :: g :: rest =>
      if crcBytes (bs.take (len + 2)) = bs.drop (len + 2) then .inr ⟨t, g, rest.take (len - 2)⟩ else .inl .crc
    | _ => .inl .short

/-! ### Transactions -/

/-- R206: the MISO line; `none` is high-impedance. CS is low between two commands only within a FETCH, where MISO carries the byte last
clocked, and 0x00 in the byte of the opener. -/
def misoLine (s : State) : Option Byte := s.lnk.txn.map (fun _ => s.lnk.miso.getLast?.getD 0)

/-- R206: a transaction that begins finds CS high: an earlier FETCH is over. -/
def beginTxn (miso : List Byte) (s : State) : State := { s with lnk := { s.lnk with txn := none, miso := miso } }

/-- R207: a good frame joins the inbound queue, or finds it full. -/
def joinInbound (f : LinkFrame) (s : State) : State :=
  if s.lnk.inbound.length < Config.inboundSize then
    let s1 := { s with lnk := { s.lnk with inbound := s.lnk.inbound ++ [f] } }
    if s1.lnk.inbound.length = Config.inboundSize then latchCondition .inboundFull .zero s1 else s1
  else latchCondition .linkError (.link .overrun) s

/-- R207: a SEND transaction ends. -/
def sendEnds (bs : List Byte) (s : State) : State :=
  let s1 := beginTxn (List.replicate bs.length 0) s
  match judgeFrame bs with
  | .inl c => latchCondition .linkError (.link c) s1
  | .inr f => joinInbound f s1

/-- SEND, R207. -/
def execSend (bytes : List Byte) (s : State) : Host.Outcome State Fault Refusal :=
  if s.lnk.heldInReset then .next s else .next (sendEnds bytes s)

/-- INVALID_OPENER, R206: the MOSI bytes behind the opener are ignored, and MISO carries 0x00 in each of theirs. A transaction in
which CS rises before the opener is whole is ignored, and latches nothing. 0x01 and 0x02 are no invalid openers. -/
def execInvalidOpener (mosi : List Byte) (s : State) : Host.Outcome State Fault Refusal :=
  match mosi with
  | [] => .next s
  | opener :: bytes =>
    if s.lnk.heldInReset || decide (opener = 1 ∨ opener = 2) then .next s
    else .next (latchCondition .linkError (.link .opener) (beginTxn (List.replicate bytes.length 0) s))

/-- R209: the eighth bit of the opener: the head record is selected; an empty queue sends LEN 0. -/
def fetchSelect (s : State) : State :=
  let t : FetchTxn := match s.lnk.outbound with
    | [] => ⟨[0, 0], 0, false, false⟩
    | r :: _ => ⟨recordFrame r, 0, true, false⟩
  { s with lnk := { s.lnk with txn := some t, miso := [] } }

/-- R209: `n` bytes are clocked; at the last CRC byte the record leaves, unless it has been updated. -/
def fetchClock (n : Nat) (s : State) : State :=
  match s.lnk.txn with
  | none => s
  | some t =>
    let out := (t.bytes.drop t.sent).take n
    let ended := t.selected && decide (t.bytes.length ≤ t.sent + n)
    { s with lnk := { s.lnk with
        miso := s.lnk.miso ++ out ++ List.replicate (n - out.length) 0
        txn := some { t with sent := t.sent + n, selected := t.selected && !ended }
        outbound := if ended && !t.updated then s.lnk.outbound.drop 1 else s.lnk.outbound } }

/-- R209: CS rises: the transaction is over. -/
def fetchRise (s : State) : State := { s with lnk := { s.lnk with txn := none } }

/-- R209. -/
def fetchEvent (e : FetchEvent) (s : State) : State :=
  match e with
  | .transaction n => fetchRise (fetchClock n (fetchSelect s))
  | .select => fetchSelect s
  | .clock n => fetchClock n s
  | .csRise => fetchRise s

/-- FETCH, R209. -/
def execFetch (event : FetchEvent) (s : State) : Host.Outcome State Fault Refusal :=
  if s.lnk.heldInReset then .next s else .next (fetchEvent event s)

/-! ### LNK's requests -/

/-- UNKNOWN_TYPE, R208. A TYPE that is a request code is no unknown type. -/
def execUnknownType (type tag : Byte) (payload : List Byte) (s : State) : Host.Outcome State Fault Refusal :=
  if isRequestCode type then .next s else request type tag payload (reply type tag .unknownType .empty) s

/-- R214: what STATUS shows of a condition. -/
def condStatus (c : Condition) (s : State) : CondStatus :=
  let e := condEntry c s
  ⟨e.latched, condActive c s, e.route, e.cause⟩

/-- R214: the busy flags. -/
def busyFlags (s : State) : BusyFlags :=
  ⟨s.fec.calStep.isSome, copyBusy s, s.sto.engine.isSome, decide (s.xfr.state ≠ .idle), s.rnd.pass.isSome⟩

/-- R214. -/
def statusOf (tag : Byte) (payload : List Byte) (s : State) : State :=
  match parseNothing payload with
  | none => reply 0x10 tag .badArg .empty s
  | some _ => reply 0x10 tag .ok (.status (allConditions.map (fun c => condStatus c s)) s.acq.state (busyFlags s)) s

/-- STATUS, R214. -/
def execStatus (tag : Byte) (payload : List Byte) (s : State) : Host.Outcome State Fault Refusal :=
  request 0x10 tag payload (statusOf tag payload) s

/-- R215: one named condition: cleared when it is latched and inactive. -/
def ackCondition (c : Condition) (s : State) : State :=
  if (condEntry c s).latched && !condActive c s then clearLatched c s else s

/-- R215: the conditions named, each once, in the order of their first naming. -/
def namedOnce (cs : List Condition) : List Condition :=
  match cs with
  | [] => []
  | c :: rest => c :: (namedOnce rest).filter (fun d => decide (d ≠ c))

/-- R215. -/
def ackConditionsOf (tag : Byte) (payload : List Byte) (s : State) : State :=
  match (parseCodes payload).bind (mapAll condOfCode) with
  | none => reply 0x11 tag .badArg .empty s
  | some cs =>
    if cs = [] ∨ 14 < cs.length then reply 0x11 tag .badArg .empty s
    else
      let s1 := cs.foldl (fun s c => ackCondition c s) s
      reply 0x11 tag .ok (.conditions ((namedOnce cs).filter (fun c => (condEntry c s1).latched))) s1

/-- ACK_CONDITIONS, R215. -/
def execAckConditions (tag : Byte) (payload : List Byte) (s : State) : Host.Outcome State Fault Refusal :=
  request 0x11 tag payload (ackConditionsOf tag payload) s

/-- R216: the route of a condition is replaced. -/
def setRoute (c : Condition) (r : Route) (s : State) : State :=
  { s with lnk := { s.lnk with conds := vmod s.lnk.conds (condCode c) (fun e => { e with route := r }) } }

/-- R216. -/
def routeSetOf (tag : Byte) (payload : List Byte) (s : State) : State :=
  match parseRoute payload with
  | none => reply 0x12 tag .badArg .empty s
  | some (c, r) => reply 0x12 tag .ok .empty (setRoute c r s)

/-- ROUTE_SET, R216. -/
def execRouteSet (tag : Byte) (payload : List Byte) (s : State) : Host.Outcome State Fault Refusal :=
  request 0x12 tag payload (routeSetOf tag payload) s

end Sys2Proof.Machine
end

