-- ==== Sys2Proof/Machine/StartUp.lean ====
section
/-! DEFINITION. The two resets (R217) and start-up (R218). -/

namespace Sys2Proof.Machine

/-! ### Reset -/

/-- R217: what every block holds after a reset. The two input pins, sample memory, the BAD set and the flash stand; an
operation of the store engine is interrupted (R191). -/
def resetAll (cause : ResetCause) (held : Bool) (txn : Option FetchTxn) (miso : List Byte) (s : State) : State :=
  { s with
    fresh := if s.sto.engine.isSome then s.fresh + 1 else s.fresh
    setup := defaultSetup, generation := 0, fallbacks := []
    fec := fecReset s.fec.sense s.fec.lockPin
    trg := trgReset
    mem := memReset s.mem.dram s.mem.bad
    acq := acqReset, rnd := rndReset, cmp := cmpReset, pnl := pnlReset
    sto := stoReset (interruptedFlash s)
    xfr := xfrReset
    lnk := lnkReset cause held txn miso }

/-- R217: the RESET input goes low: the part is reset and held; transactions are then ignored (R206). -/
def powerOnReset (s : State) : State := resetAll .power true none [] s

/-- POWER_ON_RESET, R217. -/
def execPowerOnReset (s : State) : Host.Outcome State Fault Refusal := .next (powerOnReset s)

/-- R217, R206: the RESET input goes high: start-up begins, and transactions are taken. -/
def releaseReset (s : State) : State := { s with lnk := { s.lnk with heldInReset := false } }

/-- R217: a FETCH in progress loses its selected record: its remaining bytes are 0x00. -/
def loseRecord (t : FetchTxn) : FetchTxn := { t with bytes := t.bytes.take t.sent, selected := false }

/-- R217: a soft reset. -/
def softReset (s : State) : State := resetAll .soft false (s.lnk.txn.map loseRecord) s.lnk.miso s

/-- RESET, R217: taken as a request, without a reservation and without a reply, whatever its payload (log 14). -/
def execReset (tag : Byte) (payload : List Byte) (s : State) : Host.Outcome State Fault Refusal :=
  match takeHead ⟨0x13, tag, payload⟩ s with
  | none => .next s
  | some s1 => .next (softReset s1)

/-! ### Start-up -/

/-- R68: step 1: the memory test after power-on reset; the good pages fill the pool in ascending order. -/
def startMem (failing : List Nat) (s : State) : State :=
  let all := List.range Config.pageCount
  let bad := if s.lnk.resetCause = .power then all.filter (fun p => failing.contains p) else s.mem.bad
  { s with mem := { s.mem with bad := bad, pool := all.filter (fun p => !bad.contains p) } }

/-- R192: a start-up read that the flash does not answer sets the fault flag. -/
def noteUnanswered (a : FlashArea) (unanswered : List FlashArea) (s : State) : State :=
  if unanswered.contains a then { s with sto := { s.sto with fault := true } } else s

/-- R181, R192 step 1: what start-up finds in the calibration area. -/
def foundCal (unanswered : List FlashArea) (f : Flash) : AreaState × Option (List Int) :=
  if unanswered.contains .calibration then (.damaged, none) else readCal f.calibration

/-- R192 step 1, R32: STO reads the calibration area and FEC's live table is replaced. -/
def startCal (unanswered : List FlashArea) (s : State) : State :=
  let found := foundCal unanswered s.sto.flash
  let s1 := noteUnanswered .calibration unanswered { s with sto := { s.sto with calDir := found.1 } }
  match found.2 with
  | some vs => { s1 with fec := { s1.fec with live := .ofFn (fun i => vs[i.val]?.getD 0), tableValid := true } }
  | none => { s1 with fec := { s1.fec with live := .replicate 52 0, tableValid := false } }

/-- R192 step 2: a header copy as start-up finds it. -/
def foundHeader (a : FlashArea) (unanswered : List FlashArea) (f : Flash) : Option HeaderRecord :=
  if unanswered.contains a then none else readHeader (areaOf a f)

/-- R192 step 3: a slot as start-up finds it. -/
def foundSlot (n : Fin 11) (unanswered : List FlashArea) (f : Flash) : AreaState × Option SlotRecord :=
  if unanswered.contains (.slot n) then (.damaged, none) else readSlot f.slots[n]

/-- R192 steps 2 and 3: the header copy and the directory are rebuilt. -/
def startStore (unanswered : List FlashArea) (s : State) : State :=
  let f := s.sto.flash
  let anySlot := allSlots.any (fun n => unanswered.contains (.slot n))
  noteUnanswered .headerA unanswered (noteUnanswered .headerB unanswered
    { s with sto := { s.sto with
        header := newestHeader (foundHeader .headerA unanswered f) (foundHeader .headerB unanswered f)
        dir := .ofFn (fun n => dirOf (foundSlot n unanswered f))
        fault := s.sto.fault || anySlot } })

/-- R192 step 4: the slot that the header's source names. -/
def sourceSlot (p : PowerSource) : Option (Fin 11) :=
  match p with
  | .last => some 0
  | .deflt => none
  | .user n => some (slotOfUser n)

/-- R192 step 4: the slot and image of the power-on setup, where there is one. -/
def powerOnImage (unanswered : List FlashArea) (s : State) : Option (Fin 11 × List Int) :=
  match sourceSlot s.sto.header.source with
  | none => none
  | some n =>
    match foundSlot n unanswered s.sto.flash with
    | (.valid, some r) => if r.format = 1 then some (n, r.image) else none
    | _ => none

/-- R25: SETU applies the power-on setup: written as a recall and resolved, without being a change set. With no image the
defaults are resolved against the good pages (log 15). -/
def startSetup (img : Option (Fin 11 × List Int)) (s : State) : State :=
  match img with
  | some (n, image) => { s with setup := recordAfter (recallChangeSet n image s) s }
  | none => { s with setup := resolve true true s.setup (captureAllowance s) s.setup }

/-- R41, R45: the trips of start-up: the relay, the latch, the settle time and the condition; no beep, and ACQ takes no notice. Several
are taken in ascending channel number (DESIGN CHOICE, log 13). -/
def startTrips (s : State) : State := channels.foldl (fun s n => if isTripping n s then tripProtect n s else s) s

/-- R65: TRG takes its held settings; the DAC is loaded with upper, the gate and the square wave start, AUX follows aux_mode. -/
def startTrigger (s : State) : State :=
  let h := settingsOf s.setup
  { s with trg := { s.trg with
      held := h, dac := upperOf h, gateStart := s.now, count := 0, squareHigh := false, squareNext := s.now + 500 * oneUs
      auxMode := some (s.setup.get 106).toNat } }

/-- R44, R45: FEC is brought up with the monitor at the lock indication. -/
def startMonitor (s : State) : State :=
  let s1 := { s with fec := { s.fec with locked := s.fec.lockPin } }
  if s1.fec.locked then s1 else latchCondition .clockFault (.acqState s1.acq.state) s1

/-- R45, R65: step 5. TRG's held source is the record's, so that FEC powers the channels of one record. -/
def startFrontEnd (s : State) : State := startTrips (deriveDrives (startMonitor (startTrigger s)))

/-- R137, R139, R157: step 7: the decay timer, the first pass, and the start of scan-out. -/
def startDisplay (s : State) : State :=
  let d := if s.setup.get 116 = 1 then some (s.now + (s.setup.get 117).toNat * oneMs) else none
  selectPass { s with rnd := { s.rnd with decay := d }, cmp := { s.cmp with broughtUp := s.now } }

/-- R177: step 8: the panel clock, the blink phase, the scan and the samples begin, at one instant. -/
def startPanel (s : State) : State :=
  { s with pnl := { s.pnl with broughtUp := s.now, blinkOn := true, blinkNext := s.now + 250 * oneMs,
                               row := 0, rowNext := s.now, encNext := s.now } }

/-- R218: the setup source that READY names. -/
def setupSourceOf (img : Option (Fin 11 × List Int)) : SetupSource :=
  match img with
  | some (n, _) => .slot n
  | none => .deflt

/-- R218: READY is queued, and behind it the CONDITION reports held. -/
def queueReady (src : SetupSource) (s : State) : State :=
  let s1 := enqueue (.report (.ready s.lnk.resetCause (goodPages s) s.fec.tableValid src)) s
  offerAll s1.lnk.heldReports { s1 with lnk := { s1.lnk with heldReports := [], startUp := false } }

/-- R68, R192: the latches of the end of start-up. -/
def endLatches (s : State) : State :=
  let s1 := if s.mem.bad.isEmpty then s else latchCondition .memReduced (.pages s.mem.bad.length) s
  let s2 := if s1.fec.tableValid then s1 else latchCondition .calInvalid .startUp s1
  if s2.sto.fault then latchCondition .storeFault .storeStartUp s2 else s2

/-- R218: start-up, its steps in order. ACQ is STOPPED from the reset (step 6). -/
def startsUp (failing : List Nat) (unanswered : List FlashArea) (s : State) : State :=
  let s1 := startStore unanswered (startCal unanswered (startMem failing s))
  let img := powerOnImage unanswered s1
  let s2 := startPanel (startDisplay (startFrontEnd (startSetup img s1)))
  endLatches (queueReady (setupSourceOf img) s2)

/-- START_UP, R217, R218: while the RESET input holds the part, its rising edge, with which start-up begins; start-up then runs once
(log 16). -/
def execStartUp (failing : List Nat) (unanswered : List FlashArea) (s : State) : Host.Outcome State Fault Refusal :=
  if s.lnk.heldInReset then .next (releaseReset s)
  else if s.lnk.startUp then .next (startsUp failing unanswered s) else .next s

end Sys2Proof.Machine
end

