-- ==== Sys2Proof/Machine/Transfer.lean ====
section
/-! DEFINITION. XFR: the transfer engine (chapter 10). -/

namespace Sys2Proof.Machine

/-! ### Starting a transfer -/

/-- What a transfer's source resolves to: the source, the seq and channel that the reply names, and N. -/
structure Resolved where
  source : XferSource
  seq : Nat
  ch : Channel
  n : Nat
  deriving DecidableEq, Repr

/-- R196: a segment record as a source: its channel must be in the channel set. -/
def resolveRecord (r : Option SegRec) (c : Channel) : Option Resolved :=
  match r with
  | none => none
  | some r => if r.set[c] then some ⟨.segment r.seq c, r.seq, c, r.n⟩ else none

/-- R196: the source with its numbers in range; `none` is BAD_ARG. -/
inductive SourceForm where
  | latest (ch : Channel)
  | segment (seq : Nat) (ch : Channel)
  | reference (slot : Fin 4)
  deriving DecidableEq, Repr

/-- R196: the first check, of the form, channel and slot. -/
def sourceForm (f : XferForm) : Option SourceForm :=
  match f with
  | .latest ch => (oneOfFour ch).map .latest
  | .segment seq ch => (oneOfFour ch).map (.segment seq)
  | .reference slot => (oneOfFour slot).map .reference

/-- R196: the resolution of a source; `none` is NOT_FOUND. -/
def resolveXfer (f : SourceForm) (s : State) : Option Resolved :=
  match f with
  | .latest c => resolveRecord (newestComplete s) c
  | .segment seq c => resolveRecord ((findSeg seq s).filter (fun r => decide (r.state = .complete))) c
  | .reference n => (s.mem.refs[n].contents).map (fun c => ⟨.reference n, c.seq, c.channel, c.n⟩)

/-- R197 step 1: the TRANSFER pin on the source. -/
def pinSource (x : XferSource) (s : State) : State :=
  match x with
  | .segment seq _ => (pinSegment .transfer seq s).1
  | .reference n => (pinRef true n s).1

/-- R197: an accepted XFER_START. -/
def startTransfer (tag : Byte) (r : Resolved) (first count : Nat) (s : State) : State :=
  let k := min count (r.n - first)
  let id := s.xfr.counter + 1
  let s1 := pinSource r.source s
  let s2 := { s1 with xfr := { s1.xfr with
      counter := id, state := .reading
      ctx := some { id := id, source := r.source, n := r.n, first := first, count := k, next := first, queued := 0,
                    abortPending := false, aborted := false } } }
  reply 0x78 tag .accepted (.xferStart id r.seq r.ch first k r.n) s2

/-- R196. -/
def xferStartOf (tag : Byte) (payload : List Byte) (s : State) : State :=
  match parseXferStart payload with
  | none => reply 0x78 tag .badArg .empty s
  | some (f, first, count) =>
    match sourceForm f with
    | none => reply 0x78 tag .badArg .empty s
    | some src =>
      if count = 0 then reply 0x78 tag .badArg .empty s
      else if s.xfr.state ≠ .idle then reply 0x78 tag .busy .empty s
      else
        match resolveXfer src s with
        | none => reply 0x78 tag .notFound .empty s
        | some r => if first < r.n then startTransfer tag r first count s else reply 0x78 tag .badArg .empty s

/-- XFER_START, R196. -/
def execXferStart (tag : Byte) (payload : List Byte) (s : State) : Host.Outcome State Fault Refusal :=
  request 0x78 tag payload (xferStartOf tag payload) s

/-! ### Chunks and the end -/

/-- R198, R69: logical sample i of the source. -/
def sourceSample (x : XferSource) (i : Nat) (s : State) : Byte :=
  match x with
  | .segment seq ch =>
    match findSeg seq s with
    | some r => segmentSample s.mem.dram r ch i
    | none => 0
  | .reference n => readPosition s.mem.dram s.mem.refs[n].pages i

/-- R198: the length of the chunk that a context reads next. -/
def chunkLength (c : XferContext) : Nat := min Config.chunkSize (c.first + c.count - c.next)

/-- R198: the chunk read. -/
def readChunk (c : XferContext) (s : State) : Chunk :=
  ⟨c.next, (List.range (chunkLength c)).map (fun i => sourceSample c.source (c.next + i) s)⟩

/-- R200 step 2: the TRANSFER pin is released. -/
def unpinSource (x : XferSource) (s : State) : State :=
  match x with
  | .segment seq _ => releaseSegPin .transfer seq s
  | .reference n => releaseRefPin true n s

/-- R200: the engine enters ENDING with an outcome. -/
def enterEnding (c : XferContext) (aborted : Bool) (s : State) : State :=
  unpinSource c.source
    { s with xfr := { s.xfr with state := .ending, chunk := none, ctx := some { c with aborted := aborted } } }

/-- R198, R201: the read of a chunk ends. -/
def chunkReadEnds (s : State) : State :=
  match s.xfr.state, s.xfr.ctx with
  | .reading, some c =>
    if c.abortPending then enterEnding c true s
    else { s with xfr := { s.xfr with state := .waiting, chunk := some (readChunk c s) } }
  | _, _ => s

/-- CHUNK_READ_END, R198. -/
def execChunkReadEnd (s : State) : Host.Outcome State Fault Refusal := whenUp chunkReadEnds s

/-- R210: LNK accepts a DATA or XFER_END report while free ≥ 8. -/
def bulkRoom (s : State) : Bool := decide (8 ≤ freeCount s)

/-- R199: the chunk in hand has been queued. -/
def chunkQueued (c : XferContext) (k : Chunk) (s : State) : State :=
  let c1 := { c with queued := c.queued + k.samples.length, next := k.offset + k.samples.length }
  let s1 := offer (.data c.id k.offset k.samples) { s with xfr := { s.xfr with chunk := none, ctx := some c1 } }
  if c1.count ≤ c1.queued then enterEnding c1 false s1 else { s1 with xfr := { s1.xfr with state := .reading } }

/-- R199: the chunk in hand is queued, if there is room. -/
def dataOffered (s : State) : State :=
  match s.xfr.state, s.xfr.ctx, s.xfr.chunk with
  | .waiting, some c, some k => if bulkRoom s then chunkQueued c k s else s
  | _, _, _ => s

/-- DATA, R199. -/
def execData (s : State) : Host.Outcome State Fault Refusal := whenUp dataOffered s

/-- R200, R203: XFER_END is queued, if there is room, and the engine becomes IDLE. -/
def xferEnds (s : State) : State :=
  match s.xfr.state, s.xfr.ctx with
  | .ending, some c =>
    if bulkRoom s then
      offer (.xferEnd c.id c.aborted c.queued) { s with xfr := { s.xfr with state := .idle, ctx := none, chunk := none } }
    else s
  | _, _ => s

/-- XFER_END, R200. -/
def execXferEnd (s : State) : Host.Outcome State Fault Refusal := whenUp xferEnds s

/-- R201: what an abort of the present transfer does, by the engine state. -/
def abortTransfer (c : XferContext) (s : State) : State :=
  match s.xfr.state with
  | .reading => { s with xfr := { s.xfr with ctx := some { c with abortPending := true } } }
  | .waiting => enterEnding c true s
  | .ending => s
  | .idle => s

/-- R201. -/
def xferAbortOf (tag : Byte) (payload : List Byte) (s : State) : State :=
  match parseByte payload with
  | none => reply 0x79 tag .badArg .empty s
  | some id =>
    match s.xfr.state, s.xfr.ctx with
    | .idle, _ => reply 0x79 tag .badState .empty s
    | _, none => reply 0x79 tag .badState .empty s
    | _, some c =>
      if id = c.id then abortTransfer c (reply 0x79 tag .ok .empty s) else reply 0x79 tag .badArg .empty s

/-- XFER_ABORT, R201. -/
def execXferAbort (tag : Byte) (payload : List Byte) (s : State) : Host.Outcome State Fault Refusal :=
  request 0x79 tag payload (xferAbortOf tag payload) s

end Sys2Proof.Machine
end

