-- ==== Sys2Proof/Machine/Dispatch.lean ====
section
/-! DEFINITION. The one match on the commands: each arm calls the meaning of its command. -/

namespace Sys2Proof.Machine

/-- The effect of a command on everything but the queue of waiting commands. -/
def exec (i : Instr) (s : State) : Host.Outcome State Fault Refusal :=
  match i with
  | .powerOnReset => Sys2Proof.Machine.execPowerOnReset s
  | .startUp failing unanswered => Sys2Proof.Machine.execStartUp failing unanswered s
  | .send bytes => Sys2Proof.Machine.execSend bytes s
  | .fetch event => Sys2Proof.Machine.execFetch event s
  | .invalidOpener mosi => Sys2Proof.Machine.execInvalidOpener mosi s
  | .unknownType type tag payload => Sys2Proof.Machine.execUnknownType type tag payload s
  | .status tag payload => Sys2Proof.Machine.execStatus tag payload s
  | .ackConditions tag payload => Sys2Proof.Machine.execAckConditions tag payload s
  | .routeSet tag payload => Sys2Proof.Machine.execRouteSet tag payload s
  | .reset tag payload => Sys2Proof.Machine.execReset tag payload s
  | .setFields tag payload => Sys2Proof.Machine.execSetFields tag payload s
  | .getFields tag payload => Sys2Proof.Machine.execGetFields tag payload s
  | .defaultSetup tag payload => Sys2Proof.Machine.execDefaultSetup tag payload s
  | .viewFallback => Sys2Proof.Machine.execViewFallback s
  | .memoryCorrection => Sys2Proof.Machine.execMemoryCorrection s
  | .run tag payload => Sys2Proof.Machine.execRun tag payload s
  | .stop tag payload => Sys2Proof.Machine.execStop tag payload s
  | .single tag payload => Sys2Proof.Machine.execSingle tag payload s
  | .force tag payload => Sys2Proof.Machine.execForce tag payload s
  | .calibrate tag payload => Sys2Proof.Machine.execCalibrate tag payload s
  | .clearProtect tag payload => Sys2Proof.Machine.execClearProtect tag payload s
  | .counterRead tag payload => Sys2Proof.Machine.execCounterRead tag payload s
  | .saveRef tag payload => Sys2Proof.Machine.execSaveRef tag payload s
  | .clearRef tag payload => Sys2Proof.Machine.execClearRef tag payload s
  | .segmentList tag payload => Sys2Proof.Machine.execSegmentList tag payload s
  | .pageQuery tag payload => Sys2Proof.Machine.execPageQuery tag payload s
  | .peek tag payload => Sys2Proof.Machine.execPeek tag payload s
  | .clearPersist tag payload => Sys2Proof.Machine.execClearPersist tag payload s
  | .cursorRead tag payload => Sys2Proof.Machine.execCursorRead tag payload s
  | .ovFill tag payload => Sys2Proof.Machine.execOvFill tag payload s
  | .ovText tag payload => Sys2Proof.Machine.execOvText tag payload s
  | .ovClear tag payload => Sys2Proof.Machine.execOvClear tag payload s
  | .ovShow tag payload => Sys2Proof.Machine.execOvShow tag payload s
  | .glyphLoad tag payload => Sys2Proof.Machine.execGlyphLoad tag payload s
  | .paletteSet tag payload => Sys2Proof.Machine.execPaletteSet tag payload s
  | .keyBind tag payload => Sys2Proof.Machine.execKeyBind tag payload s
  | .encBind tag payload => Sys2Proof.Machine.execEncBind tag payload s
  | .ledSet tag payload => Sys2Proof.Machine.execLedSet tag payload s
  | .panelLock tag payload => Sys2Proof.Machine.execPanelLock tag payload s
  | .panelBlank tag payload => Sys2Proof.Machine.execPanelBlank tag payload s
  | .beep tag payload => Sys2Proof.Machine.execBeep tag payload s
  | .storeSave tag payload => Sys2Proof.Machine.execStoreSave tag payload s
  | .storeRecall tag payload => Sys2Proof.Machine.execStoreRecall tag payload s
  | .storeErase tag payload => Sys2Proof.Machine.execStoreErase tag payload s
  | .storeProtect tag payload => Sys2Proof.Machine.execStoreProtect tag payload s
  | .storeList tag payload => Sys2Proof.Machine.execStoreList tag payload s
  | .storePowerOn tag payload => Sys2Proof.Machine.execStorePowerOn tag payload s
  | .calSave tag payload => Sys2Proof.Machine.execCalSave tag payload s
  | .xferStart tag payload => Sys2Proof.Machine.execXferStart tag payload s
  | .xferAbort tag payload => Sys2Proof.Machine.execXferAbort tag payload s
  | .trip ch => Sys2Proof.Machine.execTrip ch s
  | .overloadSenseInactive ch => Sys2Proof.Machine.execOverloadSenseInactive ch s
  | .clockLoss => Sys2Proof.Machine.execClockLoss s
  | .clockLockReturn => Sys2Proof.Machine.execClockLockReturn s
  | .settleTimerExpiry => Sys2Proof.Machine.execSettleTimerExpiry s
  | .calStep sum => Sys2Proof.Machine.execCalStep sum s
  | .sampleCode c1 c2 c3 c4 ext => Sys2Proof.Machine.execSampleCode c1 c2 c3 c4 ext s
  | .holdoffEnd => Sys2Proof.Machine.execHoldoffEnd s
  | .autoWaitExpiry => Sys2Proof.Machine.execAutoWaitExpiry s
  | .triggerPulseEnd => Sys2Proof.Machine.execTriggerPulseEnd s
  | .triggeredIndicationEnd => Sys2Proof.Machine.execTriggeredIndicationEnd s
  | .gateEnd => Sys2Proof.Machine.execGateEnd s
  | .auxSquareWaveToggle => Sys2Proof.Machine.execAuxSquareWaveToggle s
  | .copyEnd => Sys2Proof.Machine.execCopyEnd s
  | .renderPassEnd => Sys2Proof.Machine.execRenderPassEnd s
  | .decayExpiry => Sys2Proof.Machine.execDecayExpiry s
  | .frameStart => Sys2Proof.Machine.execFrameStart s
  | .backlightPeriodStart => Sys2Proof.Machine.execBacklightPeriodStart s
  | .rowSlot contacts => Sys2Proof.Machine.execRowSlot contacts s
  | .holdDeadline key => Sys2Proof.Machine.execHoldDeadline key s
  | .encoderSample lineA lineB => Sys2Proof.Machine.execEncoderSample lineA lineB s
  | .panelReportOffer => Sys2Proof.Machine.execPanelReportOffer s
  | .blinkToggle => Sys2Proof.Machine.execBlinkToggle s
  | .beeperEnd => Sys2Proof.Machine.execBeeperEnd s
  | .eraseStepEnd => Sys2Proof.Machine.execEraseStepEnd s
  | .programStepEnd => Sys2Proof.Machine.execProgramStepEnd s
  | .verifyStepEnd agrees => Sys2Proof.Machine.execVerifyStepEnd agrees s
  | .readStepEnd => Sys2Proof.Machine.execReadStepEnd s
  | .stepTimeout => Sys2Proof.Machine.execStepTimeout s
  | .autosaveExpiry => Sys2Proof.Machine.execAutosaveExpiry s
  | .chunkReadEnd => Sys2Proof.Machine.execChunkReadEnd s
  | .data => Sys2Proof.Machine.execData s
  | .xferEnd => Sys2Proof.Machine.execXferEnd s
  | .overloadSenseActive ch => Sys2Proof.Machine.execOverloadSenseActive ch s

end Sys2Proof.Machine
end

