-- ==== Sys2Proof/Safety.lean ====
section
/-! DEFINITION. The terms in which claims are stated: when a request command is taken, what an answer is, and the laws that the
spec names laws of the device. -/

namespace Sys2Proof.Machine

/-! ### Requests -/

/-- R208: the request stands at the head of the inbound queue, the start-up flag is CLEAR and at least 2 entries are free. -/
def CanTake (type tag : Byte) (payload : List Byte) (s : State) : Prop :=
  s.lnk.inbound.head? = some ⟨type, tag, payload⟩ ∧ s.lnk.startUp = false ∧ 2 ≤ freeCount s

/-- R208: the head frame has left the inbound queue. -/
def taken (s : State) : State := { s with lnk := { s.lnk with inbound := s.lnk.inbound.tail } }

/-- R208: a reply has joined the tail of the outbound queue; the reservation made for it is gone again. -/
def answered (request tag : Byte) (st : Status) (body : ReplyBody) (s : State) : State :=
  { s with lnk := { s.lnk with outbound := s.lnk.outbound ++ [.reply ⟨tag, request, st, body⟩] } }

/-- R208: a state in which LNK has handed the request on and its reply is still owed. -/
def handed (s : State) : State := reserve (taken s)

/-- R213: what an owner's request to latch a condition leaves of it: it is latched, with the cause detail of the latch that
set it. -/
def LatchedNow (c : Condition) (d : CauseDetail) (s t : State) : Prop :=
  (condEntry c t).latched = true ∧
  (condEntry c t).cause = if (condEntry c s).latched then (condEntry c s).cause else d

/-! ### Resets -/

/-- The tables that close the chapters (R25, R45, R65, R89, R114, R139, R157, R177, R194, R204, R217): what a reset leaves. -/
structure ResetValues (t : State) : Prop where
  setup : (∀ f ∈ fieldTable, t.setup.get f.id = f.deflt) ∧ t.generation = 0 ∧ t.fallbacks = []
  frontEnd : (∀ n : Channel, t.fec.drive[n].power = false ∧ t.fec.drive[n].term = .meg1 ∧ t.fec.drive[n].groundClosed = false ∧
    t.fec.latch[n] = false) ∧ t.fec.settle = none ∧ t.fec.calStep = none ∧ t.fec.calCodes = 0
  trigger : t.trg.changeHeld = false ∧ t.trg.high = false ∧ t.trg.qualifier = none ∧ t.trg.holdoff = none ∧
    t.trg.autoWait = none ∧ t.trg.pulse = none ∧ t.trg.indication = none ∧ t.trg.count = 0 ∧ t.trg.result.valid = false ∧
    t.trg.result.read = false ∧ t.trg.result.overrun = false ∧ t.trg.result.count = 0 ∧ auxOut t = false
  memory : t.mem.table = [] ∧ t.mem.seqCounter = 1 ∧ t.mem.pendingAlloc = none ∧ ∀ n : Fin 4, t.mem.refs[n] = refEmpty
  acquisition : t.acq = ⟨.stopped, 0, 0, false, false, none, none⟩
  renderer : (∀ k : Trace, t.rnd.work[k] = [] ∧ t.rnd.shown[k] = [] ∧ t.rnd.workTab[k] = [] ∧ t.rnd.shownTab[k] = []) ∧
    t.rnd.queue = [] ∧ t.rnd.redraw = true ∧ t.rnd.pass = none ∧ t.rnd.decay = none ∧ t.rnd.decayPending = false ∧
    t.rnd.viewPin = none
  compositor : t.cmp.draw = [] ∧ t.cmp.shown = [] ∧ t.cmp.glyphs = [] ∧ t.cmp.palette = defaultPalette ∧
    t.cmp.showPending = false ∧ t.cmp.hold = [] ∧ t.cmp.basis = none ∧ t.cmp.heldBacklight = 0 ∧ t.cmp.duty = 0 ∧
    t.cmp.blanked = false
  panel : (∀ k : Fin 64, t.pnl.keys[k] = ⟨false, 0, none, false, none⟩ ∧ t.pnl.bindings[k] = defaultBinding k.val ∧
    t.pnl.leds[k] = defaultLed k.val) ∧ t.pnl.events = [] ∧
    (∀ e : Fin 12, t.pnl.encBindings[e] = defaultEncBinding e.val ∧ t.pnl.encs[e].last = none ∧ t.pnl.encs[e].quarter = 0 ∧
      t.pnl.encs[e].acted = none ∧ t.pnl.encs[e].sum = 0) ∧
    t.pnl.lock = .unlocked ∧ t.pnl.blanked = false ∧ t.pnl.beeper = none ∧ t.pnl.blinkOn = true ∧ t.pnl.contacts = none ∧ t.pnl.lines = none
  store : t.sto.engine = none ∧ t.sto.autosave = none ∧ t.sto.autosavePending = false ∧ t.sto.fault = false
  transfer : t.xfr = ⟨.idle, 0, none, none⟩
  link : t.lnk.startUp = true ∧ t.lnk.inbound = [] ∧ t.lnk.outbound = [] ∧ t.lnk.reservations = 0 ∧
    ∀ c : Condition, condEntry c t = ⟨false, defaultRoute (condCode c).val, .absent⟩

/-- What a reset does not touch: the pins, sample memory and the BAD set (R45, R89), and the flash when no store operation is
interrupted (R194). -/
def KeptByReset (s t : State) : Prop :=
  t.pending = s.pending ∧ t.now = s.now ∧ t.fec.sense = s.fec.sense ∧ t.fec.lockPin = s.fec.lockPin ∧
  t.mem.dram = s.mem.dram ∧ t.mem.bad = s.mem.bad ∧ (s.sto.engine = none → t.sto.flash = s.sto.flash)

/-! ### Laws of the device -/

/-- The canonical form of every store of the state: sample memory, the planes, the overlay buffers, the glyph table and the
frame being scanned out (Memory.wf of each). -/
def StoresCanonical (s : State) : Prop :=
  Store.wf s.mem.dram = true ∧ (∀ t : Trace, Store.wf s.rnd.work[t] = true ∧ Store.wf s.rnd.shown[t] = true) ∧
  Store.wf s.cmp.draw = true ∧ Store.wf s.cmp.shown = true ∧ Store.wf s.cmp.glyphs = true ∧
  (∀ f, s.cmp.frame = some f → Store.wf f.overlay = true ∧ ∀ t : Trace, Store.wf f.planes[t] = true)

/-- R208: every reply still owed is that of a pending OV_SHOW or of a held overlay request. -/
def RepliesOwed (s : State) : Prop :=
  s.lnk.reservations = (if s.cmp.showPending then 1 else 0) + s.cmp.hold.length

/-- R211: the records and the reservations number at most 64. -/
def OutboundBounded (s : State) : Prop := s.lnk.outbound.length + s.lnk.reservations ≤ Config.outboundSize

/-- R211: never more than one unsent record of SETUP_CHANGED per field, of SETUP_RELOADED, of SEGMENT, or of ENCODER per
encoder. -/
def UnsentOnce (q : List Record) : Prop := q.Pairwise (fun a b => ∀ r, b = .report r → updates r a = false)

/-- R208, R211, R218: the replies owed have their reservations, the records and reservations fit, unsent records of the kinds that
are updated in place stand once, and until start-up has ended the queue is empty and no reply is owed. -/
def OutboundLaw (s : State) : Prop :=
  RepliesOwed s ∧ OutboundBounded s ∧ UnsentOnce s.lnk.outbound ∧
  (s.lnk.startUp = true → s.lnk.outbound = [] ∧ s.cmp.showPending = false ∧ s.cmp.hold = [])

/-- R207, R162, R149, R117: the bounds of the inbound queue, the key event queue, the hold list and the render queue. -/
def QueuesBounded (s : State) : Prop :=
  s.lnk.inbound.length ≤ Config.inboundSize ∧ s.pnl.events.length ≤ Config.keyQueueSize ∧
  s.cmp.hold.length ≤ Config.holdSize ∧ s.rnd.queue.length ≤ Config.renderQueueSize

/-- R1: whether a value lies within the range of a field of this kind (the ranges of view_start and view_span, which depend on
the record length, are in `SetupLawful`). -/
def inRange (k : FieldKind) (v : Int) : Bool :=
  match k with
  | .enum c => decide (0 ≤ v ∧ v < c)
  | .index top => decide (0 ≤ v ∧ v ≤ top)
  | .number lo hi => decide (lo ≤ v ∧ v ≤ hi)
  | .seq => decide (0 ≤ v ∧ v < 4294967296)
  | .order => isTraceOrder v

/-- R1: every field holds a value within its range, and no channel whose termination field is OHM50 has coupling AC or a scale
index above 9. -/
def SetupLawful (r : Setup) : Prop :=
  (∀ f ∈ fieldTable, inRange f.kind (r.get f.id) = true) ∧
  r.get 115 ≤ r.n ∧ r.get 114 ≤ r.n - r.get 115 ∧
  ∀ n : Channel, r.isOhm50 n = true → r.get (chField n 4) ≠ 1 ∧ r.get (chField n 1) ≤ 9

/-- R66: the pages of a reference slot, in its current list and in its copy list. -/
def slotPages (r : RefSlot) : List Nat := r.pages ++ (r.copy.map (·.pages)).getD []

/-- R66: the pages of all places but the BAD set. -/
def pagesInUse (m : Mem) : List Nat :=
  m.pool ++ m.table.flatMap segPages ++ channels.flatMap (fun n => slotPages m.refs[n])

/-- R66: every physical page is in exactly one place, and appears once. Between a reset and the end of start-up no page but the
BAD ones is placed. A slot is COPYING exactly while it has a copy, and a copy in WAIT_SETUP has no pages yet (R79, R81). -/
def PagesPartitioned (s : State) : Prop :=
  s.mem.bad.Nodup ∧ (∀ p ∈ s.mem.bad, p < Config.pageCount) ∧
  (s.lnk.startUp = false → (pagesInUse s.mem ++ s.mem.bad).Perm (List.range Config.pageCount)) ∧
  (s.lnk.startUp = true → s.mem.table = [] ∧ ∀ n : Fin 4, s.mem.refs[n] = refEmpty) ∧
  ∀ n : Fin 4, (s.mem.refs[n].state = .copying ↔ s.mem.refs[n].copy.isSome = true) ∧
    ∀ c, s.mem.refs[n].copy = some c → c.phase = .waitSetup → c.pages = []

/-- R26, R40: no termination relay is driven to OHM50 while the channel's protect latch is set. -/
def LatchedAtMeg1 (s : State) : Prop := ∀ n : Channel, s.fec.latch[n] = true → s.fec.drive[n].term = .meg1

/-- R183: no protected slot is being written or erased; a recall only reads; and no operation runs while the start-up flag is set. -/
def ProtectedUntouched (s : State) : Prop :=
  (s.lnk.startUp = true → s.sto.engine = none) ∧
  ∀ e, s.sto.engine = some e →
    match e.job with
    | .recall _ => e.step = .read
    | .save n _ => isProtected n s = false
    | .erase n => isProtected n s = false
    | _ => True

/-- R149: the hold list is never non-empty while the show-pending flag is CLEAR. -/
def HoldLaw (s : State) : Prop := s.cmp.showPending = false → s.cmp.hold = []

/-- R195, R198: a transfer context is present exactly outside IDLE, and a chunk is in hand exactly in WAITING. -/
def TransferLaw (s : State) : Prop :=
  (s.xfr.ctx.isSome = true ↔ s.xfr.state ≠ .idle) ∧ (s.xfr.chunk.isSome = true ↔ s.xfr.state = .waiting)

/-- R90: the states in which ACQ has a segment in flight. -/
def segmentOpen (a : AcqState) : Bool :=
  match a with
  | .stopped => false
  | .calibrating => false
  | .settling => false
  | .starved => false
  | .preFill => true
  | .ready => true
  | .postFill => true

/-- R70, R71, R73, R34: no seq appears twice in the segment table; a record is FILLING exactly while ACQ is in PRE_FILL, READY or
POST_FILL, it is the last of the table and the one of the capture context; an allocation is pending exactly in STARVED; and a
calibration step is in progress exactly in CALIBRATING. -/
def SegmentLaw (s : State) : Prop :=
  (s.mem.table.map (·.seq)).Nodup ∧ s.acq.ctx.isSome = segmentOpen s.acq.state ∧
  (∀ r ∈ s.mem.table, r.state = .filling ↔ s.acq.ctx.map (·.seq) = some r.seq) ∧
  (∀ c, s.acq.ctx = some c → s.mem.table.getLast?.map (·.seq) = some c.seq) ∧
  (s.mem.pendingAlloc.isSome = true ↔ s.acq.state = .starved) ∧ (s.fec.calStep.isSome = true ↔ s.acq.state = .calibrating)

/-- The seq of the segment that the running pass draws. -/
def passSeq (s : State) : Option Nat := s.rnd.pass.bind (fun p => p.seg.map (·.seq))

/-- R195: the source on which XFR holds its TRANSFER pin. -/
def transferSource (s : State) : Option XferSource :=
  if s.xfr.state = .reading ∨ s.xfr.state = .waiting then s.xfr.ctx.map (·.source) else none

/-- R200 step 2, R78, R85: what entering ENDING makes of MEM, with no allocation pending: the TRANSFER pin is released; a STALE
segment that no other holder pins is removed, and the pages of cleared contents are released at their last pin. A swap that waits for
the pin is a statement of its own. -/
def TransferReleased (x : XferSource) (s t : State) : Prop :=
  s.mem.pendingAlloc = none →
  match x with
  | .segment seq _ => ∀ r, findSeg seq s = some r → r.pins.transfer = true → (s.mem.table.map (·.seq)).Nodup →
    t.mem = if r.state = .stale ∧ r.pins = ⟨false, false, true, false⟩ then
        { s.mem with table := s.mem.table.filter (fun y => y.seq != seq), pool := s.mem.pool ++ sortAsc (segPages r) }
      else { s.mem with
        table := s.mem.table.map (fun y => if y.seq = seq then { y with pins := { y.pins with transfer := false } } else y) }
  | .reference n => s.mem.refs[n].pinTransfer = true →
    let unpinned : RefSlot := { s.mem.refs[n] with pinTransfer := false }
    (s.mem.refs[n].pinRender = true ∨ s.mem.refs[n].state = .valid →
      t.mem = { s.mem with refs := s.mem.refs.set n unpinned }) ∧
    (s.mem.refs[n].pinRender = false → s.mem.refs[n].state = .empty →
      t.mem = { s.mem with
        refs := s.mem.refs.set n { unpinned with pages := [] }, pool := s.mem.pool ++ sortAsc s.mem.refs[n].pages })

/-- R80, R83: a copy that has not ended its move holds COPY on its source. -/
def copiesFrom (seq : Nat) (s : State) : Prop :=
  ∃ (n : Fin 4) (c : RefCopy), s.mem.refs[n].copy = some c ∧ c.phase ≠ .waitUnpin ∧ c.contents.seq = seq

/-- R78: the pin holders of a record, and of a reference slot, are exactly those that hold them; a FILLING record has none and a
STALE one has some. R117: the render queue holds no seq twice, and not that of the pass; its segments are COMPLETE, and so is that of
the view; every segment that is held is in the table. R80: one slot at most is COPYING, and exactly while it has a copy. -/
def PinLaw (s : State) : Prop :=
  (∀ r ∈ s.mem.table,
    (r.pins.view = true ↔ s.rnd.viewPin = some r.seq) ∧
    (r.pins.render = true ↔ r.seq ∈ s.rnd.queue ∨ passSeq s = some r.seq) ∧
    (r.pins.transfer = true ↔ ∃ ch, transferSource s = some (.segment r.seq ch)) ∧
    (r.pins.copy = true ↔ copiesFrom r.seq s) ∧
    (r.state = .filling → unpinned r = true) ∧ (r.state = .stale → unpinned r = false)) ∧
  (∀ n : Fin 4,
    (s.mem.refs[n].pinRender = true ↔ ∃ p, s.rnd.pass = some p ∧ (p.refs[n]).isSome = true) ∧
    (s.mem.refs[n].pinTransfer = true ↔ transferSource s = some (.reference n)) ∧
    (s.mem.refs[n].state = .copying ↔ s.mem.refs[n].copy.isSome = true)) ∧
  (∀ n m : Fin 4, s.mem.refs[n].state = .copying → s.mem.refs[m].state = .copying → n = m) ∧
  s.rnd.queue.Nodup ∧ (∀ q, passSeq s = some q → q ∉ s.rnd.queue) ∧
  (∀ q, s.rnd.viewPin = some q ∨ q ∈ s.rnd.queue → ∃ r ∈ s.mem.table, r.seq = q ∧ r.state = .complete) ∧
  ∀ q, (passSeq s = some q ∨ (∃ ch, transferSource s = some (.segment q ch)) ∨ copiesFrom q s) → ∃ r ∈ s.mem.table, r.seq = q

/-- R70, R71, R78, R117, R195: the laws of the segments, of their pins and of the transfer engine, which hold together. -/
def HistoryLaw (s : State) : Prop := SegmentLaw s ∧ PinLaw s ∧ TransferLaw s

/-- R10, R79: the pages that a slot holds, or has been promised for a copy whose memory correction has been taken. -/
def committedPages (r : RefSlot) : Nat :=
  match r.state with
  | .empty => 0
  | .valid => r.pages.length
  | .copying => r.pages.length + (r.copy.map (fun c => if c.phase = .waitSetup then 0 else c.need)).getD 0

/-- R10: the pages that a slot in state VALID or COPYING holds. -/
def heldPages (r : RefSlot) : Nat :=
  match r.state with
  | .empty => 0
  | .valid => r.pages.length
  | .copying => (slotPages r).length

/-- R10, R79, R81: the pages needed by the setup fit beside those committed to the reference slots, the reserves of the slots fit the
good pages, and a copy list is never longer than its need. The law of R10, with the pages held in place of those committed, follows. -/
def ReferencesFit (s : State) : Prop :=
  (s.lnk.startUp = true → ∀ n : Fin 4, s.mem.refs[n] = refEmpty) ∧
  (∀ (n : Fin 4) (c : RefCopy), s.mem.refs[n].copy = some c →
    c.pages.length ≤ c.need ∧ (c.phase = .waitSetup → c.pages = [])) ∧
  (s.lnk.startUp = false →
    reservesExcept (fun _ => false) s ≤ goodPages s ∧
    s.setup.pagesNeeded + (channels.map (fun n => committedPages s.mem.refs[n])).sum ≤ goodPages s)

/-- R183: the protected slots are not written or erased by a step: what their areas hold stays. -/
def ProtectedAreasKept (s t : State) : Prop :=
  ∀ n : Fin 11, isProtected n s = true → areaOf (.slot n) t.sto.flash = areaOf (.slot n) s.sto.flash

end Sys2Proof.Machine
end

