-- ==== Sys2Proof/Certificates/Slice0/Obligations.lean ====
section
/-! DEFINITION. The statements for the provers, from the numbered rules of spec/. A statement that rests on a choice of the model
names the log entry (notes/assumptions). -/

open Sys2Proof Sys2Proof.Machine

/-! ### The queue of waiting commands -/

/-- The step takes the command at the front of the queue and executes it on the state with the queue's rest. -/
def Obligations.StepTakesTheFrontCommand : Prop :=
  ∀ (c : Instr) (s : State), step { s with pending := c :: s.pending } = exec c s

/-- Every command is answered with a next state, in which the queue of waiting commands stands as it was; with none waiting the
block idles (log 1). The spec names nothing that stops the part. -/
def Obligations.CommandsCompleteAndKeepTheQueue : Prop :=
  (∀ (c : Instr) (s : State), ∃ t, exec c s = .next t ∧ t.pending = s.pending) ∧
  ∀ s : State, step { s with pending := [] } = .next { s with pending := [] }

/-! ### Reset and start-up -/

/-- R217, R206 and the tables that close the chapters: what POWER_ON_RESET and a taken RESET leave, and what they do not
touch; while the RESET input holds the part every transaction is ignored, and with its rising edge start-up begins. That the reset values are those of the tables, where log 4 names none of them, is the spec's. That sample memory stands over a
reset (log 6), that the BAD set stands over POWER_ON_RESET until the next memory test (log 4), that the rising edge is the
START_UP that comes while the part is held (log 16) and that RESET is taken whatever its payload (log 14) are the model's choices. -/
def Obligations.ResetsLeaveTheTables : Prop :=
  (∀ s : State, ∃ t, exec .powerOnReset s = .next t ∧ ResetValues t ∧ KeptByReset s t ∧ t.lnk.resetCause = .power ∧
    t.lnk.txn = none ∧ t.lnk.heldInReset = true) ∧
  (∀ (failing : List Nat) (unanswered : List FlashArea) (s : State), s.lnk.heldInReset = true →
    exec (.startUp failing unanswered) s = .next { s with lnk := { s.lnk with heldInReset := false } }) ∧
  (∀ (c : Instr) (bytes : List Byte) (event : FetchEvent) (s : State), s.lnk.heldInReset = true →
    c ∈ [Instr.send bytes, .fetch event, .invalidOpener bytes] → exec c s = .next s) ∧
  ∀ (tag : Byte) (payload : List Byte) (s : State), CanTake 0x13 tag payload s →
    ∃ t, exec (.reset tag payload) s = .next t ∧ ResetValues t ∧ KeptByReset s t ∧ t.lnk.resetCause = .soft ∧
      t.lnk.heldInReset = false

/-- R218, R25, R68, R180, R192, R114: START_UP on a part that has just been reset and is no longer held. The memory test fills the
pool with the good pages in ascending order (after a soft reset the BAD set stands); the live table, the header copy and the
directory are rebuilt from the flash; the setup is the image of the slot that the header names, resolved against the good pages, or
the defaults (with fewer than 4 good pages, log 15); the start-up flag clears, READY heads the outbound queue with the source of the
setup, and the conditions that start-up's end latches are latched. -/
def Obligations.StartUpQueuesReady : Prop :=
  ∀ (failing : List Nat) (unanswered : List FlashArea) (s : State), ResetValues s → s.lnk.heldInReset = false →
    let header (a : FlashArea) : Option HeaderRecord :=
      if unanswered.contains a then none else readHeader (areaOf a s.sto.flash)
    let cal : AreaState × Option (List Int) :=
      if unanswered.contains .calibration then (.damaged, none) else readCal s.sto.flash.calibration
    let slot (n : Fin 11) : AreaState × Option SlotRecord :=
      if unanswered.contains (.slot n) then (.damaged, none) else readSlot s.sto.flash.slots[n]
    ∃ t, exec (.startUp failing unanswered) s = .next t ∧ t.lnk.startUp = false ∧
      t.mem.bad = (if s.lnk.resetCause = .power then (List.range 2048).filter (fun p => failing.contains p) else s.mem.bad) ∧
      t.mem.pool = (List.range 2048).filter (fun p => !t.mem.bad.contains p) ∧
      (∀ vs, cal = (.valid, some vs) → t.fec.tableValid = true ∧ ∀ i : Fin 52, t.fec.live[i] = vs[i.val]?.getD 0) ∧
      (cal.2 = none → t.fec.tableValid = false ∧ ∀ i : Fin 52, t.fec.live[i] = 0) ∧ t.sto.calDir = cal.1 ∧
      (header .headerA = none → header .headerB = none → t.sto.header = ⟨false, 0, .deflt, .replicate 10 false, false⟩) ∧
      (∀ a, header .headerA = some a →
        (∀ b, header .headerB = some b → a.writeCount = countAfter b.writeCount ∨
          (b.writeCount ≠ countAfter a.writeCount ∧ b.writeCount ≤ a.writeCount)) →
        t.sto.header = ⟨true, a.writeCount, a.source, a.protects, false⟩) ∧
      (∀ b, header .headerB = some b →
        (∀ a, header .headerA = some a → a.writeCount ≠ countAfter b.writeCount ∧
          (b.writeCount = countAfter a.writeCount ∨ a.writeCount < b.writeCount)) →
        t.sto.header = ⟨true, b.writeCount, b.source, b.protects, true⟩) ∧
      (∀ n : Fin 11, t.sto.dir[n].state = (slot n).1 ∧
        ∀ r, slot n = (.valid, some r) → t.sto.dir[n] = ⟨.valid, r.format, r.label, r.saveCount⟩) ∧
      t.sto.fault = !unanswered.isEmpty ∧
      (∃ source, t.lnk.outbound.head? =
          some (.report (.ready s.lnk.resetCause (2048 - t.mem.bad.length) t.fec.tableValid source)) ∧
        let named : Option (Fin 11) := match t.sto.header.source with
          | .last => some 0
          | .deflt => none
          | .user n => some (slotOfUser n)
        (∀ n r, named = some n → slot n = (.valid, some r) → r.format = 1 → source = .slot n ∧
          let tested : State := { s with mem := { s.mem with bad := t.mem.bad } }
          t.setup = recordAfter (recallChangeSet n r.image tested) tested) ∧
        ((∀ n r, named = some n → slot n = (.valid, some r) → r.format ≠ 1) → source = .deflt ∧
          (4 ≤ 2048 - t.mem.bad.length → ∀ f ∈ fieldTable, t.setup.get f.id = f.deflt))) ∧
      t.generation = 0 ∧ t.acq = s.acq ∧ t.rnd.pass.isSome = true ∧ t.fec.locked = s.fec.lockPin ∧
      t.trg.auxMode = some (t.setup.get 106).toNat ∧ t.sto.autosave = none ∧
      (t.mem.bad ≠ [] → (condEntry .memReduced t).latched = true) ∧
      (t.fec.tableValid = false → (condEntry .calInvalid t).latched = true) ∧
      (t.sto.fault = true → (condEntry .storeFault t).latched = true) ∧
      (t.fec.locked = false → (condEntry .clockFault t).latched = true)

/-! ### The link -/

/-- R205, R207: the bytes of a frame, sent by SEND, are judged good: the frame joins the inbound queue, the fourth one latches
INBOUND_FULL, and a frame that finds four is discarded with LINK_ERROR. -/
def Obligations.SentFrameJoinsTheInboundQueue : Prop :=
  ∀ (type tag : Byte) (payload : List Byte) (s : State), payload.length ≤ 1024 → s.lnk.heldInReset = false →
    (s.lnk.inbound.length < 3 → exec (.send (frameBytes type tag payload)) s =
      .next { s with lnk := { s.lnk with inbound := s.lnk.inbound ++ [⟨type, tag, payload⟩], txn := none,
                                         miso := List.replicate (payload.length + 6) 0 } }) ∧
    (s.lnk.inbound.length = 3 → ∃ t, exec (.send (frameBytes type tag payload)) s = .next t ∧
      t.lnk.inbound = s.lnk.inbound ++ [⟨type, tag, payload⟩] ∧ LatchedNow .inboundFull .zero s t) ∧
    (4 ≤ s.lnk.inbound.length → ∃ t, exec (.send (frameBytes type tag payload)) s = .next t ∧
      t.lnk.inbound = s.lnk.inbound ∧ LatchedNow .linkError (.link .overrun) s t)

/-- R207, R206: what SEND makes of bytes that are no good frame, and INVALID_OPENER: LINK_ERROR is latched with the first cause
that holds, and no frame joins; MISO carries 0x00 in every byte, and is high-impedance once CS is high. A transaction that ends before its
opener is whole is ignored and latches nothing. -/
def Obligations.BadTransactionsLatchLinkError : Prop :=
  (∀ (bytes : List Byte) (cause : LinkCause) (s : State), s.lnk.heldInReset = false →
    (let len := ofBe (bytes.take 2)
     (cause = .length ∧ 2 ≤ bytes.length ∧ (len < 2 ∨ 1026 < len)) ∨
     (cause = .short ∧ (bytes.length < 2 ∨ (2 ≤ len ∧ len ≤ 1026 ∧ bytes.length < len + 4))) ∨
     (cause = .long ∧ 2 ≤ len ∧ len ≤ 1026 ∧ len + 4 < bytes.length) ∨
     (cause = .crc ∧ 2 ≤ len ∧ len ≤ 1026 ∧ bytes.length = len + 4 ∧
       crcBytes (bytes.take (len + 2)) ≠ bytes.drop (len + 2))) →
    ∃ t, exec (.send bytes) s = .next t ∧ t.lnk.inbound = s.lnk.inbound ∧ LatchedNow .linkError (.link cause) s t ∧
      t.lnk.miso = List.replicate bytes.length 0 ∧ misoLine t = none) ∧
  (∀ s : State, exec (.invalidOpener []) s = .next s) ∧
  ∀ (opener : Byte) (bytes : List Byte) (s : State), s.lnk.heldInReset = false → opener ≠ 1 → opener ≠ 2 →
    ∃ t, exec (.invalidOpener (opener :: bytes)) s = .next t ∧ t.lnk.inbound = s.lnk.inbound ∧
      LatchedNow .linkError (.link .opener) s t ∧ t.lnk.miso = List.replicate bytes.length 0 ∧ misoLine t = none

/-- R209, R206: FETCH. A record clocked out whole leaves the queue, one clocked out in part stays at the head, an empty queue sends
zeros, and a record updated since its selection stays although its old bytes are clocked out whole. CS takes MISO out of
high-impedance at the selection and back at its rising edge. -/
def Obligations.FetchTakesTheHeadRecord : Prop :=
  ∀ (n : Nat) (s : State), s.lnk.heldInReset = false →
    (∀ r rest, s.lnk.outbound = r :: rest →
      exec (.fetch (.transaction n)) s = .next { s with lnk := { s.lnk with
        outbound := if (recordFrame r).length ≤ n then rest else s.lnk.outbound
        txn := none
        miso := (recordFrame r).take n ++ List.replicate (n - (recordFrame r).length) 0 } }) ∧
    (s.lnk.outbound = [] → exec (.fetch (.transaction n)) s =
      .next { s with lnk := { s.lnk with txn := none, miso := List.replicate n 0 } }) ∧
    (∀ bytes sent, s.lnk.txn = some ⟨bytes, sent, true, true⟩ →
      ∃ t, exec (.fetch (.clock n)) s = .next t ∧ t.lnk.outbound = s.lnk.outbound ∧
        t.lnk.miso = s.lnk.miso ++ (bytes.drop sent).take n ++ List.replicate (n - (bytes.length - sent)) 0) ∧
    (∃ t, exec (.fetch .select) s = .next t ∧ t.lnk.outbound = s.lnk.outbound ∧ misoLine t = some 0) ∧
    ∃ t, exec (.fetch .csRise) s = .next t ∧ t = { s with lnk := { s.lnk with txn := none } } ∧ misoLine t = none

/-- R208: a frame whose TYPE is no request code is answered UNKNOWN_TYPE, and a request that carries no arguments refuses a
payload with BAD_ARG; neither changes anything else. The refusal of a setup request carries the generation (R11), and a waiting
autosave follows a refused CAL_SAVE that was taken before it (R190). -/
def Obligations.MalformedRequestsAreRefused : Prop :=
  (∀ (type tag : Byte) (payload : List Byte) (s : State), isRequestCode type = false → CanTake type tag payload s →
    exec (.unknownType type tag payload) s = .next (answered type tag .unknownType .empty (taken s))) ∧
  ∀ (tag : Byte) (payload : List Byte) (s : State), payload ≠ [] →
    (∀ request ∈ [((0x10 : Byte), Instr.status tag payload), (0x30, .run tag payload),
        (0x31, .stop tag payload), (0x32, .single tag payload), (0x33, .force tag payload), (0x34, .calibrate tag payload),
        (0x36, .counterRead tag payload), (0x50, .clearPersist tag payload), (0x51, .cursorRead tag payload),
        (0x74, .storeList tag payload)],
      CanTake request.1 tag payload s →
        exec request.2 s = .next (answered request.1 tag .badArg .empty (taken s))) ∧
    (CanTake 0x22 tag payload s →
      exec (.defaultSetup tag payload) s = .next (answered 0x22 tag .badArg (.generation s.generation) (taken s))) ∧
    (CanTake 0x55 tag payload s → s.cmp.showPending = false →
      exec (.ovShow tag payload) s = .next (answered 0x55 tag .badArg .empty (taken s))) ∧
    (CanTake 0x76 tag payload s → s.sto.engine.isSome = true ∨ s.sto.autosavePending = false →
      exec (.calSave tag payload) s = .next (answered 0x76 tag .badArg .empty (taken s)))

/-- R214: STATUS. The condition table, the ACQ state and the busy flags as they stand when the request is taken; nothing else
changes. -/
def Obligations.StatusShowsTheConditionTable : Prop :=
  ∀ (tag : Byte) (s : State), CanTake 0x10 tag [] s →
    exec (.status tag []) s = .next (answered 0x10 tag .ok
      (.status
        (allConditions.map (fun c => ⟨(condEntry c s).latched, condActive c (taken s), (condEntry c s).route,
          (condEntry c s).cause⟩))
        s.acq.state
        ⟨s.fec.calStep.isSome, decide (∃ n : Fin 4, s.mem.refs[n].state = .copying), s.sto.engine.isSome,
          decide (s.xfr.state ≠ .idle), s.rnd.pass.isSome⟩)
      (taken s))

/-- R215: ACK_CONDITIONS clears each named condition that is latched and inactive, answers with the named ones still latched,
re-evaluates ALERT (R212) and changes nothing else; an empty list, one longer than 14, or a code above 13 is refused. -/
def Obligations.AckClearsInactiveConditions : Prop :=
  (∀ (tag : Byte) (codes : List Byte) (s : State), codes.length ≤ 255 →
    (codes = [] ∨ 14 < codes.length ∨ ∃ c ∈ codes, 13 < c.toNat) →
    CanTake 0x11 tag (BitVec.ofNat 8 codes.length :: codes) s →
    exec (.ackConditions tag (BitVec.ofNat 8 codes.length :: codes)) s = .next (answered 0x11 tag .badArg .empty (taken s))) ∧
  ∀ (tag : Byte) (cs : List Condition) (s : State), 1 ≤ cs.length → cs.length ≤ 14 →
    let payload : List Byte := BitVec.ofNat 8 cs.length :: cs.map (fun c => BitVec.ofNat 8 (condCode c).val)
    CanTake 0x11 tag payload s →
    ∃ (t : State) (left : List Condition),
      exec (.ackConditions tag payload) s = .next (answered 0x11 tag .ok (.conditions left) t) ∧
      t = { taken s with lnk := { (taken s).lnk with conds := t.lnk.conds } } ∧
      (∀ c, condEntry c t =
        if c ∈ cs ∧ (condEntry c s).latched = true ∧ condActive c (taken s) = false
        then ⟨false, (condEntry c s).route, .absent⟩ else condEntry c s) ∧
      (alert t = true ↔ ∃ d, (condEntry d t).latched = true ∧ (condEntry d t).route = .alert) ∧
      ∀ c, c ∈ left ↔ c ∈ cs ∧ (condEntry c t).latched = true

/-- R216: ROUTE_SET replaces the route of one condition, and ALERT is re-evaluated at once (R212); a code above 13 or another route
is refused. -/
def Obligations.RouteSetReplacesOneRoute : Prop :=
  (∀ (tag c r : Byte) (s : State), 13 < c.toNat ∨ 1 < r.toNat → CanTake 0x12 tag [c, r] s →
    exec (.routeSet tag [c, r]) s = .next (answered 0x12 tag .badArg .empty (taken s))) ∧
  ∀ (tag : Byte) (c : Condition) (r : Route) (s : State),
    let payload : List Byte := [BitVec.ofNat 8 (condCode c).val, routeCode r]
    CanTake 0x12 tag payload s →
    ∃ t, exec (.routeSet tag payload) s = .next (answered 0x12 tag .ok .empty t) ∧
      t = { taken s with lnk := { (taken s).lnk with conds := t.lnk.conds } } ∧
      (∀ d, condEntry d t = if d = c then ⟨(condEntry c s).latched, r, (condEntry c s).cause⟩ else condEntry d s) ∧
      (alert t = true ↔ ∃ d, (condEntry d t).latched = true ∧ (condEntry d t).route = .alert)

/-! ### Queries -/

/-- R13, R11: GET_FIELDS. The generation and the values of the ids asked, in the order asked, with what stands beside them; an empty
list asks for all 83 fields; a list that holds an unknown id, or more than 83, is refused. Beside a termination stand the effective
termination and the protect latch (R26, R40), and beside pretrigger stands P (R90). That a refused request carries the generation too
is the model's reading of R11 (log 12). -/
def Obligations.GetFieldsReadsTheRecord : Prop :=
  (∀ s : State, fieldExtra 82 s = .pretrigger (s.setup.n * (s.setup.get 82).toNat / 1000) ∧
    (∀ n : Channel, fieldExtra (16 * (n.val + 1) + 5) s = .termination
      (if s.fec.latch[n] = false ∧ s.setup.get (16 * (n.val + 1) + 5) = 1 then .ohm50 else .meg1) s.fec.latch[n]) ∧
    ∀ id, id ≠ 82 → (∀ n : Channel, id ≠ 16 * (n.val + 1) + 5) → fieldExtra id s = .nothing) ∧
  ∀ (tag : Byte) (ids : List Nat) (s : State), ids.length ≤ 255 → (∀ i ∈ ids, i < 256) →
    let payload : List Byte := BitVec.ofNat 8 ids.length :: ids.map (BitVec.ofNat 8)
    CanTake 0x21 tag payload s →
    exec (.getFields tag payload) s = .next
      (if ids.length ≤ 83 ∧ ∀ i ∈ ids, i ∈ fieldIds then
        answered 0x21 tag .ok (.getFields s.generation
          ((if ids = [] then fieldIds else ids).map (fun i => (s.setup.get i, fieldExtra i s)))) (taken s)
      else answered 0x21 tag .badArg (.generation s.generation) (taken s))

/-- R86, R87, R88, R148, R193: the queries answer from the segment table, the page records, sample memory, the shown column
table, and the directory and header copy; they change nothing else. A channel or slot out of range is refused first, then what is
not found, then a sample index at or beyond N. -/
def Obligations.QueriesAnswerAndChangeNothing : Prop :=
  (∀ (tag k : Byte) (start : Nat) (s : State), start < 4294967296 →
    let payload : List Byte := beBytes 4 start ++ [k]
    CanTake 0x42 tag payload s →
    (¬ (1 ≤ k.toNat ∧ k.toNat ≤ 24) →
      exec (.segmentList tag payload) s = .next (answered 0x42 tag .badArg .empty (taken s))) ∧
    ∀ before rest, 1 ≤ k.toNat → k.toNat ≤ 24 → s.mem.table = before ++ rest →
      ((start = 0 ∧ before = []) ∨
        (start ≠ 0 ∧ (∀ r ∈ before, r.seq ≠ start) ∧ rest.head?.map (·.seq) = some start) ∨
        (start ≠ 0 ∧ (∀ r ∈ s.mem.table, r.seq ≠ start) ∧ (∀ r ∈ before, r.seq < start) ∧ ∀ r, rest.head? = some r → start < r.seq)) →
      exec (.segmentList tag payload) s = .next (answered 0x42 tag .ok
        (.segments (rest.take k.toNat) (((rest.drop k.toNat).head?.map (·.seq)).getD 0)) (taken s))) ∧
  (∀ (tag : Byte) (page : Nat) (s : State), page < 65536 → CanTake 0x43 tag (2 :: beBytes 2 page) s →
    exec (.pageQuery tag (2 :: beBytes 2 page)) s = .next
      (if page < 2048 then answered 0x43 tag .ok (.physicalPage (pageRecord page s)) (taken s)
       else answered 0x43 tag .badArg .empty (taken s))) ∧
  (∀ (tag ch i : Byte) (seq : Nat) (s : State), seq < 4294967296 →
    let payload : List Byte := 0 :: (beBytes 4 seq ++ [ch, i])
    CanTake 0x43 tag payload s →
    (¬ (1 ≤ ch.toNat ∧ ch.toNat ≤ 4) → exec (.pageQuery tag payload) s = .next (answered 0x43 tag .badArg .empty (taken s))) ∧
    ∀ n : Channel, ch.toNat = n.val + 1 →
      (∀ r page, findSeg seq s = some r → r.set[n] = true → r.pages[n][i.toNat]? = some page →
        exec (.pageQuery tag payload) s =
          .next (answered 0x43 tag .ok (.segmentPage page (pageRecord page s).state) (taken s))) ∧
      ((∀ r, findSeg seq s = some r → r.set[n] = false ∨ r.pages[n].length ≤ i.toNat) →
        exec (.pageQuery tag payload) s = .next (answered 0x43 tag .notFound .empty (taken s)))) ∧
  (∀ (tag slot i : Byte) (s : State), CanTake 0x43 tag [1, slot, i] s →
    (¬ (1 ≤ slot.toNat ∧ slot.toNat ≤ 4) →
      exec (.pageQuery tag [1, slot, i]) s = .next (answered 0x43 tag .badArg .empty (taken s))) ∧
    ∀ n : Fin 4, slot.toNat = n.val + 1 →
      (∀ c page, s.mem.refs[n].contents = some c → s.mem.refs[n].pages[i.toNat]? = some page →
        exec (.pageQuery tag [1, slot, i]) s =
          .next (answered 0x43 tag .ok (.referencePage page (pageRecord page s).state c) (taken s))) ∧
      (s.mem.refs[n].contents = none ∨ s.mem.refs[n].pages.length ≤ i.toNat →
        exec (.pageQuery tag [1, slot, i]) s = .next (answered 0x43 tag .notFound .empty (taken s)))) ∧
  (∀ (tag ch : Byte) (seq i : Nat) (s : State), seq < 4294967296 → i < 4294967296 →
    let payload : List Byte := 0 :: (beBytes 4 seq ++ [ch] ++ beBytes 4 i)
    CanTake 0x44 tag payload s →
    (¬ (1 ≤ ch.toNat ∧ ch.toNat ≤ 4) → exec (.peek tag payload) s = .next (answered 0x44 tag .badArg .empty (taken s))) ∧
    ∀ n : Channel, ch.toNat = n.val + 1 →
      (∀ r, findSeg seq s = some r → r.state = .complete → r.set[n] = true → exec (.peek tag payload) s = .next
        (if i < r.n then
          answered 0x44 tag .ok (.sample (readPosition s.mem.dram r.pages[n] (storedPosition r.p r.origin i))) (taken s)
         else answered 0x44 tag .badArg .empty (taken s))) ∧
      ((∀ r, findSeg seq s = some r → r.state ≠ .complete ∨ r.set[n] = false) →
        exec (.peek tag payload) s = .next (answered 0x44 tag .notFound .empty (taken s)))) ∧
  (∀ (tag slot : Byte) (i : Nat) (s : State), i < 4294967296 →
    let payload : List Byte := [1, slot] ++ beBytes 4 i
    CanTake 0x44 tag payload s →
    (¬ (1 ≤ slot.toNat ∧ slot.toNat ≤ 4) → exec (.peek tag payload) s = .next (answered 0x44 tag .badArg .empty (taken s))) ∧
    ∀ n : Fin 4, slot.toNat = n.val + 1 →
      (∀ c, s.mem.refs[n].contents = some c → exec (.peek tag payload) s = .next
        (if i < c.n then answered 0x44 tag .ok (.sample (readPosition s.mem.dram s.mem.refs[n].pages i)) (taken s)
         else answered 0x44 tag .badArg .empty (taken s))) ∧
      (s.mem.refs[n].contents = none →
        exec (.peek tag payload) s = .next (answered 0x44 tag .notFound .empty (taken s)))) ∧
  (∀ (tag : Byte) (s : State), CanTake 0x51 tag [] s →
    exec (.cursorRead tag []) s = .next (answered 0x51 tag .ok
      (let t := (s.setup.get 125).toNat
       let a := (s.setup.get 126).toNat
       let b := (s.setup.get 127).toNat
       .cursors t a (shownEntry t a s) b (shownEntry t b s)) (taken s))) ∧
  (∀ (tag : Byte) (s : State), CanTake 0x74 tag [] s →
    exec (.storeList tag []) s = .next (answered 0x74 tag .ok
      (.storeList ((List.finRange 11).map (fun n => (s.sto.dir[n], isProtected n s))) s.sto.header s.sto.calDir
        (s.sto.engine.map (fun e => (jobOp e.job, jobArg e.job)))) (taken s)))

/-! ### The active setup -/

/-- R7, R11, R12, R14, R21, R46, R64: SET_FIELDS and DEFAULT_SETUP. The record becomes what the change set's accepted values and the
coupled resolution give; the generation advances by one exactly where the record changes; the reply stands behind every report the
change set offered and shows each pair's outcome; a change of aux_mode reaches AUX at once; a change of TRIGGER-class fields alone is
kept from TRG in PRE_FILL and POST_FILL and taken at once elsewhere (R21). A list that R12 refuses, or that is none, writes nothing. -/
def Obligations.HostChangeSetsWriteTheRecord : Prop :=
  (∀ (tag : Byte) (payload : List Byte) (s : State), parsePairs payload = none → CanTake 0x20 tag payload s →
    exec (.setFields tag payload) s = .next (answered 0x20 tag .badArg (.generation s.generation) (taken s))) ∧
  (∀ (tag : Byte) (payload : List Byte) (ps : List (Nat × Int)) (s : State), parsePairs payload = some ps →
    CanTake 0x20 tag payload s →
    ((ps = [] ∨ 16 < ps.length ∨ ¬ (ps.map (·.1)).Nodup ∨ ∃ p ∈ ps, p.1 ∉ fieldIds) →
      exec (.setFields tag payload) s = .next (answered 0x20 tag .badArg (.generation s.generation) (taken s))) ∧
    (ps ≠ [] → ps.length ≤ 16 → (ps.map (·.1)).Nodup → (∀ p ∈ ps, p.1 ∈ fieldIds) →
      ∃ t, exec (.setFields tag payload) s = .next t ∧
        t.setup = recordAfter (hostChangeSet ps s) s ∧
        t.generation = (if t.setup = s.setup then s.generation else s.generation + 1) ∧
        t.lnk.outbound.getLast? = some (.reply ⟨tag, 0x20, .ok, .setFields t.generation
          (ps.map (fun p => ⟨p.1,
            if checkValue p.1 p.2 s = none then .refused else if t.setup.get p.1 = p.2 then .applied else .clamped,
            t.setup.get p.1⟩))
          ((fieldIds.filter (fun i => decide (s.setup.get i ≠ t.setup.get i) &&
              !((acceptedPairs ps s).map (·.1)).contains i)).map (fun i => (i, t.setup.get i)))⟩) ∧
        t.cmp = s.cmp ∧ t.xfr = s.xfr ∧ t.sto.flash = s.sto.flash ∧ t.sto.engine = s.sto.engine ∧ t.now = s.now ∧
        t.trg.auxMode = (if t.setup.get 106 = s.setup.get 106 then s.trg.auxMode else some (t.setup.get 106).toNat) ∧
        t.sto.autosave = (if t.setup = s.setup then s.sto.autosave else some (s.now + 2000000000)) ∧
        ((∀ f ∈ fieldTable, f.cls = .capture ∨ f.id = 96 → t.setup.get f.id = s.setup.get f.id) →
          (∃ f ∈ fieldTable, f.cls = .trigger ∧ t.setup.get f.id ≠ s.setup.get f.id) →
          (s.mem.pendingAlloc = none ∨ (s.acq.state = .starved ∧ t.setup.get 112 = s.setup.get 112 ∧
            t.setup.get 113 = s.setup.get 113)) →
          if s.acq.state = .preFill ∨ s.acq.state = .postFill
          then t.trg.held = s.trg.held ∧ t.trg.changeHeld = true
          else t.trg.held = settingsOf t.setup ∧
            (s.mem.pendingAlloc = none ∨ s.trg.changeHeld = false → t.trg.changeHeld = s.trg.changeHeld)))) ∧
  ∀ (tag : Byte) (s : State), CanTake 0x22 tag [] s → 4 ≤ captureAllowance s →
    ∃ t, exec (.defaultSetup tag []) s = .next t ∧ t.setup = defaultSetup ∧
      t.generation = (if s.setup = defaultSetup then s.generation else s.generation + 1) ∧
      t.lnk.outbound.getLast? = some (.reply ⟨tag, 0x22, .ok, .generation t.generation⟩)

/-- R19, R81: the two change sets of origin DEVICE. A view fallback takes effect only on the view it was made for; a memory
correction makes the setup fit the capture allowance, after which the copy allocates its need or ends. -/
def Obligations.DeviceChangeSetsCorrectTheRecord : Prop :=
  (∀ (seq : Nat) (rest : List Nat) (s : State), s.lnk.startUp = false → s.fallbacks = seq :: rest →
    (s.setup.get 112 = 1 → (s.setup.get 113).toNat = seq →
      ∃ t, exec .viewFallback s = .next t ∧ t.setup.get 112 = 0 ∧ t.setup.get 113 = 0 ∧
        t.generation = s.generation + 1 ∧ t.fallbacks = rest) ∧
    (s.setup.get 112 ≠ 1 ∨ (s.setup.get 113).toNat ≠ seq →
      exec .viewFallback s = .next { s with fallbacks := rest })) ∧
  ∀ (n : Fin 4) (c : RefCopy) (s : State), s.lnk.startUp = false → copyingSlot s = some n →
    s.mem.refs[n].copy = some c → c.phase = .waitSetup →
    ∃ t, exec .memoryCorrection s = .next t ∧ t.setup = recordAfter ⟨.device, [], false, false, none⟩ s ∧
      t.setup.pagesNeeded ≤ captureAllowance s ∧
      ((t.mem.refs[n].copy = none ∧ t.mem.refs[n].state ≠ .copying) ∨
        ∃ d, t.mem.refs[n].copy = some d ∧ d.phase = .move ∧ d.pages.length = c.need ∧ t.mem.refs[n].state = .copying)

/-- R9: steps 2 and 3 of the resolution. The view window is rescaled when the record length has changed, but for a view field
that the change set wrote for the new length; then it is clamped into the record. -/
def Obligations.ViewWindowFollowsTheRecordLength : Prop :=
  (∀ (keepStart keepSpan : Bool) (n : Nat) (r : Setup),
    let t := resolveView keepStart keepSpan n r
    let span := if n = r.n ∨ keepSpan = true then r.get 115 else max 70 (r.get 115 * r.n / n)
    let start := if n = r.n ∨ keepStart = true then r.get 114 else r.get 114 * r.n / n
    t.get 115 = max 70 (min (r.n : Int) span) ∧ t.get 114 = max 0 (min (r.n - t.get 115) start) ∧
    (∀ id, id ≠ 114 → id ≠ 115 → t.get id = r.get id) ∧ (70 ≤ r.n → t.get 115 ≤ r.n ∧ t.get 114 ≤ r.n - t.get 115)) ∧
  (∀ (ps : List (Nat × Int)) (s : State),
    ((hostChangeSet ps s).keepStart = true ↔ ∃ p ∈ ps, p.1 = 114 ∧ checkValue p.1 p.2 s ≠ none) ∧
    ((hostChangeSet ps s).keepSpan = true ↔ ∃ p ∈ ps, p.1 = 115 ∧ checkValue p.1 p.2 s ≠ none)) ∧
  defaultChangeSet.keepStart = true ∧ defaultChangeSet.keepSpan = true ∧
  ∀ slot image s, (recallChangeSet slot image s).keepStart = true ∧ (recallChangeSet slot image s).keepSpan = true

/-- R5, R7 to R10, R79: the check of a pair by the kind of its field, what a change set writes, and the resolution of section 1.3 in
its order: steps 1, 2 and 3, 4, and steps 2 and 3 again with the length before step 4 where step 4 lowers it (steps 2 and 3 have a
statement of their own). Step 1: an OHM50 channel is taken off AC and held to scale 9. Step 4: a record length that the capture
allowance cannot hold becomes the largest that it holds, and where none does, channels are turned OFF until the rest fits: those that
the change set turned ON first, then the others, each time the highest number first. -/
def Obligations.ResolutionFitsTerminationAndMemory : Prop :=
  (∀ (v : Int) (s : State),
    (∀ f ∈ fieldTable, checkValue f.id v s =
      match f.kind with
      | .enum count => if 0 ≤ v ∧ v < count then some v else none
      | .index top => some (max 0 (min top v))
      | .number lo hi => some (max lo (min hi v))
      | .order =>
        if 0 ≤ v ∧ v < 2 ^ 63 ∧ (beBytes 8 v.toNat).Perm ((List.range 8).map (BitVec.ofNat 8)) then some v else none
      | .seq =>
        if v = 0 ∨ (1 ≤ v ∧ v ≤ 4294967295 ∧ ∃ r ∈ findSeg v.toNat s, r.state = .complete) then some v else none) ∧
    checkValue 114 v s = some (max 0 (min 1048506 v)) ∧ checkValue 115 v s = some (max 70 (min 1048576 v)) ∧
    ∀ id, id ∉ fieldIds → checkValue id v s = none) ∧
  (∀ (ps : List (Nat × Int)) (s : State), (hostChangeSet ps s).writes =
    ps.filterMap (fun p => (checkValue p.1 p.2 s).map (fun v => (p.1, v)))) ∧
  (∀ (r : Setup) (ws : List (Nat × Int)), ∀ id ∈ fieldIds,
    (r.setAll ws).get id = ((ws.reverse.find? (fun w => w.1 == id)).map (·.2)).getD (r.get id)) ∧
  (∀ (cs : ChangeSet) (s : State),
    let window (n : Nat) (r : Setup) : Setup := resolveView cs.keepStart cs.keepSpan n r
    let three := window s.setup.n (resolveStep1 (s.setup.setAll cs.writes))
    let four := fitMemory s.setup (captureAllowance s) three
    recordAfter cs s = if four.n = three.n then four else window three.n four) ∧
  (∀ s : State, captureAllowance s = (2048 - s.mem.bad.length) - (channels.map (fun n => match s.mem.refs[n].state with
    | .empty => 0
    | .valid => s.mem.refs[n].pages.length
    | .copying => s.mem.refs[n].pages.length + (s.mem.refs[n].copy.map (·.need)).getD 0)).sum) ∧
  (∀ (r : Setup) (n : Channel),
    let t := resolveStep1 r
    (r.isOhm50 n = true → t.get (chField n 4) = (if r.get (chField n 4) = 1 then 0 else r.get (chField n 4)) ∧
      t.get (chField n 1) = min 9 (r.get (chField n 1))) ∧
    (r.isOhm50 n = false → t.get (chField n 4) = r.get (chField n 4) ∧ t.get (chField n 1) = r.get (chField n 1)) ∧
    ∀ id, (∀ m : Channel, id ≠ chField m 4 ∧ id ≠ chField m 1) → t.get id = r.get id) ∧
  ∀ (old r : Setup) (avail : Nat),
    let t := fitMemory old avail r
    let pages (i : Nat) : Nat := (1024 * 2 ^ i + 4095) / 4096
    r.pagesNeeded = (channels.filter (fun n => r.get (chField n 0) == 1)).length * pages (r.get 80).toNat ∧
    t.pagesNeeded ≤ avail ∧ (r.pagesNeeded ≤ avail → t = r) ∧
    (∀ i : Nat, avail < r.pagesNeeded → i ≤ 10 → r.enabledCount * pages i ≤ avail →
      (∀ j : Nat, i < j → j ≤ 10 → avail < r.enabledCount * pages j) → t = r.set 80 i) ∧
    (avail < r.pagesNeeded → (∀ i : Nat, i ≤ 10 → avail < r.enabledCount * pages i) →
      let highestFirst : List Channel := [3, 2, 1, 0]
      let order := highestFirst.filter (fun n => r.get (chField n 0) == 1 && old.get (chField n 0) != 1) ++
        highestFirst.filter (fun n => r.get (chField n 0) == 1 && old.get (chField n 0) == 1)
      let off (k : Nat) : Setup := (order.take k).foldl (fun a n => a.set (chField n 0) 0) (r.set 80 0)
      ∃ k, t = off k ∧ ∀ j, j < k → avail < (off j).pagesNeeded)

/-! ### The front end -/

/-- R41, R42, R111: an overload sense becomes active with the relay at OHM50 (TRIP), at MEG1 (OVERLOAD_SENSE_ACTIVE), or becomes
inactive. -/
def Obligations.OverloadTripsTheChannel : Prop :=
  ∀ (ch : Channel) (s : State),
    (s.lnk.startUp = false → s.fec.drive[ch].term = .ohm50 →
      ∃ t, exec (.trip ch) s = .next t ∧ t.fec.sense[ch] = true ∧ t.fec.latch[ch] = true ∧ t.fec.drive[ch].term = .meg1 ∧
        (∀ n : Channel, n ≠ ch → t.fec.latch[n] = s.fec.latch[n]) ∧
        LatchedNow (.protect ch) (.acqState s.acq.state) s t ∧
        (∃ d, t.fec.settle = some d ∧ s.now + 5000000 ≤ d) ∧
        t.pnl.beeper = (if s.setup.get 162 = 1 then some ⟨2000, s.now + 500000000, false⟩ else s.pnl.beeper) ∧
        (acqRunning s.acq.state = true → t.acq.state = if s.setup.get 85 = 1 then .stopped else .settling) ∧
        (acqRunning s.acq.state = false → t.acq = s.acq) ∧ t.setup = s.setup ∧ t.fec.live = s.fec.live) ∧
    (s.lnk.startUp = true ∨ s.fec.drive[ch].term = .meg1 →
      exec (.overloadSenseActive ch) s = .next { s with fec := { s.fec with sense := s.fec.sense.set ch true } }) ∧
    exec (.overloadSenseInactive ch) s = .next { s with fec := { s.fec with sense := s.fec.sense.set ch false } }

/-- R42: CLEAR_PROTECT; a payload that is not one of the channels 1 to 4 is refused. -/
def Obligations.ClearProtectReleasesTheLatch : Prop :=
  (∀ (tag : Byte) (payload : List Byte) (s : State), (∀ ch : Channel, payload ≠ [BitVec.ofNat 8 (ch.val + 1)]) →
    CanTake 0x35 tag payload s →
    exec (.clearProtect tag payload) s = .next (answered 0x35 tag .badArg .empty (taken s))) ∧
  ∀ (tag : Byte) (ch : Channel) (s : State), CanTake 0x35 tag [BitVec.ofNat 8 (ch.val + 1)] s →
    (s.fec.latch[ch] = false →
      exec (.clearProtect tag [BitVec.ofNat 8 (ch.val + 1)]) s = .next (answered 0x35 tag .ok .empty (taken s))) ∧
    (s.fec.latch[ch] = true → s.fec.sense[ch] = true →
      exec (.clearProtect tag [BitVec.ofNat 8 (ch.val + 1)]) s = .next (answered 0x35 tag .stillActive .empty (taken s))) ∧
    (s.fec.latch[ch] = true → s.fec.sense[ch] = false →
      ∃ t, exec (.clearProtect tag [BitVec.ofNat 8 (ch.val + 1)]) s = .next t ∧ t.fec.latch = s.fec.latch.set ch false ∧
        condEntry (.protect ch) t = condEntry (.protect ch) s ∧ t.setup = s.setup ∧
        t.lnk.outbound.getLast? = some (.reply ⟨tag, 0x35, .ok, .empty⟩) ∧
        (s.fec.calStep = none → t.fec.drive[ch].term = (if s.setup.isOhm50 ch then .ohm50 else .meg1) ∧
          (∃ d, t.fec.settle = some d ∧ s.now + 5000000 ≤ d) ∧
          t.acq.state = if acqRunning s.acq.state then .settling else s.acq.state) ∧
        (s.fec.calStep.isSome = true → t.fec.drive = s.fec.drive ∧ t.acq = s.acq))

/-- R44, R112, R113: CLOCK_LOSS ends the run or the calibration and latches CLOCK_FAULT; CLOCK_LOCK_RETURN makes it inactive and
starts nothing. -/
def Obligations.ClockLossStopsAcquisition : Prop :=
  (∀ s : State, s.lnk.startUp = false → s.fec.locked = true →
    (s.acq.state = .calibrating → s.fec.calStep.isSome = true) →
    ∃ t, exec .clockLoss s = .next t ∧ t.fec.lockPin = false ∧ t.fec.locked = false ∧
      LatchedNow .clockFault (.acqState s.acq.state) s t ∧ t.acq.state = .stopped ∧ t.fec.calStep = none ∧
      t.fec.live = s.fec.live ∧ t.fec.tableValid = s.fec.tableValid ∧ t.acq.runCount = s.acq.runCount) ∧
  (∀ s : State, s.fec.locked = false →
    exec .clockLoss s = .next { s with fec := { s.fec with lockPin := false } }) ∧
  ∀ s : State, s.lnk.startUp = false →
    exec .clockLockReturn s = .next { s with fec := { s.fec with lockPin := true, locked := true } }

/-- R33, R34: CALIBRATE, by the first condition of R33's table that holds; an accepted one replies before the ACQ_STATE report of
its start. -/
def Obligations.CalibrateStartsFromStopped : Prop :=
  ∀ (tag : Byte) (s : State), CanTake 0x34 tag [] s →
    (s.acq.state = .calibrating →
      exec (.calibrate tag []) s = .next (answered 0x34 tag .busy .empty (taken s))) ∧
    (s.acq.state ≠ .calibrating → s.fec.locked = false ∨ s.acq.state ≠ .stopped →
      exec (.calibrate tag []) s = .next (answered 0x34 tag .badState .empty (taken s))) ∧
    (s.acq.state = .stopped → s.fec.locked = true →
      ∃ t, exec (.calibrate tag []) s = .next t ∧ t.acq.state = .calibrating ∧ t.fec.calStep = some 0 ∧
        (∀ k : Fin 52, t.fec.staged[k] = 0) ∧
        (∀ n : Channel, t.fec.drive[n] = ⟨true, .div1, 0, .dc, .meg1, .full, true⟩) ∧
        t.fec.latch = s.fec.latch ∧ t.fec.live = s.fec.live ∧ t.fec.tableValid = s.fec.tableValid ∧
        s.lnk.outbound ++ [.reply ⟨tag, 0x34, .accepted, .empty⟩] <+: t.lnk.outbound)

/-- R35, R36, R37: in CALIBRATING, while the settle timer is IDLE, SAMPLE_CODE adds the raw code of the step's channel to the step's
sum, up to 256 codes. CAL_STEP ends a step whose 256 codes are summed: it computes 128 - floor((sum + 128) / 256). Within 40 it
writes the value clamped to -32..31 into the staged table and the next step follows with its own sum, or, after the last, the staged
table becomes the live table; beyond 40 the procedure fails and the live table is kept. Before its 256 codes a step has not ended,
and it ends with no other sum than theirs (log 8). -/
def Obligations.CalStepWritesOrFails : Prop :=
  (∀ (c1 c2 c3 c4 : Byte) (ext : Bool) (k : Fin 52) (s : State), s.lnk.startUp = false → s.acq.state = .calibrating →
    s.acq.ctx = none → s.fec.calStep = some k →
    ∃ t, exec (.sampleCode c1 c2 c3 c4 ext) s = .next t ∧ t = { s with now := s.now + 1, fec := t.fec, trg := t.trg } ∧
      t.fec = if s.fec.settle = none ∧ s.fec.calCodes < 256 then
          { s.fec with calSum := s.fec.calSum + (#v[c1, c2, c3, c4][k.val / 13]'(by omega)).toNat
                       calCodes := s.fec.calCodes + 1 }
        else s.fec) ∧
  ∀ (k : Fin 52) (s : State), s.lnk.startUp = false → s.fec.calStep = some k →
    let cal : Int := 128 - (s.fec.calSum + 128 : Int) / 256
    let ends : Instr := .calStep s.fec.calSum
    (∀ sum, s.fec.calCodes < 256 ∨ sum ≠ s.fec.calSum → exec (.calStep sum) s = .next s) ∧
    (s.fec.calCodes = 256 → 40 < cal.natAbs → ∃ t, exec ends s = .next t ∧ t.fec.calStep = none ∧
      t.fec.live = s.fec.live ∧ t.fec.tableValid = s.fec.tableValid ∧ t.acq.state = .stopped ∧
      (1 ≤ freeCount s → s.lnk.outbound ++ [.report (.calDone .failed
        (some ⟨⟨k.val / 13, by omega⟩, k.val % 13, cal⟩))] <+: t.lnk.outbound)) ∧
    (s.fec.calCodes = 256 → cal.natAbs ≤ 40 → ∀ h : k.val + 1 < 52, ∃ t, exec ends s = .next t ∧
      t.fec.calStep = some ⟨k.val + 1, h⟩ ∧ t.fec.calSum = 0 ∧ t.fec.calCodes = 0 ∧
      t.fec.staged = s.fec.staged.set k (max (-32) (min 31 cal)) ∧
      t.fec.live = s.fec.live ∧ t.fec.tableValid = s.fec.tableValid ∧ t.acq = s.acq ∧ t.lnk = s.lnk ∧
      drivenScale t.fec.drive[(k.val + 1) / 13] = (k.val + 1) % 13) ∧
    (s.fec.calCodes = 256 → cal.natAbs ≤ 40 → k.val = 51 → ∃ t, exec ends s = .next t ∧ t.fec.calStep = none ∧
      t.fec.live = s.fec.staged.set k (max (-32) (min 31 cal)) ∧ t.fec.tableValid = true ∧ t.acq.state = .stopped ∧
      (1 ≤ freeCount s → s.lnk.outbound ++ [.report (.calDone .ok none)] <+: t.lnk.outbound))

/-! ### The trigger unit -/

/-- R31, R48, R49, R50, R51, R61: SAMPLE_CODE in STOPPED with held type EDGE. With a channel as source the comparator reads its
corrected code against the two thresholds; with EXT it reads the external comparator, and the DAC holds upper in LOW and lower in
HIGH. A transition that the slope names is counted, and nothing else changes but the instant (log 2) and the sum of a calibration
step. R46, R47: taking the settings copies the record and acts on each difference; with a seed pending on EXT and the comparator HIGH
the DAC code is the choice of log 17. -/
def Obligations.SampleCodeDrivesTheComparator : Prop :=
  (∀ (r : Byte) (cal : Int), -32 ≤ cal → cal ≤ 31 →
    (correctCode r cal).toNat = if r = 0 ∨ r = 255 then r.toNat else (max 1 (min 254 ((r.toNat : Int) + cal))).toNat) ∧
  (∀ (c1 c2 c3 c4 : Byte) (ext : Bool) (s : State), s.lnk.startUp = false → s.acq.state = .stopped →
    s.acq.ctx = none → s.trg.held.pulse = false →
    let h := s.trg.held
    let upper := if h.slope = .fall then min 255 (h.level + h.hysteresis) else h.level
    let lower := if h.slope = .fall then h.level else h.level - h.hysteresis
    let fec := match s.fec.calStep with
      | none => s.fec
      | some k => if s.fec.settle = none ∧ s.fec.calCodes < 256 then
          { s.fec with calSum := s.fec.calSum + (#v[c1, c2, c3, c4][k.val / 13]'(by omega)).toNat
                       calCodes := s.fec.calCodes + 1 }
        else s.fec
    (∀ n : Channel, h.source = .channel n →
      let code := (correctCode #v[c1, c2, c3, c4][n] (liveCal n s)).toNat
      let rising := s.trg.high = false ∧ upper ≤ code
      let falling := s.trg.high = true ∧ code ≤ lower
      exec (.sampleCode c1 c2 c3 c4 ext) s = .next (if s.trg.seedPending then
        { s with now := s.now + 1, fec := fec, trg := { s.trg with seedPending := false, high := decide (upper ≤ code) } }
      else
        { s with now := s.now + 1, fec := fec, trg := { s.trg with
            high := if rising then true else if falling then false else s.trg.high
            count := if (rising ∧ h.slope ≠ .fall) ∨ (falling ∧ h.slope ≠ .rise) then s.trg.count + 1 else s.trg.count } })) ∧
    (h.source = .ext →
      let rising := s.trg.high = false ∧ ext = true
      let falling := s.trg.high = true ∧ ext = false
      exec (.sampleCode c1 c2 c3 c4 ext) s = .next (if s.trg.seedPending then
        { s with now := s.now + 1, fec := fec, trg := { s.trg with
            seedPending := false, high := ext, dac := if ext then lower else upper } }
      else
        { s with now := s.now + 1, fec := fec, trg := { s.trg with
            high := ext
            dac := if rising then lower else if falling then upper else s.trg.dac
            count := if (rising ∧ h.slope ≠ .fall) ∨ (falling ∧ h.slope ≠ .rise) then s.trg.count + 1 else s.trg.count } }))) ∧
  ∀ s : State,
    let old := s.trg.held
    let t := takeSettings s
    let new := t.trg.held
    let thresholds := old.slope ≠ new.slope ∨ old.level ≠ new.level ∨ old.hysteresis ≠ new.hysteresis
    let upper := if new.slope = .fall then min 255 (new.level + new.hysteresis) else new.level
    let lower := if new.slope = .fall then new.level else new.level - new.hysteresis
    new.source = recordSource s.setup ∧ new.pulse = decide (s.setup.get 97 = 1) ∧
    new.slope = (if s.setup.get 98 = 0 then .rise else if s.setup.get 98 = 1 then .fall else .either) ∧
    new.level = (s.setup.get 99).toNat ∧ new.hysteresis = (s.setup.get 100).toNat ∧ new.greater = decide (s.setup.get 101 = 1) ∧
    new.pulseLimit = (s.setup.get 102).toNat ∧ new.holdoff = (s.setup.get 103).toNat ∧
    new.gate1000 = decide (s.setup.get 105 = 1) ∧
    t.trg.high = s.trg.high ∧ t.trg.seedPending = (s.trg.seedPending || decide (old.source ≠ new.source)) ∧
    t.trg.dac = (if new.source ≠ .ext then s.trg.dac else if old.source ≠ .ext then upper
      else if thresholds then (if s.trg.high then lower else upper) else s.trg.dac) ∧
    t.trg.qualifier = (if old.source ≠ new.source ∨ old.pulse ≠ new.pulse ∨ thresholds then none else s.trg.qualifier) ∧
    (if old.source ≠ new.source ∨ old.pulse ≠ new.pulse ∨ old.slope ≠ new.slope ∨ old.gate1000 ≠ new.gate1000
     then t.trg.gateStart = s.now ∧ t.trg.count = 0
     else t.trg.gateStart = s.trg.gateStart ∧ t.trg.count = s.trg.count) ∧
    t.trg.result = s.trg.result ∧
    (∀ since, s.trg.holdoff = some since → t.trg.holdoff =
      if old.holdoff ≠ new.holdoff ∧ new.holdoff ≤ s.now - since then none else some since) ∧
    (s.trg.holdoff = none → t.trg.holdoff = none) ∧
    t = { s with trg := t.trg, fec := t.fec } ∧ (old.source = new.source → t.fec = s.fec) ∧ (new = old → t.trg = s.trg)

/-- R31, R48, R49, R52, R53, R61: SAMPLE_CODE in STOPPED with held type PULSE, for a channel and for EXT. A transition opens and closes
pulses by the table of R52; the pulse that it closes is a qualifying event exactly when its width, up to 4,294,967,295 ns, lies on the
side of pulse_limit that pulse_cond names, and a width equal to the limit qualifies under neither. The event is counted; nothing else
changes but the instant (log 2) and the DAC of EXT. What the comparator does with a closing transition holds in every state. -/
def Obligations.ClosingTransitionJudgesThePulse : Prop :=
  (∀ (code : Nat) (ext : Bool) (n : Channel) (q : OpenPulse) (s : State), s.trg.held.pulse = true →
    s.trg.held.source = .channel n → s.trg.seedPending = false → s.trg.qualifier = some q → s.trg.high = q.positive →
    (if q.positive then s.trg.held.slope ≠ .fall ∧ code ≤ lowerOf s.trg.held
     else s.trg.held.slope ≠ .rise ∧ upperOf s.trg.held ≤ code) →
    let w := min (s.now - q.opened) 4294967295
    let qualifies := if s.trg.held.greater then s.trg.held.pulseLimit < w else w < s.trg.held.pulseLimit
    comparatorStep code ext s = ({ s with trg := { s.trg with
        high := !s.trg.high
        qualifier := if s.trg.held.slope = .either then some ⟨!q.positive, s.now⟩ else none
        count := if qualifies then s.trg.count + 1 else s.trg.count } }, decide qualifies)) ∧
  ∀ (c1 c2 c3 c4 : Byte) (ext : Bool) (s : State), s.lnk.startUp = false → s.acq.state = .stopped → s.acq.ctx = none →
    s.fec.calStep = none → s.trg.held.pulse = true → s.trg.seedPending = false →
    let h := s.trg.held
    let upper := if h.slope = .fall then min 255 (h.level + h.hysteresis) else h.level
    let lower := if h.slope = .fall then h.level else h.level - h.hysteresis
    let after (rising falling : Bool) (dac : Nat) : State :=
      let closed := s.trg.qualifier.filter (fun q =>
        if q.positive then falling && decide (h.slope ≠ .fall) else rising && decide (h.slope ≠ .rise))
      let qualifies := closed.any (fun q =>
        let w := min (s.now - q.opened) 4294967295
        if h.greater then decide (h.pulseLimit < w) else decide (w < h.pulseLimit))
      { s with now := s.now + 1, trg := { s.trg with
          high := if rising then true else if falling then false else s.trg.high
          qualifier := if rising = true ∧ h.slope ≠ .fall then some ⟨true, s.now⟩
            else if falling = true ∧ h.slope ≠ .rise then some ⟨false, s.now⟩
            else if closed.isSome then none else s.trg.qualifier
          count := if qualifies then s.trg.count + 1 else s.trg.count
          dac := dac } }
    (∀ n : Channel, h.source = .channel n →
      let code := (correctCode #v[c1, c2, c3, c4][n] (liveCal n s)).toNat
      exec (.sampleCode c1 c2 c3 c4 ext) s =
        .next (after (!s.trg.high && decide (upper ≤ code)) (s.trg.high && decide (code ≤ lower)) s.trg.dac)) ∧
    (h.source = .ext → exec (.sampleCode c1 c2 c3 c4 ext) s = .next (after (!s.trg.high && ext) (s.trg.high && !ext)
      (if s.trg.high = false ∧ ext = true then lower else if s.trg.high = true ∧ ext = false then upper else s.trg.dac)))

/-- R30, R56, R60, R64, R156, R175, R176: the ends of timers whose end changes nothing but the timer, the toggles, and the start of a
backlight period with its duty. Each acts at its deadline (log 2). That the first backlight period starts as CMP is brought up, so
that the period after the k-th starts k × 32 µs later, is the model's choice (log 16). AUX shows what aux_mode names (R64). -/
def Obligations.TimersEndAtTheirDeadlines : Prop :=
  (∀ s : State, s.lnk.startUp = false →
    (∀ d, s.fec.settle = some d → s.acq.state ≠ .settling →
      exec .settleTimerExpiry s = .next { s with now := max s.now d, fec := { s.fec with settle := none } }) ∧
    (∀ since, s.trg.holdoff = some since →
      exec .holdoffEnd s = .next { s with now := max s.now (since + s.trg.held.holdoff), trg := { s.trg with holdoff := none } }) ∧
    (∀ d, s.trg.pulse = some d →
      exec .triggerPulseEnd s = .next { s with now := max s.now d, trg := { s.trg with pulse := none } }) ∧
    (∀ d, s.trg.indication = some d →
      exec .triggeredIndicationEnd s = .next { s with now := max s.now d, trg := { s.trg with indication := none } }) ∧
    exec .auxSquareWaveToggle s = .next { s with now := max s.now s.trg.squareNext, trg := { s.trg with
      squareHigh := !s.trg.squareHigh, squareNext := s.trg.squareNext + 500000 } } ∧
    exec .blinkToggle s = .next { s with now := max s.now s.pnl.blinkNext, pnl := { s.pnl with
      blinkOn := !s.pnl.blinkOn, blinkNext := s.pnl.blinkNext + 250000000 } } ∧
    exec .backlightPeriodStart s = .next { s with
      now := max s.now (s.cmp.broughtUp + s.cmp.periods * 32000)
      cmp := { s.cmp with periods := s.cmp.periods + 1, duty := if s.cmp.blanked then 0 else s.cmp.heldBacklight } } ∧
    ∀ b, s.pnl.beeper = some b →
      exec .beeperEnd s = .next { s with now := max s.now b.until_, pnl := { s.pnl with beeper := none } }) ∧
  ∀ s : State,
    (∀ tick, backlightHigh tick s = true ↔ tick < s.cmp.duty) ∧
    (s.trg.auxMode = none → auxOut s = false) ∧ (s.trg.auxMode = some 0 → auxOut s = s.trg.squareHigh) ∧
    (s.trg.auxMode = some 1 → auxOut s = s.trg.pulse.isSome) ∧ (s.trg.auxMode = some 2 → auxOut s = false) ∧
    (s.trg.auxMode = some 3 → auxOut s = true)

/-- R61, R62, R63: a gate's end makes the running count the result and starts the next gate; an unread result is overwritten with
COUNTER_OVERRUN, which is active while the overrun flag is set. That its cause detail is the length of the gate that ends, and not
that of the result it overwrites, is the model's choice (log 17). COUNTER_READ answers with the result, and then marks it read and
clears the overrun flag, with which COUNTER_OVERRUN becomes inactive. -/
def Obligations.GateEndLatchesTheCount : Prop :=
  (∀ s : State, s.lnk.startUp = false →
    ∃ t, exec .gateEnd s = .next t ∧
      t.trg = { s.trg with
        result := ⟨true, s.trg.count, s.trg.held.gate1000, false,
          s.trg.result.overrun || (s.trg.result.valid && !s.trg.result.read)⟩
        gateStart := s.trg.gateStart + (if s.trg.held.gate1000 then 1000000000 else 100000000), count := 0 } ∧
      (if s.trg.result.valid = true ∧ s.trg.result.read = false
       then LatchedNow .counterOverrun (.gate s.trg.held.gate1000) s t
       else t.lnk = s.lnk) ∧
      condActive .counterOverrun t = (s.trg.result.overrun || (s.trg.result.valid && !s.trg.result.read))) ∧
  ∀ (tag : Byte) (s : State), CanTake 0x36 tag [] s →
    ∃ t, exec (.counterRead tag []) s = .next (answered 0x36 tag .ok
      (.counter s.trg.result.valid (if s.trg.result.valid then s.trg.result.count else 0)
        (if s.trg.result.valid then s.trg.result.gate1000 else s.trg.held.gate1000) s.trg.result.overrun) t) ∧
      t = { taken s with trg := { s.trg with result := { s.trg.result with read := true, overrun := false } } } ∧
      condActive .counterOverrun t = false

/-- R58, R59, R60, R96, R104, R105: a forced trigger, by FORCE in READY or by the expiry of the auto-wait timer, takes ACQ to
POST_FILL with the FORCED mark and starts the two indications; it leaves the holdoff counter and the event counter alone. FORCE in
PRE_FILL is kept, and elsewhere refused. With P = N there is nothing to collect: the segment completes at the trigger. That an expiry
whose deadline has passed falls at the present instant is the model's choice (log 2). -/
def Obligations.ForcedTriggersEnterPostFill : Prop :=
  let forcedAt (now : Instant) (c : Capture) (s : State) : State :=
    { s with now := now
             acq := { s.acq with state := .postFill, ctx := some { c with trigger := some now, forced := true } }
             trg := { s.trg with autoWait := none, pulse := some (now + 100), indication := some (now + 100000000) } }
  (∀ (tag : Byte) (s : State), CanTake 0x33 tag [] s →
    (∀ c, s.acq.state = .ready → s.acq.ctx = some c → c.p + c.post < c.n →
      exec (.force tag []) s = .next (answered 0x33 tag .ok .empty (forcedAt s.now c (taken s)))) ∧
    (s.acq.state = .preFill →
      exec (.force tag []) s =
        .next (answered 0x33 tag .ok .empty { taken s with acq := { s.acq with forcePending := true } })) ∧
    (s.acq.state ≠ .ready → s.acq.state ≠ .preFill →
      exec (.force tag []) s = .next (answered 0x33 tag .badState .empty (taken s))) ∧
    ∀ (c : Capture) (r : SegRec) (start : Instant), s.acq.state = .ready → s.acq.ctx = some c → findSeg c.seq s = some r →
      c.n ≤ c.p + c.post → s.acq.singlePending = true → s.acq.runStart = some start → s.mem.pendingAlloc = none →
      ∃ t, exec (.force tag []) s = .next t ∧ t.acq.state = .stopped ∧ t.acq.ctx = none ∧ t.trg.autoWait = none ∧
        t.trg.pulse = some (s.now + 100) ∧ t.acq.lastSeq = c.seq ∧
        t.lnk.outbound.getLast? = some (.reply ⟨tag, 0x33, .ok, .empty⟩) ∧
        ∃ done, findSeg c.seq t = some done ∧ done.state = .complete ∧ done.forced = true ∧ done.pages = r.pages ∧
          done.triggerTime = s.now - start ∧ done.origin = if c.p = 0 then 0 else c.ring % c.p) ∧
  ∀ (s : State) (c : Capture) (d : Instant), s.lnk.startUp = false → s.trg.autoWait = some d → s.acq.state = .ready →
    s.acq.ctx = some c → c.p + c.post < c.n → exec .autoWaitExpiry s = .next (forcedAt (max s.now d) c s)

/-! ### Acquisition control -/

/-- R92, R93, R94: RUN and SINGLE, by the state of ACQ. A run start clears the run bookkeeping, sets the single-pending flag for
SINGLE alone, leaves no COMPLETE record in history (R77) and an empty render queue, and arms. -/
def Obligations.RunStartsFromStopped : Prop :=
  ∀ (single : Bool) (tag : Byte) (s : State),
    let code : Byte := if single then 0x32 else 0x30
    let command : Instr := if single then .single tag [] else .run tag []
    CanTake code tag [] s →
    (s.acq.state = .calibrating → exec command s = .next (answered code tag .busy .empty (taken s))) ∧
    (s.acq.state = .stopped → s.fec.locked = false →
      exec command s = .next (answered code tag .badState .empty (taken s))) ∧
    (acqRunning s.acq.state = true →
      exec command s = .next (answered code tag .ok .empty
        { taken s with acq := { s.acq with singlePending := s.acq.singlePending || single } })) ∧
    (s.acq.state = .stopped → s.fec.locked = true → s.mem.pendingAlloc = none → (s.mem.table.map (·.seq)).Nodup →
      ∃ t, exec command s = .next t ∧ t.acq.runCount = 0 ∧ t.acq.lastSeq = 0 ∧ t.acq.singlePending = single ∧
        t.acq.runStart = some s.now ∧ acqRunning t.acq.state = true ∧
        (t.acq.state = .settling ↔ s.fec.settle.isSome = true) ∧ t.trg.holdoff = none ∧ t.rnd.queue = [] ∧
        (∀ r ∈ t.mem.table, r.state ≠ .complete) ∧
        t.lnk.outbound.getLast? = some (.reply ⟨tag, code, .ok, .empty⟩))

/-- R95, R109, R46, R38: STOP, by the state of ACQ. It ends a run, discarding the segment in flight, with which TRG takes a held
change of its settings, or withdrawing a pending allocation, or aborts a calibration; in STOPPED it does nothing. -/
def Obligations.StopEndsTheRun : Prop :=
  ∀ (tag : Byte) (s : State), CanTake 0x31 tag [] s →
    (s.acq.state = .stopped → exec (.stop tag []) s = .next (answered 0x31 tag .ok .empty (taken s))) ∧
    (s.acq.state ≠ .stopped → ∃ t, exec (.stop tag []) s = .next t ∧ t.acq.state = .stopped ∧
      t.acq.singlePending = false ∧ t.acq.forcePending = false ∧ t.acq.runCount = s.acq.runCount ∧
      t.acq.lastSeq = s.acq.lastSeq ∧ t.fec.live = s.fec.live ∧
      t.lnk.outbound.getLast? = some (.reply ⟨tag, 0x31, .ok, .empty⟩) ∧
      (s.acq.state = .calibrating → t.fec.calStep = none) ∧
      (s.acq.state = .starved → t.mem.pendingAlloc = none) ∧
      (s.acq.state ∈ [AcqState.preFill, .ready, .postFill] → t.acq.ctx = none ∧ t.trg.autoWait = none ∧
        t.trg.held = (if s.trg.changeHeld then settingsOf s.setup else s.trg.held) ∧ t.trg.changeHeld = false))

/-- R101 to R106, R48 to R54, R56, R57, R60: SAMPLE_CODE while a segment fills. In PRE_FILL, and in READY without an accepted trigger,
the corrected code of every captured channel goes to ring position W mod P; in POST_FILL to stored position P + (post writes). No
other byte of sample memory changes, and between group starts nothing is stored. When W reaches P, ACQ enters READY: TRG takes a held
change, the auto-wait timer starts in AUTO, and a pending force is taken at that instant (to which side the group written there
belongs is log 17). A qualifying event in READY with the holdoff counter IDLE, of type EDGE or PULSE and from a channel or EXT, is
accepted: the group start at its instant is stored at position P, and with P = N the segment completes at the event. -/
def Obligations.PostFillStoresEachGroup : Prop :=
  ∀ (c1 c2 c3 c4 : Byte) (ext : Bool) (c : Capture) (r : SegRec) (s : State), s.lnk.startUp = false →
    s.acq.ctx = some c → findSeg c.seq s = some r → Store.wf s.mem.dram = true →
    let next := if c.phase + 1 < c.d then c.phase + 1 else 0
    let codeOf (n : Channel) : Byte := correctCode #v[c1, c2, c3, c4][n] (liveCal n s)
    let h := s.trg.held
    let upper := if h.slope = .fall then min 255 (h.level + h.hysteresis) else h.level
    let lower := if h.slope = .fall then h.level else h.level - h.hysteresis
    let rising : Bool := !s.trg.seedPending && !s.trg.high && (match h.source with
      | .channel n => decide (upper ≤ (codeOf n).toNat)
      | .ext => ext)
    let falling : Bool := !s.trg.seedPending && s.trg.high && (match h.source with
      | .channel n => decide ((codeOf n).toNat ≤ lower)
      | .ext => !ext)
    let hit : Bool := if h.pulse then
        s.trg.qualifier.any (fun q =>
          let w := min (s.now - q.opened) 4294967295
          (if q.positive then falling && decide (h.slope ≠ .fall) else rising && decide (h.slope ≠ .rise)) &&
            (if h.greater then decide (h.pulseLimit < w) else decide (w < h.pulseLimit)))
      else (rising && decide (h.slope ≠ .fall)) || (falling && decide (h.slope ≠ .rise))
    let storedAt (q : Nat) (t : State) : Prop :=
      t.mem = { s.mem with dram := t.mem.dram } ∧
      (∀ a, (∀ n : Channel, c.set[n] = true → positionAddr r.pages[n] q ≠ some a) →
        storeRead t.mem.dram a = storeRead s.mem.dram a) ∧
      ∀ (n : Channel) (a : Nat), c.set[n] = true → positionAddr r.pages[n] q = some a →
        (∀ m : Channel, c.set[m] = true → m ≠ n → positionAddr r.pages[m] q ≠ some a) →
        storeRead t.mem.dram a = codeOf n
    (s.acq.state = .postFill → c.p + c.post + (if c.phase = 0 then 1 else 0) < c.n →
      ∃ t, exec (.sampleCode c1 c2 c3 c4 ext) s = .next t ∧ t.acq.state = .postFill ∧ t.now = s.now + 1 ∧
        (c.phase ≠ 0 → t.mem = s.mem ∧ t.acq.ctx = some { c with phase := next }) ∧
        (c.phase = 0 → storedAt (c.p + c.post) t ∧ ∃ notes, t.acq.ctx = some { c with
          phase := next, post := c.post + 1, clips := notes })) ∧
    ((s.acq.state = .preFill ∧ (c.phase ≠ 0 ∨ c.ring + 1 < c.p)) ∨
        (s.acq.state = .ready ∧ (s.trg.holdoff.isSome = true ∨ hit = false)) →
      ∃ t, exec (.sampleCode c1 c2 c3 c4 ext) s = .next t ∧ t.acq.state = s.acq.state ∧ t.now = s.now + 1 ∧
        (c.phase ≠ 0 ∨ c.p = 0 → t.mem = s.mem ∧ t.acq.ctx = some { c with phase := next }) ∧
        (c.phase = 0 → c.p ≠ 0 → storedAt (c.ring % c.p) t ∧ ∃ notes, t.acq.ctx = some { c with
          phase := next, ring := c.ring + 1, clips := notes })) ∧
    (s.acq.state = .preFill → c.phase = 0 → c.ring + 1 = c.p → c.p + c.post < c.n ∨ s.acq.forcePending = false →
      ∃ (t : State) (notes : Vector (List Nat) 4), exec (.sampleCode c1 c2 c3 c4 ext) s = .next t ∧ storedAt c.ring t ∧
        t.trg.held = (if s.trg.changeHeld then settingsOf s.setup else s.trg.held) ∧ t.trg.changeHeld = false ∧
        t.acq.forcePending = false ∧ t.lnk = s.lnk ∧ t.setup = s.setup ∧
        if s.acq.forcePending then
          t.acq.state = .postFill ∧ t.trg.autoWait = none ∧ t.trg.pulse = some (s.now + 100) ∧
          t.trg.indication = some (s.now + 100000000) ∧
          t.acq.ctx = some { c with phase := next, ring := c.p, clips := notes, trigger := some s.now, forced := true }
        else
          t.acq.state = .ready ∧ t.acq.ctx = some { c with phase := next, ring := c.p, clips := notes } ∧
          t.trg.autoWait =
            (if s.setup.get 83 = 0 then some (s.now + (s.setup.get 104).toNat * 1000000) else s.trg.autoWait)) ∧
    (s.acq.state = .ready → s.trg.holdoff = none → hit = true →
      c.p + c.post + (if c.phase = 0 then 1 else 0) < c.n →
      ∃ t, exec (.sampleCode c1 c2 c3 c4 ext) s = .next t ∧ t.acq.state = .postFill ∧
        t.trg = { s.trg with
          high := rising, count := s.trg.count + 1, autoWait := none
          dac := if h.source = .ext then (if rising then lower else upper) else s.trg.dac
          qualifier := if h.pulse then (if h.slope = .either then some ⟨rising, s.now⟩ else none) else s.trg.qualifier
          holdoff := if h.holdoff = 0 then none else some s.now
          pulse := some (s.now + 100), indication := some (s.now + 100000000) } ∧
        (c.phase ≠ 0 → t.mem = s.mem ∧
          t.acq.ctx = some { c with phase := next, trigger := some s.now, forced := false }) ∧
        (c.phase = 0 → storedAt (c.p + c.post) t ∧ ∃ notes, t.acq.ctx = some { c with
          phase := next, post := c.post + 1, clips := notes, trigger := some s.now, forced := false })) ∧
    ∀ start : Instant, s.acq.state = .ready → s.trg.holdoff = none → hit = true → c.n ≤ c.p + c.post →
      s.acq.singlePending = true → s.acq.runStart = some start → s.mem.pendingAlloc = none →
      ∃ t, exec (.sampleCode c1 c2 c3 c4 ext) s = .next t ∧ t.acq.state = .stopped ∧ t.acq.ctx = none ∧
        t.acq.lastSeq = c.seq ∧ t.mem.dram = s.mem.dram ∧ t.trg.autoWait = none ∧ t.trg.pulse = some (s.now + 100) ∧
        t.trg.indication = some (s.now + 100000000) ∧
        ∃ done, findSeg c.seq t = some done ∧ done.state = .complete ∧ done.forced = false ∧ done.pages = r.pages ∧
          done.triggerTime = s.now - start ∧ done.origin = if c.p = 0 then 0 else c.ring % c.p

/-- R105, R106, R107, R108, R98: the last post-trigger write. The record becomes COMPLETE with its trigger time, marks and origin,
TRG takes a held change, the run count advances, and SEGMENT is offered with notify_segments ON. A single run ends with SINGLE_DONE,
and a run whose count has reached stop_after with STOP_AFTER; any other run arms again, in SETTLING while the settle timer runs, and
otherwise with a new segment where the pool and the table have room. -/
def Obligations.LastPostWriteCompletesTheSegment : Prop :=
  ∀ (c1 c2 c3 c4 : Byte) (ext : Bool) (c : Capture) (r : SegRec) (start : Instant) (s : State), s.lnk.startUp = false →
    s.acq.state = .postFill → s.acq.ctx = some c → findSeg c.seq s = some r → c.phase = 0 →
    c.p + c.post + 1 = c.n → s.acq.runStart = some start → s.mem.pendingAlloc = none →
    let stopAfter := s.acq.singlePending = false ∧ 0 < s.setup.get 84 ∧
      s.setup.get 84 ≤ (min (s.acq.runCount + 1) 4294967295 : Nat)
    let goesOn := s.acq.singlePending = false ∧ ¬ (0 < s.setup.get 84 ∧
      s.setup.get 84 ≤ (min (s.acq.runCount + 1) 4294967295 : Nat))
    ∃ t, exec (.sampleCode c1 c2 c3 c4 ext) s = .next t ∧
      t.acq.runCount = min (s.acq.runCount + 1) 4294967295 ∧ t.acq.lastSeq = c.seq ∧ t.acq.runStart = some start ∧
      t.trg.held = (if s.trg.changeHeld then settingsOf s.setup else s.trg.held) ∧ t.trg.changeHeld = false ∧
      (s.acq.singlePending = true ∨ stopAfter → t.acq.state = .stopped ∧ t.acq.singlePending = false ∧ t.acq.ctx = none ∧
        (2 ≤ freeCount s → (∀ q f m k, Record.report (.segment q f m k) ∉ s.lnk.outbound) →
          ∃ done, findSeg c.seq t = some done ∧ t.lnk.outbound = s.lnk.outbound ++
            (if s.setup.get 86 = 1 then [.report (.segment c.seq c.forced done.clipped t.acq.runCount)] else []) ++
            [.report (.acqState .stopped .postFill (if s.acq.singlePending then .singleDone else .stopAfter)
              t.acq.runCount c.seq)])) ∧
      (goesOn → s.fec.settle.isSome = true → s.trg.changeHeld = false → t.acq.state = .settling ∧ t.acq.ctx = none) ∧
      (goesOn → s.fec.settle = none → s.trg.changeHeld = false → s.setup.pagesNeeded ≤ s.mem.pool.length →
        s.mem.table.length < 1024 → segmentOpen t.acq.state = true ∧ ∃ c', t.acq.ctx = some c' ∧ c'.seq ≠ c.seq) ∧
      (s.acq.singlePending = true ∨ stopAfter ∨ s.fec.settle.isSome = true ∨
          (s.setup.pagesNeeded ≤ s.mem.pool.length ∧ s.mem.table.length < 1024) →
        ∃ done, findSeg c.seq t = some done ∧ done.state = .complete ∧ done.pages = r.pages ∧ done.n = r.n ∧
          done.forced = c.forced ∧ done.triggerTime = c.trigger.getD 0 - start ∧
          done.origin = (if c.p = 0 then 0 else c.ring % c.p))

/-! ### Sample memory -/

/-- R98, R99, R102, R72, R70: SETTLE_TIMER_EXPIRY in SETTLING (its instant is log 2's). Where the pool and the table have room, the
capture parameters are read from the setup, the pages come from the head of the pool, the FILLING record joins the end of the table
under a seq that no record bears, and ACQ enters PRE_FILL, or READY with P = 0. Where they have none, the oldest COMPLETE record
without pins is removed first; where that gives no room, R73, R100: the request is kept, ACQ enters STARVED and STARVED is latched.
A release of pages, here by CLEAR_REF, retries it: ACQ enters PRE_FILL where it succeeds, and it stays pending where it fails. -/
def Obligations.SettledFrontEndAllocatesASegment : Prop :=
  (∀ (d : Instant) (s : State), s.lnk.startUp = false → s.fec.settle = some d → s.acq.state = .settling →
    let k := s.setup.pagesNeeded
    (k ≤ s.mem.pool.length → s.mem.table.length < 1024 → s.setup.p ≠ 0 ∨ (s.acq.forcePending = false ∧ s.trg.changeHeld = false) →
      ∃ (t : State) (r : SegRec), exec .settleTimerExpiry s = .next t ∧ t.fec.settle = none ∧
        t.mem.table = s.mem.table ++ [r] ∧ t.mem.pool = s.mem.pool.drop k ∧ t.mem.dram = s.mem.dram ∧
        segPages r = s.mem.pool.take k ∧
        (∀ n : Channel, r.pages[n].length = if s.setup.enabled n then pagesOf s.setup.n else 0) ∧
        r.state = .filling ∧ r.n = s.setup.n ∧ r.p = s.setup.p ∧ r.generation = s.generation ∧ r.set = s.setup.channelSet ∧
        (∀ x ∈ s.mem.table, x.seq ≠ r.seq) ∧
        ((∀ x ∈ s.mem.table, x.seq ≠ s.mem.seqCounter) → r.seq = s.mem.seqCounter) ∧
        t.acq.ctx = some ⟨r.seq, s.setup.channelSet, s.setup.n, sampleInterval (s.setup.get 81).toNat, s.setup.p, 0, 0, 0,
          none, false, .replicate 4 []⟩ ∧
        (s.setup.p ≠ 0 → t.acq.state = .preFill) ∧
        (s.setup.p = 0 → t.acq.state = .ready ∧ t.trg.autoWait =
          if s.setup.get 83 = 0 then some (max s.now d + (s.setup.get 104).toNat * 1000000) else s.trg.autoWait)) ∧
    (∀ (a rest : List SegRec) (r : SegRec), s.mem.table = a ++ r :: rest →
      (∀ x ∈ a, x.seq ≠ r.seq ∧ (x.state ≠ .complete ∨ unpinned x = false)) → r.state = .complete → unpinned r = true →
      s.mem.pool.length < k ∨ s.mem.table.length = 1024 → s.mem.table.length ≤ 1024 →
      k ≤ s.mem.pool.length + (segPages r).length →
      ∃ (t : State) (new : SegRec), exec .settleTimerExpiry s = .next t ∧ t.mem.table = a ++ rest ++ [new] ∧
        new.state = .filling ∧ t.mem.pool = (s.mem.pool ++ sortAsc (segPages r)).drop k ∧ segmentOpen t.acq.state = true) ∧
    (s.mem.pool.length < k ∨ 1024 ≤ s.mem.table.length → (∀ x ∈ s.mem.table, x.state = .complete → unpinned x = false) →
      ∃ t, exec .settleTimerExpiry s = .next t ∧ t.acq = { s.acq with state := .starved } ∧
        t.mem = { s.mem with pendingAlloc := some ⟨s.setup.channelSet, s.setup.n, (s.setup.get 81).toNat, s.setup.p,
          .ofFn (fun n => s.setup.scale n), s.generation⟩ } ∧
        LatchedNow .starved (.pages k) s t ∧ condActive .starved t = true)) ∧
  ∀ (tag : Byte) (n : Fin 4) (q : CaptureRequest) (s : State),
    CanTake 0x41 tag [BitVec.ofNat 8 (n.val + 1)] s → s.acq.state = .starved → s.mem.pendingAlloc = some q →
    s.mem.refs[n].state = .valid → s.mem.refs[n].pinRender = false → s.mem.refs[n].pinTransfer = false →
    s.mem.refs[n].pages ≠ [] → s.rnd.pass.isSome = true →
    let need := (channels.filter (fun c => q.set[c])).length * pagesOf q.n
    let pool := s.mem.pool ++ sortAsc s.mem.refs[n].pages
    (need ≤ pool.length → s.mem.table.length < 1024 → q.p ≠ 0 →
      ∃ (t : State) (seq : Nat), exec (.clearRef tag [BitVec.ofNat 8 (n.val + 1)]) s = .next (answered 0x41 tag .ok .empty t) ∧
        t.acq = { s.acq with state := .preFill, ctx := some ⟨seq, q.set, q.n, sampleInterval q.decimation, q.p, 0, 0, 0, none,
          false, .replicate 4 []⟩ } ∧
        t.mem.pendingAlloc = none ∧ t.mem.pool = pool.drop need ∧ condActive .starved t = false ∧
        condEntry .starved t = condEntry .starved s) ∧
    (pool.length < need ∨ 1024 ≤ s.mem.table.length → (∀ x ∈ s.mem.table, x.state = .complete → unpinned x = false) →
      ∃ t, exec (.clearRef tag [BitVec.ofNat 8 (n.val + 1)]) s = .next (answered 0x41 tag .ok .empty t) ∧ t.acq = s.acq ∧
        t.mem.pendingAlloc = some q ∧ t.mem.pool = pool ∧ t.mem.table = s.mem.table)

/-- R80, R81, R82, R83, R84: SAVE_REF, by the first check of R80's table that fails, and CLEAR_REF, by the state of the slot. An
accepted SAVE_REF pins its source COPY and answers with its seq and need; the copy waits for a memory correction where the setup no
longer fits the allowance, and otherwise takes its pages from the head of the pool, or ends with NO_ROOM where the pool is short and
nothing can be reclaimed. Sample memory and every other record and slot stay as they were. A cleared slot's pages are released unless
they are pinned. -/
def Obligations.ReferenceSlotsAreFilledAndCleared : Prop :=
  (∀ (tag slotByte chByte : Byte) (source : Option Nat) (s : State), (∀ q, source = some q → q < 4294967296) →
    let form : List Byte := match source with
      | none => [0]
      | some q => 1 :: beBytes 4 q
    let payload : List Byte := [slotByte] ++ form ++ [chByte]
    let refused (st : Status) : Prop := exec (.saveRef tag payload) s = .next (answered 0x40 tag st .empty (taken s))
    CanTake 0x40 tag payload s →
    (¬ (1 ≤ slotByte.toNat ∧ slotByte.toNat ≤ 4 ∧ 1 ≤ chByte.toNat ∧ chByte.toNat ≤ 4) → refused .badArg) ∧
    ∀ (n : Fin 4) (ch : Channel), slotByte.toNat = n.val + 1 → chByte.toNat = ch.val + 1 →
      (s.mem.refs[n].state = .copying → refused .badState) ∧
      (s.mem.refs[n].state ≠ .copying → (∃ m : Fin 4, s.mem.refs[m].state = .copying) → refused .busy) ∧
      ((∀ m : Fin 4, s.mem.refs[m].state ≠ .copying) → s.mem.refs[n].state = .empty → s.mem.refs[n].pages ≠ [] →
        refused .badState) ∧
      ((∀ m : Fin 4, s.mem.refs[m].state ≠ .copying) → (s.mem.refs[n].state = .empty → s.mem.refs[n].pages = []) →
        ((source = none → ∀ r ∈ s.mem.table, r.state ≠ .complete) →
          (∀ q, source = some q → ∀ r, findSeg q s = some r → r.state ≠ .complete) → refused .notFound) ∧
        ∀ r : SegRec, findSeg r.seq s = some r → r.state = .complete →
          (source = none → ∃ a b, s.mem.table = a ++ r :: b ∧ ∀ x ∈ b, x.state ≠ .complete) →
          (∀ q, source = some q → q = r.seq) →
          let need := ceilDiv r.n 4096
          let k := s.setup.pagesNeeded
          let good := 2048 - s.mem.bad.length
          let others := (channels.map (fun m => if m = n ∨ s.mem.refs[m].state = .empty then 0 else s.mem.refs[m].pages.length)).sum
          let own := s.mem.refs[n].pages.length
          let copied (phase : CopyPhase) (pages : List Nat) : RefSlot := { s.mem.refs[n] with
            state := .copying, copy := some ⟨phase, ⟨ch, r.seq, r.n, r.decimation, r.scales[ch]⟩, need, pages⟩ }
          let pinned (b : Bool) : List SegRec :=
            s.mem.table.map (fun x => if x.seq = r.seq then { x with pins := { x.pins with copy := b } } else x)
          let accepted (mem : Mem) : Prop := exec (.saveRef tag payload) s =
            .next (answered 0x40 tag .accepted (.saveRef r.seq need) { taken s with mem := mem })
          (r.set[ch] = false → refused .badState) ∧
          (r.set[ch] = true → good - others < need + k ∨ good - others < need + own → refused .noRoom) ∧
          (r.set[ch] = true → ¬ (good - others < need + k ∨ good - others < need + own) →
            (good - (others + (own + need)) < k → accepted { s.mem with
              refs := s.mem.refs.set n (copied .waitSetup []), table := pinned true }) ∧
            (k ≤ good - (others + (own + need)) → need ≤ s.mem.pool.length → accepted { s.mem with
              refs := s.mem.refs.set n (copied .move (s.mem.pool.take need)), pool := s.mem.pool.drop need
              table := pinned true }) ∧
            (k ≤ good - (others + (own + need)) → s.mem.pool.length < need → s.mem.pendingAlloc = none →
              (∀ x ∈ s.mem.table, x.seq ≠ r.seq → x.state = .complete → unpinned x = false) →
              exec (.saveRef tag payload) s = .next { taken s with
                mem := { s.mem with
                  refs := s.mem.refs.set n { s.mem.refs[n] with
                    state := if s.mem.refs[n].contents.isSome then .valid else .empty, copy := none }
                  table := pinned false }
                lnk := { (taken s).lnk with outbound := s.lnk.outbound ++
                  [.reply ⟨tag, 0x40, .accepted, .saveRef r.seq need⟩, .report (.refDone n true r.seq ch)] } })))) ∧
  ∀ (tag slotByte : Byte) (s : State), CanTake 0x41 tag [slotByte] s →
    (¬ (1 ≤ slotByte.toNat ∧ slotByte.toNat ≤ 4) →
      exec (.clearRef tag [slotByte]) s = .next (answered 0x41 tag .badArg .empty (taken s))) ∧
    ∀ n : Fin 4, slotByte.toNat = n.val + 1 →
      let pinned := s.mem.refs[n].pinRender = true ∨ s.mem.refs[n].pinTransfer = true
      let cleared : RefSlot := { s.mem.refs[n] with
        state := .empty, contents := none, pages := if pinned then s.mem.refs[n].pages else [] }
      let pool := if pinned then s.mem.pool else s.mem.pool ++ sortAsc s.mem.refs[n].pages
      (s.mem.refs[n].state = .empty → exec (.clearRef tag [slotByte]) s = .next (answered 0x41 tag .ok .empty (taken s))) ∧
      (s.mem.refs[n].state = .copying → exec (.clearRef tag [slotByte]) s = .next (answered 0x41 tag .badState .empty (taken s))) ∧
      (s.mem.refs[n].state = .valid → s.mem.pendingAlloc = none →
        (s.rnd.pass.isSome = true → exec (.clearRef tag [slotByte]) s = .next (answered 0x41 tag .ok .empty { taken s with
          mem := { s.mem with refs := s.mem.refs.set n cleared, pool := pool }, rnd := { s.rnd with redraw := true } })) ∧
        (s.rnd.pass = none → ∃ t p, exec (.clearRef tag [slotByte]) s = .next (answered 0x41 tag .ok .empty t) ∧
          t.mem.refs[n] = cleared ∧ pool <+: t.mem.pool ∧ t.mem.dram = s.mem.dram ∧ t.setup = s.setup ∧ t.acq = s.acq ∧
          t.rnd.pass = some p ∧ p.kind = .redraw ∧ t.rnd.redraw = false ∧ p.refs[n] = none))

/-- R69, R82, R83, R85: COPY_END. Every logical sample of the source stands in the copy list at its own stored position, and no byte
outside the copy list's pages has changed; an unpinned slot becomes VALID with the copy as its current list and REF_DONE is reported,
and a pinned one waits for its last pin. The release of that pin, here the TRANSFER pin at the end of an aborted transfer, completes
the swap: the old list is released, and the redraw follows. -/
def Obligations.CopyEndFillsTheSlot : Prop :=
  (∀ (n : Fin 4) (c : RefCopy) (r : SegRec) (s : State), s.lnk.startUp = false → copyingSlot s = some n →
    s.mem.refs[n].copy = some c → c.phase = .move → findSeg c.contents.seq s = some r → Store.wf s.mem.dram = true →
    c.pages.Nodup → c.contents.n ≤ 4096 * c.pages.length →
    (∀ p ∈ c.pages, p ∉ r.pages[c.contents.channel]) →
    ∃ t, exec .copyEnd s = .next t ∧
      (∀ i, i < c.contents.n →
        readPosition t.mem.dram c.pages i = segmentSample s.mem.dram r c.contents.channel i) ∧
      (∀ a, (∀ p ∈ c.pages, a / 4096 ≠ p) → storeRead t.mem.dram a = storeRead s.mem.dram a) ∧
      (if s.mem.refs[n].pinRender = true ∨ s.mem.refs[n].pinTransfer = true
       then ∃ d, t.mem.refs[n].copy = some d ∧ d.phase = .waitUnpin ∧ t.mem.refs[n].state = .copying
       else t.mem.refs[n].state = .valid ∧ t.mem.refs[n].contents = some c.contents ∧ t.mem.refs[n].pages = c.pages ∧
         t.mem.refs[n].copy = none ∧ t.rnd.pass.isSome = true ∧
         (1 ≤ freeCount s → s.mem.pendingAlloc = none → t.lnk.outbound = s.lnk.outbound ++
           [.report (.refDone n false c.contents.seq c.contents.channel)]))) ∧
  ∀ (n : Fin 4) (c : RefCopy) (x : XferContext) (s : State), s.lnk.startUp = false → s.xfr.state = .reading →
    s.xfr.ctx = some x → x.source = .reference n → x.abortPending = true → s.mem.refs[n].pinTransfer = true →
    s.mem.refs[n].pinRender = false → s.mem.refs[n].state = .copying → s.mem.refs[n].copy = some c → c.phase = .waitUnpin →
    s.mem.pendingAlloc = none →
    ∃ t, exec .chunkReadEnd s = .next t ∧ t.xfr.state = .ending ∧ t.mem.refs[n].state = .valid ∧
      t.mem.refs[n].contents = some c.contents ∧ t.mem.refs[n].pages = c.pages ∧ t.mem.refs[n].copy = none ∧
      t.mem.refs[n].pinTransfer = false ∧ s.mem.pool ++ sortAsc s.mem.refs[n].pages <+: t.mem.pool ∧
      t.mem.dram = s.mem.dram ∧ t.rnd.pass.isSome = true ∧ (s.rnd.pass.isSome = true → t.rnd.redraw = true) ∧
      (1 ≤ freeCount s → t.lnk.outbound = s.lnk.outbound ++
        [.report (.refDone n false c.contents.seq c.contents.channel)])

/-! ### The renderer -/

/-- R128 to R134: the arithmetic of a drawing. The effective window lies inside the record. Where it holds at least 700 samples, the
columns compress it: column j covers the samples from its first to its last, at least one, floor(L / 700) or one more; consecutive
columns meet; together they cover exactly the window; and a column's min and max codes are the lowest and highest code among its
samples. Below 700 each column holds one sample, and every sample is held by some column. A code is mapped to its row, clamped and
marked; a column's rows are those of its two codes; and the drawn span is the unextended one, extended in VECTORS mode to meet the
column before. -/
def Obligations.CompressedColumnsCoverTheWindow : Prop :=
  (∀ (start span n : Nat), windowSpan span n = min span n ∧ windowStart start span n = min start (n - min span n)) ∧
  (∀ (start span n : Nat), 700 ≤ windowSpan span n →
    let size := windowSpan span n
    columnFirst start span n 0 = windowStart start span n ∧
    columnLast start span n 699 + 1 = windowStart start span n + size ∧
    (∀ j, j < 700 →
      columnFirst start span n j = windowStart start span n + j * size / 700 ∧
      columnLast start span n j + 1 = columnFirst start span n (j + 1) ∧
      columnFirst start span n j ≤ columnLast start span n j ∧
      (columnLast start span n j + 1 - columnFirst start span n j = size / 700 ∨
        columnLast start span n j + 1 - columnFirst start span n j = size / 700 + 1)) ∧
    ∀ (code : Nat → Nat) (j : Nat), j < 700 → (∀ i, code i ≤ 255) →
      let cs := columnCodes code start span n j
      (∀ i, columnFirst start span n j ≤ i → i ≤ columnLast start span n j → minCodes cs ≤ code i ∧ code i ≤ maxCodes cs) ∧
      (∃ i, columnFirst start span n j ≤ i ∧ i ≤ columnLast start span n j ∧ code i = minCodes cs) ∧
      ∃ i, columnFirst start span n j ≤ i ∧ i ≤ columnLast start span n j ∧ code i = maxCodes cs) ∧
  (∀ (start span n : Nat), 1 ≤ windowSpan span n → windowSpan span n < 700 →
    let size := windowSpan span n
    (∀ j, j < 700 → columnFirst start span n j = windowStart start span n + j * size / 700 ∧
      columnLast start span n j = columnFirst start span n j ∧
      columnFirst start span n j < windowStart start span n + size) ∧
    (∀ i, i < size → ∃ j, j < 700 ∧ columnFirst start span n j = windowStart start span n + i) ∧
    ∀ (code : Nat → Nat) (j : Nat), j < 700 → (∀ i, code i ≤ 255) →
      minCodes (columnCodes code start span n j) = code (columnFirst start span n j) ∧
      maxCodes (columnCodes code start span n j) = code (columnFirst start span n j)) ∧
  (∀ (lo hi : Nat) (fine position : Int) (invert : Bool), lo ≤ hi → hi ≤ 255 → 0 ≤ fine →
    let row (c : Nat) : Int := 200 - (2 * ((if invert then 255 - (c : Int) else (c : Int)) - 128) * fine / 64 + position)
    let e := columnEntry lo hi fine position invert
    let upper := row (if invert then lo else hi)
    let lower := row (if invert then hi else lo)
    e.valid = true ∧ e.minCode = lo ∧ e.maxCode = hi ∧
    (e.rlo : Int) = max 0 (min 399 upper) ∧ (e.rhi : Int) = max 0 (min 399 lower) ∧ e.rlo ≤ e.rhi ∧ e.rhi ≤ 399 ∧
    (e.top = true ↔ upper < 0) ∧ (e.bottom = true ↔ 399 < lower)) ∧
  (∀ (code : Nat → Nat) (start span n : Nat) (fine position : Int) (invert : Bool),
    let tab := drawTable code start span n fine position invert
    tab.length = 700 ∧ ∀ j, j < 700 → tab[j]? = some (columnEntry (minCodes (columnCodes code start span n j))
      (maxCodes (columnCodes code start span n j)) fine position invert)) ∧
  ∀ e : ColEntry, (∀ prev, drawnSpan false prev e = (e.rlo, e.rhi)) ∧ drawnSpan true none e = (e.rlo, e.rhi) ∧
    ∀ q : ColEntry, e.rlo ≤ e.rhi → q.rlo ≤ q.rhi →
      let span := drawnSpan true (some q) e
      (q.rhi < e.rlo → span = (q.rhi, e.rhi)) ∧ (e.rhi < q.rlo → span = (e.rlo, q.rlo)) ∧
      (e.rlo ≤ q.rhi → q.rlo ≤ e.rhi → span = (e.rlo, e.rhi)) ∧ span.1 ≤ q.rhi ∧ q.rlo ≤ span.2

/-- R122 to R124, R133, R135, R136, R145: RENDER_PASS_END, with no decay pending. After a REDRAW each shown plane holds the hit cells
of its trace's drawn spans, 255 or hit_weight by the persistence mode the pass read, and 0 elsewhere. After a SEGMENT pass a channel
that is drawn holds its hit cells, in OFF at 255 on a cleared plane and else raised by hit_weight; an undrawn channel is cleared, with
its entries invalid; and the references are not touched. The shown tables are those drawn; the compositor has the pass's marker
basis. -/
def Obligations.RedrawCommitsTheDrawnSpans : Prop :=
  ∀ (p : Pass) (s : State), s.lnk.startUp = false → s.rnd.pass = some p → s.rnd.decayPending = false →
    let channelData (n : Channel) : List ColEntry := match p.seg with
      | some r => if p.setup.get (chField n 0) = 1 ∧ r.set[n] = true then
          drawTable (fun i => (segmentSample s.mem.dram r n i).toNat) p.setup.viewStart p.setup.viewSpan r.n
            (p.setup.get (chField n 2)) (p.setup.get (chField n 3)) (p.setup.get (chField n 7) == 1)
        else []
      | none => []
    let refData (n : Fin 4) : List ColEntry := match p.refs[n] with
      | some d => drawTable (fun i => (readPosition s.mem.dram d.pages i).toNat) p.setup.viewStart p.setup.viewSpan d.n
          (p.setup.get (refField n 2)) (p.setup.get (refField n 1)) false
      | none => []
    let isHit (tab : List ColEntry) (j row : Nat) : Bool := match tab[j]? with
      | none => false
      | some e =>
        let span := drawnSpan (p.setup.get 120 == 1) (if j = 0 then none else tab[j - 1]?) e
        decide (span.1 ≤ row ∧ row ≤ span.2)
    let cleared := p.setup.get 116 = 0
    (p.kind = .redraw → ∃ t, exec .renderPassEnd s = .next t ∧
      t.cmp = { s.cmp with basis := p.seg.map (fun r => ⟨r.n, r.p, p.setup.viewStart, p.setup.viewSpan⟩) } ∧
      ∀ (k : Trace),
        let tab := if h : k.val < 4 then channelData ⟨k.val, h⟩ else refData ⟨k.val - 4, by omega⟩
        t.rnd.shownTab[k] = tab ∧
        ∀ j row, j < 700 → row < 400 →
          storeRead t.rnd.shown[k] (cellAddr j row) = if isHit tab j row then
            (if cleared then 255 else BitVec.ofNat 8 (min 255 (p.setup.get 119).toNat)) else 0) ∧
    (p.kind = .segment → (∀ k : Trace, Store.wf s.rnd.work[k] = true) → ∃ t, exec .renderPassEnd s = .next t ∧
      t.cmp = { s.cmp with basis := p.seg.map (fun r => ⟨r.n, r.p, p.setup.viewStart, p.setup.viewSpan⟩) } ∧
      (∀ n : Channel,
        let k : Trace := ⟨n.val, by omega⟩
        let tab := channelData n
        t.rnd.shownTab[k] = tab ∧
        ∀ j row, j < 700 → row < 400 →
          let base : Byte := if tab = [] ∨ cleared then 0 else storeRead s.rnd.work[k] (cellAddr j row)
          storeRead t.rnd.shown[k] (cellAddr j row) = if isHit tab j row then
            (if cleared then 255 else BitVec.ofNat 8 (min 255 (base.toNat + (p.setup.get 119).toNat))) else base) ∧
      ∀ n : Fin 4, let k : Trace := ⟨n.val + 4, by omega⟩
        t.rnd.shown[k] = s.rnd.work[k] ∧ t.rnd.shownTab[k] = s.rnd.workTab[k])

/-- R119, R120, R122: CLEAR_PERSIST sets redraw pending; with no pass running a REDRAW pass starts at once, on cleared work
planes. -/
def Obligations.ClearPersistOwesARedraw : Prop :=
  ∀ (tag : Byte) (s : State), CanTake 0x50 tag [] s →
    (s.rnd.pass.isSome = true → exec (.clearPersist tag []) s =
      .next (answered 0x50 tag .ok .empty { taken s with rnd := { s.rnd with redraw := true } })) ∧
    (s.rnd.pass = none → ∃ t p, exec (.clearPersist tag []) s = .next (answered 0x50 tag .ok .empty t) ∧
      t.rnd.pass = some p ∧ p.kind = .redraw ∧ p.setup = s.setup ∧ t.rnd.redraw = false ∧ t.rnd.queue = [] ∧
      (∀ k : Trace, t.rnd.work[k] = [] ∧ t.rnd.workTab[k] = []) ∧ t.rnd.shown = s.rnd.shown ∧ t.setup = s.setup ∧
      t.generation = s.generation)

/-- R137, R138: DECAY_EXPIRY. With no pass running every cell of all sixteen planes falls by ceil(cell × decay_amount / 256);
during a pass the decay is kept pending. The timer reloads itself from the deadline. That an expiry whose deadline has passed falls
at the present instant is the model's choice (log 2). -/
def Obligations.DecayLowersEveryCell : Prop :=
  ∀ (d : Instant) (s : State), s.lnk.startUp = false → s.rnd.decay = some d →
    (∀ k : Trace, Store.wf s.rnd.work[k] = true ∧ Store.wf s.rnd.shown[k] = true) →
    ∃ t, exec .decayExpiry s = .next t ∧ t.rnd.decay = some (d + (s.setup.get 117).toNat * 1000000) ∧
      t.now = max s.now d ∧ t.rnd.workTab = s.rnd.workTab ∧ t.rnd.shownTab = s.rnd.shownTab ∧
      (if s.rnd.pass.isSome then t.rnd = { s.rnd with decay := t.rnd.decay, decayPending := true }
       else ∀ (k : Trace) (a : Nat),
        (storeRead t.rnd.shown[k] a).toNat = (storeRead s.rnd.shown[k] a).toNat -
          ceilDiv ((storeRead s.rnd.shown[k] a).toNat * (s.setup.get 118).toNat) 256 ∧
        (storeRead t.rnd.work[k] a).toNat = (storeRead s.rnd.work[k] a).toNat -
          ceilDiv ((storeRead s.rnd.work[k] a).toNat * (s.setup.get 118).toNat) 256)

/-! ### The compositor -/

/-- R150: OV_FILL and OV_CLEAR while no OV_SHOW is pending. The colour goes into exactly the pixels of the draw buffer that the
rectangle and the screen share, or into every pixel; a colour above 15 is refused. -/
def Obligations.FillAndClearWriteTheDrawBuffer : Prop :=
  (∀ (tag colour : Byte) (x y : Int) (w h : Nat) (s : State), -32768 ≤ x → x ≤ 32767 → -32768 ≤ y → y ≤ 32767 →
    w ≤ 65535 → h ≤ 65535 → s.cmp.showPending = false → Store.wf s.cmp.draw = true →
    let payload : List Byte := beInt 2 x ++ beInt 2 y ++ beBytes 2 w ++ beBytes 2 h ++ [colour]
    CanTake 0x52 tag payload s →
    (15 < colour.toNat → exec (.ovFill tag payload) s = .next (answered 0x52 tag .badArg .empty (taken s))) ∧
    (colour.toNat ≤ 15 → ∃ draw, exec (.ovFill tag payload) s =
        .next (answered 0x52 tag .ok .empty { taken s with cmp := { s.cmp with draw := draw } }) ∧
      ∀ px py : Nat, px < 800 → py < 480 →
        storeRead draw (pixelAddr px py) =
          if x ≤ px ∧ px ≤ x + w - 1 ∧ y ≤ py ∧ py ≤ y + h - 1 then colour else storeRead s.cmp.draw (pixelAddr px py))) ∧
  ∀ (tag colour : Byte) (s : State), s.cmp.showPending = false → CanTake 0x54 tag [colour] s →
    (15 < colour.toNat → exec (.ovClear tag [colour]) s = .next (answered 0x54 tag .badArg .empty (taken s))) ∧
    (colour.toNat ≤ 15 → ∃ draw, exec (.ovClear tag [colour]) s =
        .next (answered 0x54 tag .ok .empty { taken s with cmp := { s.cmp with draw := draw } }) ∧
      ∀ px py : Nat, px < 800 → py < 480 → storeRead draw (pixelAddr px py) = colour)

/-- R151: OV_TEXT while no OV_SHOW is pending. Glyph i stands at x + 8i: its set bits write fg, its clear bits write bg unless bg is
0, and every other pixel of the draw buffer stands. A list of 0 or more than 64 codes, a code above 127, or fg or bg above 15 is
refused. -/
def Obligations.TextDrawsGlyphsFromTheTable : Prop :=
  ∀ (tag : Byte) (x y : Int) (fg bg : Nat) (codes : List Nat) (s : State), -32768 ≤ x → x ≤ 32767 → -32768 ≤ y →
    y ≤ 32767 → fg ≤ 255 → bg ≤ 255 → codes.length ≤ 255 → (∀ c ∈ codes, c ≤ 255) →
    s.cmp.showPending = false → Store.wf s.cmp.draw = true →
    let payload : List Byte := beInt 2 x ++ beInt 2 y ++ [BitVec.ofNat 8 fg, BitVec.ofNat 8 bg, BitVec.ofNat 8 codes.length]
      ++ codes.map (BitVec.ofNat 8)
    CanTake 0x53 tag payload s →
    ((codes = [] ∨ 64 < codes.length ∨ (∃ c ∈ codes, 127 < c) ∨ 15 < fg ∨ 15 < bg) →
      exec (.ovText tag payload) s = .next (answered 0x53 tag .badArg .empty (taken s))) ∧
    (1 ≤ codes.length → codes.length ≤ 64 → (∀ c ∈ codes, c ≤ 127) → fg ≤ 15 → bg ≤ 15 → ∃ draw, exec (.ovText tag payload) s =
        .next (answered 0x53 tag .ok .empty { taken s with cmp := { s.cmp with draw := draw } }) ∧
      ∀ px py : Nat, px < 800 → py < 480 →
        storeRead draw (pixelAddr px py) =
          if x ≤ px ∧ px < x + 8 * codes.length ∧ y ≤ py ∧ py < y + 16 then
            let u := (px - x).toNat
            let row := (storeRead s.cmp.glyphs (16 * codes[u / 8]?.getD 0 + (py - y).toNat)).toNat
            if row / 2 ^ (7 - u % 8) % 2 = 1 then BitVec.ofNat 8 fg
            else if bg = 0 then storeRead s.cmp.draw (pixelAddr px py) else BitVec.ofNat 8 bg
          else storeRead s.cmp.draw (pixelAddr px py))

/-- R152, R153: GLYPH_LOAD and PALETTE_SET while no OV_SHOW is pending. The bitmaps replace exactly the glyphs named, and the
components are clamped to 63; a count, range, length or index that the rules refuse changes nothing. -/
def Obligations.GlyphsAndPaletteAreReplaced : Prop :=
  (∀ (tag first count : Byte) (bits : List Byte) (s : State), s.cmp.showPending = false → Store.wf s.cmp.glyphs = true →
    CanTake 0x56 tag (first :: count :: bits) s →
    if 1 ≤ count.toNat ∧ count.toNat ≤ 8 ∧ first.toNat + count.toNat - 1 ≤ 127 ∧ bits.length = 16 * count.toNat then
      ∃ glyphs, exec (.glyphLoad tag (first :: count :: bits)) s =
          .next (answered 0x56 tag .ok .empty { taken s with cmp := { s.cmp with glyphs := glyphs } }) ∧
        ∀ code row : Nat, row < 16 → storeRead glyphs (glyphAddr code row) =
          if first.toNat ≤ code ∧ code ≤ first.toNat + count.toNat - 1 then bits[16 * (code - first.toNat) + row]?.getD 0
          else storeRead s.cmp.glyphs (glyphAddr code row)
    else exec (.glyphLoad tag (first :: count :: bits)) s = .next (answered 0x56 tag .badArg .empty (taken s))) ∧
  ∀ (tag i r g b : Byte) (s : State), s.cmp.showPending = false → CanTake 0x57 tag [i, r, g, b] s →
    if h : 1 ≤ i.toNat ∧ i.toNat ≤ 15 then
      exec (.paletteSet tag [i, r, g, b]) s = .next (answered 0x57 tag .ok .empty { taken s with cmp := { s.cmp with
        palette := s.cmp.palette.set i.toNat ⟨min r.toNat 63, min g.toNat 63, min b.toNat 63⟩ (by omega) } })
    else exec (.paletteSet tag [i, r, g, b]) s = .next (answered 0x57 tag .badArg .empty (taken s))

/-- R140, R149, R154, R155: OV_SHOW sets the show-pending flag without a reply; while it is SET every overlay request is held, up to
8 of them, and then refused BUSY; the next FRAME_START copies the draw buffer, answers the OV_SHOW, takes the frame context that the
setup and the palette give before the copy, and drains the hold list up to a held OV_SHOW, each request executed as if it arrived
then. The frame's instant, the k-th 1/60 s after CMP is brought up, or the present one where that has passed, is the choice of logs
16 and 2. R141 to R147: a frame's pixels are the topmost of its layers, scanned out line by line, top line first. -/
def Obligations.OverlayIsShownAtTheFrameStart : Prop :=
  (∀ (tag : Byte) (s : State), s.cmp.showPending = false → CanTake 0x55 tag [] s →
    exec (.ovShow tag []) s = .next { handed s with cmp := { s.cmp with showPending := true, showTag := tag } }) ∧
  (∀ (tag : Byte) (payload : List Byte) (s : State), s.cmp.showPending = true →
    ∀ q ∈ [((0x52 : Byte), OverlayKind.fill, Instr.ovFill tag payload), (0x53, .text, .ovText tag payload),
        (0x54, .clear, .ovClear tag payload), (0x55, .present, .ovShow tag payload), (0x56, .glyphs, .glyphLoad tag payload),
        (0x57, .palette, .paletteSet tag payload)],
      CanTake q.1 tag payload s →
      exec q.2.2 s = .next (if s.cmp.hold.length < 8
        then { handed s with cmp := { s.cmp with hold := s.cmp.hold ++ [⟨q.2.1, tag, payload⟩] } }
        else answered q.1 tag .busy .empty (taken s))) ∧
  (∀ s : State, s.lnk.startUp = false → s.cmp.hold = [] →
    let now := max s.now (s.cmp.broughtUp + s.cmp.frames * 1000000000 / 60)
    let overlay := if s.cmp.showPending then s.cmp.draw else s.cmp.shown
    exec .frameStart s = .next { s with
      now := now
      cmp := { s.cmp with
        frames := s.cmp.frames + 1, heldBacklight := (s.setup.get 122).toNat, showPending := false, shown := overlay
        frame := some ⟨frameContext s, s.cmp.basis, overlay, s.rnd.shown⟩ }
      lnk := if s.cmp.showPending
        then { s.lnk with outbound := s.lnk.outbound ++ [.reply ⟨s.cmp.showTag, 0x55, .ok, .empty⟩],
                          reservations := s.lnk.reservations - 1 }
        else s.lnk }) ∧
  (∀ (first behind : List OverlayRequest) (s : State), s.lnk.startUp = false → s.cmp.showPending = true →
    s.cmp.hold = first ++ behind → (∀ q ∈ first, q.kind = .present → q.payload ≠ []) →
    (∀ q, behind.head? = some q → q.kind = .present ∧ q.payload = []) →
    ∃ (t : State) (statuses : List Status), exec .frameStart s = .next t ∧ t.cmp.hold = behind.tail ∧
      t.cmp.showPending = !behind.isEmpty ∧ (∀ q, behind.head? = some q → t.cmp.showTag = q.tag) ∧
      t.cmp.shown = s.cmp.draw ∧ t.cmp.frame = some ⟨frameContext s, s.cmp.basis, s.cmp.draw, s.rnd.shown⟩ ∧
      statuses.length = first.length ∧ (∀ st ∈ statuses, st = .ok ∨ st = .badArg) ∧
      t.lnk.outbound = s.lnk.outbound ++ .reply ⟨s.cmp.showTag, 0x55, .ok, .empty⟩ ::
        (first.zip statuses).map (fun x => .reply ⟨x.1.tag, overlayCode x.1.kind, x.2, .empty⟩) ∧
      t.lnk.reservations = s.lnk.reservations - (1 + first.length)) ∧
  (∀ (tag : Byte) (payload : List Byte) (s : State), s.lnk.startUp = false → s.cmp.showPending = true →
    s.lnk.reservations ≤ 62 →
    ∀ q ∈ [((0x52 : Byte), OverlayKind.fill, Instr.ovFill tag payload), (0x53, .text, .ovText tag payload),
        (0x54, .clear, .ovClear tag payload), (0x56, .glyphs, .glyphLoad tag payload), (0x57, .palette, .paletteSet tag payload)],
      s.cmp.hold = [⟨q.2.1, tag, payload⟩] → ∀ u,
      exec q.2.2 { s with
        cmp := { s.cmp with showPending := false, hold := [] }
        lnk := { s.lnk with inbound := [⟨q.1, tag, payload⟩], outbound := [] } } = .next u →
      ∃ t, exec .frameStart s = .next t ∧ t.cmp.draw = u.cmp.draw ∧ t.cmp.glyphs = u.cmp.glyphs ∧
        t.cmp.palette = u.cmp.palette ∧
        t.lnk.outbound = s.lnk.outbound ++ .reply ⟨s.cmp.showTag, 0x55, .ok, .empty⟩ :: u.lnk.outbound) ∧
  (∀ (f : Frame) (x y : Nat), x < 800 → y < 480 → (storeRead f.overlay (800 * y + x)).toNat ≤ 15 →
    let colours : List Rgb := [⟨63, 63, 0⟩, ⟨0, 63, 63⟩, ⟨63, 0, 63⟩, ⟨16, 63, 16⟩, ⟨63, 40, 0⟩, ⟨40, 40, 63⟩, ⟨63, 40, 40⟩,
      ⟨48, 48, 48⟩]
    let colourOf (t : Nat) : Rgb := colours[t]?.getD ⟨48, 48, 48⟩
    let c := f.context
    let index := (storeRead f.overlay (800 * y + x)).toNat
    let inArea := 50 ≤ x ∧ x ≤ 749 ∧ 40 ≤ y ∧ y ≤ 439
    let j := x - 50
    let r := y - 40
    let cell (t : Nat) : Nat := (f.planes[t]?.map (fun plane => (storeRead plane (400 * j + r)).toNat)).getD 0
    let onCursor := inArea ∧ (((c.cursorMode = 1 ∨ c.cursorMode = 3) ∧ (j = c.cursorXa ∨ j = c.cursorXb)) ∨
      ((c.cursorMode = 2 ∨ c.cursorMode = 3) ∧ (r = c.cursorYa ∨ r = c.cursorYb)))
    let onPosition : Bool := match f.basis with
      | none => false
      | some m =>
        let size := min m.span m.n
        let start := min m.start (m.n - size)
        let column := (m.p - start) * 700 / size
        decide (start ≤ m.p ∧ m.p < start + size ∧ 49 + column ≤ x ∧ x ≤ 51 + column ∧ 32 ≤ y ∧ y ≤ 38)
    let level : Int := 200 - (2 * ((if c.levelInvert then 255 - (c.level : Int) else (c.level : Int)) - 128) * c.levelFine / 64 +
      c.levelPosition)
    let levelChannel : Option Channel := match c.levelSource with
      | .channel n => if 0 ≤ level ∧ level ≤ 399 ∧ 42 ≤ x ∧ x ≤ 48 ∧ 39 + level ≤ y ∧ y ≤ 41 + level then some n else none
      | .ext => none
    let trace : Option Nat := if inArea then c.traceOrder.find? (fun t => decide (0 < cell t)) else none
    let onFrame := ((x = 49 ∨ x = 750) ∧ 39 ≤ y ∧ y ≤ 440) ∨ ((y = 39 ∨ y = 440) ∧ 49 ≤ x ∧ x ≤ 750)
    let onDot := inArea ∧ c.grid = 0 ∧ ((j ∈ [70, 140, 210, 280, 350, 420, 490, 560, 630] ∧ r % 5 = 0) ∨
      (r ∈ [50, 100, 150, 200, 250, 300, 350] ∧ j % 5 = 0))
    let onAxis := inArea ∧ c.grid = 1 ∧ (j = 350 ∨ r = 200 ∨ (j % 14 = 0 ∧ 198 ≤ r ∧ r ≤ 202) ∨
      (r % 10 = 0 ∧ 348 ≤ j ∧ j ≤ 352))
    framePixel f x y =
      if index ≠ 0 then c.palette[index]?.getD ⟨0, 0, 0⟩
      else if onCursor then colourOf c.cursorSource
      else if onPosition then ⟨63, 32, 0⟩
      else match levelChannel, trace with
        | some n, _ => colourOf n.val
        | none, some t => ⟨(colourOf t).r * cell t / 255, (colourOf t).g * cell t / 255, (colourOf t).b * cell t / 255⟩
        | none, none => if onFrame ∨ onAxis then ⟨40, 40, 40⟩ else if onDot then ⟨24, 24, 24⟩ else ⟨0, 0, 0⟩) ∧
  ∀ f : Frame, (scanOut f).length = 480 ∧ ∀ y, y < 480 → ∃ pixels, (scanOut f)[y]? = some pixels ∧ pixels.length = 800 ∧
    ∀ x, x < 800 → pixels[x]? = some (framePixel f x y)

/-! ### The front panel -/

/-- R161, R163, R166, R172, R173, R174, R176, R13: the panel's requests, on the bytes of their payloads. Each replaces its entry, mode
or flag, the step and the sound clamped, and changes nothing else; a payload that is none of its forms is refused (that these are
the forms' bytes is the reading of log 12). -/
def Obligations.PanelRequestsReplaceTheirEntry : Prop :=
  ∀ (tag : Byte) (s : State),
    let byte (k : Nat) : Byte := BitVec.ofNat 8 k
    let ofForms (code : Byte) (i : List Byte → Instr) (forms : List (List Byte × State)) : Prop :=
      (∀ f ∈ forms, CanTake code tag f.1 s → exec (i f.1) s = .next (answered code tag .ok .empty f.2)) ∧
      ∀ payload, (∀ f ∈ forms, f.1 ≠ payload) → CanTake code tag payload s →
        exec (i payload) s = .next (answered code tag .badArg .empty (taken s))
    let bindings : List (List Byte × KeyBinding) := [([0], .none), ([1], .forward), ([2, 0], .action .runStop),
      ([2, 1], .action .single), ([2, 2], .action .force), ([2, 3], .action .clearPersist), ([2, 6], .action .localRelease),
      ([2, 7], .action .defaultSetup)] ++ channels.map (fun n => ([2, 4, byte (n.val + 1)], .action (.channelToggle n))) ++
      (List.finRange 12).map (fun e => ([2, 5, byte e.val], .action (.fieldDefault e)))
    let sources : List (List Byte × LedSource) := [([0], .hostOff), ([1], .hostOn), ([2], .hostBlink), ([3], .running),
      ([4], .stopped), ([5], .singleArmed), ([6], .triggered), ([8], .remote)] ++
      channels.map (fun n => ([7, byte (n.val + 1)], .channel n))
    let locks : List (List Byte × PanelLock) := [([0], .unlocked), ([1], .remote), ([2], .lockout)]
    ofForms 0x60 (.keyBind tag) ((List.finRange 64).flatMap (fun (k : Fin 64) => bindings.map (fun b =>
      (byte k.val :: b.1, { taken s with pnl := { s.pnl with bindings := s.pnl.bindings.set k b.2 } })))) ∧
    (∀ (e mode acc : Byte) (target : Option Byte) (step : Nat), step < 65536 →
      let payload : List Byte := e :: (match target with
        | none => [1]
        | some id => [0, id]) ++ mode :: beBytes 2 step ++ [acc]
      CanTake 0x61 tag payload s → exec (.encBind tag payload) s = .next (
        if h : e.toNat < 12 ∧ mode.toNat ≤ 1 ∧ acc.toNat ≤ 1 ∧ ∀ id, target = some id → id.toNat ∈ fieldIds then
          answered 0x61 tag .ok (.step (max 1 (min 1000 step))) { taken s with pnl := { s.pnl with
            encBindings := s.pnl.encBindings.set e.toNat
              ⟨target.map (·.toNat), decide (mode = 0), max 1 (min 1000 step), decide (acc = 0)⟩ h.1 } }
        else answered 0x61 tag .badArg .empty (taken s))) ∧
    (∀ payload : List Byte, ¬ (payload.length = 6 ∧ payload[1]? = some 1) → ¬ (payload.length = 7 ∧ payload[1]? = some 0) →
      CanTake 0x61 tag payload s → exec (.encBind tag payload) s = .next (answered 0x61 tag .badArg .empty (taken s))) ∧
    ofForms 0x62 (.ledSet tag) ((List.finRange 64).flatMap (fun (l : Fin 64) => sources.map (fun b =>
      (byte l.val :: b.1, { taken s with pnl := { s.pnl with leds := s.pnl.leds.set l b.2 } })))) ∧
    ofForms 0x63 (.panelLock tag) (locks.map (fun b => (b.1, { taken s with pnl := { s.pnl with lock := b.2 } }))) ∧
    ofForms 0x64 (.panelBlank tag) ([([0], true), ([1], false)].map (fun b =>
      (b.1, { taken s with pnl := { s.pnl with blanked := b.2 }, cmp := { s.cmp with blanked := b.2 } }))) ∧
    (∀ f d : Nat, f < 65536 → d < 65536 → CanTake 0x65 tag (beBytes 2 f ++ beBytes 2 d) s →
      exec (.beep tag (beBytes 2 f ++ beBytes 2 d)) s =
        .next (answered 0x65 tag .ok (.sound (max 200 (min 8000 f)) (max 1 (min 2000 d))) { taken s with pnl := { s.pnl with
          beeper := some ⟨max 200 (min 8000 f), s.now + max 1 (min 2000 d) * 1000000, false⟩ } })) ∧
    ∀ payload : List Byte, payload.length ≠ 4 → CanTake 0x65 tag payload s →
      exec (.beep tag payload) s = .next (answered 0x65 tag .badArg .empty (taken s))

/-- R158 to R165, R168, R175, R176: ROW_SLOT runs its slot, which scans the keys of its row and drives its LEDs, whatever local
actions the presses perform. A key that agrees with its contact restarts its count, and the third disagreeing scan in a row is accepted: a press sets the
hold deadline 800 ms ahead, and a release clears it. A hold deadline that falls at the slot's instant is reached in it. On a blanked
panel a slot waits for the encoder sample of its instant, where that has not come, and the sample taken has its place in the slot: the
events of both are made in ascending key code. Every accepted press takes its disposition from the blanked flag, the lock and the
binding, as the presses and detents of lower key codes leave them; it clicks, and performs its local action on what the presses before
it left: what the slot leaves with that press alone taken out of its contacts. That the LEDs are driven after the scan, and that a slot which still waits is run before the next, is the model's order (log
13); that a slot whose instant has passed falls at the present instant is its choice (log 2). -/
def Obligations.RowSlotDebouncesTheRow : Prop :=
  (∀ (contacts : Byte) (s : State), s.lnk.startUp = false →
    let v := match s.pnl.contacts with
      | none => s
      | some waiting => runSlot waiting { s with pnl := { s.pnl with contacts := none } }
    exec (.rowSlot contacts) s = .next (if v.pnl.blanked = true ∧ v.pnl.encNext = v.pnl.rowNext then
        { v with now := max v.now v.pnl.rowNext, pnl := { v.pnl with contacts := some contacts } }
      else runSlot contacts v)) ∧
  ∀ (contacts : Byte) (s : State),
    let now := max s.now s.pnl.rowNext
    let stamp := BitVec.ofNat 32 ((now - s.pnl.broughtUp) / 1000000)
    let accepted (k : Fin 64) : Bool := decide (k.val / 8 = s.pnl.row.val ∧ 2 ≤ s.pnl.keys[k].disagree) &&
      (contacts.getLsbD (k.val % 8) != s.pnl.keys[k].down)
    let pressed (k : Fin 64) : Bool := accepted k && !s.pnl.keys[k].down
    let movedTo (e : Fin 12) (pair : Bool × Bool) : Option Int := s.pnl.encs[e].last.map (fun last =>
      s.pnl.encs[e].quarter +
        (if (last, pair) ∈ [((false, false), (true, false)), ((true, false), (true, true)), ((true, true), (false, true)),
          ((false, true), (false, false))] then 1
         else if (pair, last) ∈ [((false, false), (true, false)), ((true, false), (true, true)),
          ((true, true), (false, true)), ((false, true), (false, false))] then -1 else 0))
    let turned (e : Fin 12) : Bool := s.pnl.lines.any (fun l =>
      let q := movedTo e (l.1.getLsbD e.val, l.2.getLsbD e.val)
      q == some 4 || q == some (-4))
    let t := runSlot contacts s
    t.now = now ∧
      t.pnl.rowNext = s.pnl.rowNext + 500000 ∧ t.pnl.row.val = (s.pnl.row.val + 1) % 8 ∧ t.pnl.contacts = none ∧
      t.pnl.lines = none ∧ t.pnl.encNext = s.pnl.encNext ∧
      (∃ drive, t.pnl.ledDrive = some drive ∧ drive.row = s.pnl.row ∧ drive.duty = (t.setup.get 160).toNat ∧
        ∀ c : Fin 8, drive.on[c] = (!t.pnl.blanked &&
          (match ledLook t.pnl.leds[keyAt s.pnl.row c] t with
            | .lit => true
            | .blinking => t.pnl.blinkOn
            | .dark => false)) ∧
          ∀ tick, ledDriven tick c t = true ↔ drive.on[c] = true ∧ tick < drive.duty) ∧
      (∀ k : Fin 64,
        let old := s.pnl.keys[k]
        let held : KeyState := if old.hold = some s.pnl.rowNext then { old with hold := none, holdTaken := false } else old
        let new := t.pnl.keys[k]
        let contact := contacts.getLsbD (k.val % 8)
        (k.val / 8 ≠ s.pnl.row.val → new = held) ∧
        (k.val / 8 = s.pnl.row.val →
          (contact = old.down → new = { held with disagree := 0 }) ∧
          (contact ≠ old.down → old.disagree < 2 → new = { held with disagree := old.disagree + 1 }) ∧
          (contact ≠ old.down → 2 ≤ old.disagree → new.down = contact ∧ new.disagree = 0 ∧ new.holdTaken = false ∧
            new.hold = (if contact then some (now + 800000000) else none) ∧
            (contact = false → new.disposition = old.disposition)))) ∧
      (∀ e : Fin 12, (s.pnl.lines = none → t.pnl.encs[e].last = s.pnl.encs[e].last ∧ t.pnl.encs[e].quarter = s.pnl.encs[e].quarter) ∧
        ∀ a b, s.pnl.lines = some (a, b) →
          let pair : Bool × Bool := (a.getLsbD e.val, b.getLsbD e.val)
          t.pnl.encs[e].last = some pair ∧ (s.pnl.encs[e].last = none → t.pnl.encs[e].quarter = s.pnl.encs[e].quarter) ∧
          ∀ q, movedTo e pair = some q → t.pnl.encs[e].quarter = if q = 4 ∨ q = -4 then 0 else q) ∧
      (freeCount s < 4 → ∃ made, t.pnl.events = s.pnl.events ++ made ∧ (made.map (·.key)).Pairwise (· ≤ ·) ∧
        (∀ e ∈ made, e.since = now ∧ e.stamp = stamp) ∧
        ∀ e : Fin 12, s.pnl.blanked = true → turned e = true → (∀ f, f < e → turned f = false) →
          (∀ k : Fin 64, accepted k = false ∧ s.pnl.keys[k].hold ≠ some s.pnl.rowNext) → s.pnl.events.length < 32 →
          made = [⟨52 + e.val, .turn, .wake, stamp, now⟩]) ∧
      (∀ k : Fin 64, pressed k = true →
        let wokenBefore (m : Fin 64) : Bool :=
          decide (∃ j : Fin 64, j < m ∧ pressed j = true) || decide (∃ e : Fin 12, 52 + e.val < m.val ∧ turned e = true)
        let blank (m : Fin 64) : Bool := s.pnl.blanked && !wokenBefore m
        let released : Bool :=
          decide (∃ j : Fin 64, j < k ∧ pressed j = true ∧ s.pnl.bindings[j] = .action .localRelease ∧ blank j = false)
        let lock := if s.pnl.lock = .remote ∧ released = true then PanelLock.unlocked else s.pnl.lock
        t.pnl.keys[k].disposition = if blank k then some .wake else
          match s.pnl.bindings[k] with
          | .none => none
          | .forward => if lock = .unlocked then some .forwarded else some .locked
          | .action a => if lock = .unlocked ∨ (lock = .remote ∧ a = .localRelease) then some .localActed else some .locked) ∧
      ∀ k : Fin 64, pressed k = true → s.pnl.lines = none → (∀ m, k < m → pressed m = false) →
        let v := runSlot (contacts &&& ~~~ (1#8 <<< (k.val % 8))) s
        let d := t.pnl.keys[k].disposition
        let clicked : Option Sound := if v.setup.get 161 = 1 ∧ v.pnl.beeper.all (·.click) = true
          then some ⟨4000, now + 2000000, true⟩ else v.pnl.beeper
        (d = some .wake → t.pnl.blanked = false ∧ t.cmp.blanked = false ∧ t.acq = v.acq ∧ t.setup = v.setup ∧
          t.pnl.lock = v.pnl.lock ∧ t.pnl.beeper = v.pnl.beeper) ∧
        (d = none → t.acq = v.acq ∧ t.setup = v.setup ∧ t.pnl.lock = v.pnl.lock ∧ t.pnl.beeper = v.pnl.beeper) ∧
        (d = some .locked ∨ d = some .forwarded →
          t.acq = v.acq ∧ t.setup = v.setup ∧ t.pnl.lock = v.pnl.lock ∧ t.pnl.beeper = clicked) ∧
        ∀ a, s.pnl.bindings[k] = .action a → d = some .localActed →
          match a with
          | .runStop => (v.acq.state ≠ .stopped → t.acq.state = .stopped) ∧
            (v.acq.state = .stopped → if v.fec.locked then acqRunning t.acq.state = true ∧ t.acq.runCount = 0 ∧
              t.acq.singlePending = false else t.acq = v.acq)
          | .single => (v.acq.state = .stopped → if v.fec.locked then acqRunning t.acq.state = true ∧
              t.acq.singlePending = true else t.acq = v.acq) ∧
            (v.acq.state = .calibrating → t.acq = v.acq) ∧
            (acqRunning v.acq.state = true → t.acq = { v.acq with singlePending := true })
          | .force => (v.acq.state = .preFill → t.acq = { v.acq with forcePending := true }) ∧
            (v.acq.state ≠ .preFill → v.acq.state ≠ .ready → t.acq = v.acq) ∧
            (∀ c, v.acq.state = .ready → v.acq.ctx = some c → c.p + c.post < c.n →
              t.acq = { v.acq with state := .postFill, ctx := some { c with trigger := some now, forced := true } })
          | .clearPersist => t.rnd.pass.isSome = true ∧ t.rnd.redraw = v.rnd.pass.isSome ∧ t.setup = v.setup
          | .channelToggle n => t.setup = recordAfter ⟨.panel,
              [(chField n 0, if v.setup.get (chField n 0) = 1 then 0 else 1)], false, false, none⟩ v
          | .fieldDefault e => t.setup = match s.pnl.encBindings[e].target with
            | some id => recordAfter ⟨.panel, [(id, if id = 115 then (v.setup.n : Int) else defaultSetup.get id)], false, false,
                none⟩ v
            | none => v.setup
          | .localRelease => t.pnl.lock = .unlocked ∧ t.setup = v.setup
          | .defaultSetup => t.setup = recordAfter defaultChangeSet v

/-- R160, R161, R162, R170, R171: HOLD_DEADLINE makes one HOLD with the press's disposition; without room it waits in the key event
queue, with room it leaves at once behind what waits, and a full queue drops it with KEY_OVERFLOW. Deadlines that fall together are
reached in ascending key code, and one that falls at the next row slot is left to that slot. PANEL_REPORT_OFFER lets the head of the
key event queue leave when no encoder waits. That a deadline that has passed falls at the present instant, with its stamp, is the
model's choice (log 2). -/
def Obligations.HoldEventsAreQueuedAndReported : Prop :=
  (∀ (k : Fin 64) (d : Instant) (s : State), s.lnk.startUp = false → s.pnl.keys[k].hold = some d →
    let now := max s.now d
    let stamp := BitVec.ofNat 32 ((now - s.pnl.broughtUp) / 1000000)
    let keys := s.pnl.keys.set k { s.pnl.keys[k] with hold := none, holdTaken := false }
    (d = s.pnl.rowNext → exec (.holdDeadline k) s = .next { s with
      now := now, pnl := { s.pnl with keys := s.pnl.keys.set k { s.pnl.keys[k] with holdTaken := true } } }) ∧
    (∀ x, d ≠ s.pnl.rowNext → (∀ m : Fin 64, m < k → s.pnl.keys[m].hold ≠ some d) → s.pnl.keys[k].down = true →
      s.pnl.keys[k].disposition = some x →
      (s.pnl.events.length < 32 → freeCount s < 4 → exec (.holdDeadline k) s = .next { s with
        now := now, pnl := { s.pnl with keys := keys, events := s.pnl.events ++ [⟨k.val, .hold, x, stamp, now⟩] } }) ∧
      (s.pnl.events.length < 32 → (∀ e : Fin 12, s.pnl.encs[e].sum = 0) → 4 + s.pnl.events.length ≤ freeCount s →
        exec (.holdDeadline k) s = .next { s with
          now := now, pnl := { s.pnl with keys := keys, events := [] }
          lnk := { s.lnk with
            outbound := s.lnk.outbound ++
              s.pnl.events.map (fun e => .report (.key e.key e.kind e.disposition e.stamp)) ++
              [.report (.key k.val .hold x stamp)] } }) ∧
      (32 ≤ s.pnl.events.length → ∃ t, exec (.holdDeadline k) s = .next t ∧
        t.pnl = { s.pnl with keys := keys } ∧ LatchedNow .keyOverflow (.key k.val) s t)) ∧
    let due := (List.finRange 64).filter (fun m => decide (m ≤ k ∧ s.pnl.keys[m].hold = some d))
    (d ≠ s.pnl.rowNext → freeCount s < 4 → s.pnl.events.length + due.length ≤ 32 →
      ∃ t, exec (.holdDeadline k) s = .next t ∧ t.now = now ∧ t.lnk = s.lnk ∧
        (∀ m : Fin 64, t.pnl.keys[m] =
          if m ∈ due then { s.pnl.keys[m] with hold := none, holdTaken := false } else s.pnl.keys[m]) ∧
        t.pnl.events = s.pnl.events ++ due.filterMap (fun m => if s.pnl.keys[m].down
          then s.pnl.keys[m].disposition.map (fun x => ⟨m.val, .hold, x, stamp, now⟩) else none))) ∧
  ∀ s : State, s.lnk.startUp = false →
    (freeCount s < 4 → exec .panelReportOffer s = .next s) ∧
    (∀ k rest, s.pnl.events = k :: rest → (∀ e : Fin 12, s.pnl.encs[e].sum = 0) → 4 ≤ freeCount s →
      exec .panelReportOffer s = .next { s with
        pnl := { s.pnl with events := rest }
        lnk := { s.lnk with outbound := s.lnk.outbound ++ [.report (.key k.key k.kind k.disposition k.stamp)] } })

/-- R165 to R169, R6: ENCODER_SAMPLE compares each pair of lines with the encoder's last pair, whatever the detents of the twelve
encoders do: a quarter step counts one up or down, a detent is recognised at +4 or -4 and the count becomes 0, and the sampled pair
becomes the last one (R162: where a row slot of the same instant waits, its events are made in that slot; on a blanked panel the
lines wait for the slot of their instant, where it has not come, and for the next sample at most, which is log 13's choice). The
acceleration factor follows R167's table. A detent, where no other encoder moves, unblanks the panel, is
discarded under a lock or without a target, edits its field, or is added to the encoder's pending sum. That a sample whose instant has
passed falls at the present instant is the model's choice (log 2). -/
def Obligations.EncoderSampleCountsQuarterSteps : Prop :=
  (∀ (a b : BitVec 12) (s : State), s.lnk.startUp = false →
    let v := match s.pnl.lines with
      | none => s
      | some (a0, b0) => sampleAll a0 b0 { s with pnl := { s.pnl with lines := none } }
    let sampled : State := { v with now := max v.now v.pnl.encNext, pnl := { v.pnl with encNext := v.pnl.encNext + 250000 } }
    exec (.encoderSample a b) s = .next (if v.pnl.encNext = v.pnl.rowNext then
        match v.pnl.contacts with
        | some contacts =>
          runSlot contacts { sampled with pnl := { sampled.pnl with lines := some (a, b), contacts := none } }
        | none => if v.pnl.blanked then { sampled with pnl := { sampled.pnl with lines := some (a, b) } }
          else sampleAll a b sampled
      else sampleAll a b sampled)) ∧
  (∀ (a b : BitVec 12) (s : State),
    let now := s.now
    let stamp := BitVec.ofNat 32 ((now - s.pnl.broughtUp) / 1000000)
    let pairOf (e : Fin 12) : Bool × Bool := (a.getLsbD e.val, b.getLsbD e.val)
    let movedFrom (e : Fin 12) (last : Bool × Bool) : Int := s.pnl.encs[e].quarter +
      (if (last, pairOf e) ∈ [((false, false), (true, false)), ((true, false), (true, true)), ((true, true), (false, true)),
          ((false, true), (false, false))] then 1
       else if (pairOf e, last) ∈ [((false, false), (true, false)), ((true, false), (true, true)),
          ((true, true), (false, true)), ((false, true), (false, false))] then -1 else 0)
    let t := sampleAll a b s
    t.now = now ∧ t.pnl.encNext = s.pnl.encNext ∧ t.pnl.rowNext = s.pnl.rowNext ∧
      (∀ e : Fin 12,
        t.pnl.encs[e].last = some (pairOf e) ∧
        (s.pnl.encs[e].last = none → t.pnl.encs[e].quarter = s.pnl.encs[e].quarter) ∧
        ∀ last, s.pnl.encs[e].last = some last →
          t.pnl.encs[e].quarter = if movedFrom e last = 4 ∨ movedFrom e last = -4 then 0 else movedFrom e last) ∧
      ∀ (e : Fin 12) (last : Bool × Bool) (up : Bool), s.pnl.encs[e].last = some last →
        movedFrom e last = (if up then 4 else -4) →
        (∀ f : Fin 12, f ≠ e → s.pnl.encs[f].last = none ∨ s.pnl.encs[f].last = some (pairOf f)) →
        let bound := s.pnl.encBindings[e]
        let m := bound.step * accelFactor bound.accel s.pnl.encs[e].acted now up
        let old := s.pnl.encs[e]
        let new := t.pnl.encs[e]
        (s.pnl.blanked = true → t.pnl.blanked = false ∧ t.cmp.blanked = false ∧ t.setup = s.setup ∧ new.acted = old.acted ∧
          (freeCount s < 4 → s.pnl.events.length < 32 → new.sum = old.sum ∧
            t.pnl.events = s.pnl.events ++ [⟨52 + e.val, .turn, .wake, stamp, now⟩])) ∧
        (s.pnl.blanked = false → s.pnl.lock ≠ .unlocked ∨ (bound.isLocal = true ∧ bound.target = none) →
          t.setup = s.setup ∧ t.lnk = s.lnk ∧ t.pnl.events = s.pnl.events ∧ new.acted = old.acted ∧ new.sum = old.sum) ∧
        (∀ f ∈ fieldTable, s.pnl.blanked = false → s.pnl.lock = .unlocked → bound.isLocal = true → bound.target = some f.id →
          let value := s.setup.get f.id
          let step : Int := if up then 1 else -1
          let by_ : Int := if f.id = 114 then max 1 (m * s.setup.viewSpan / 700 : Nat) else m
          let edited (v : Int) : Setup := recordAfter ⟨.panel, [(f.id, v)], false, false, none⟩ s
          new.acted = some (now, up) ∧ new.sum = old.sum ∧ t.setup = match f.kind with
            | .enum count => edited (max 0 (min (count - 1) (value + step)))
            | .index top => edited (max 0 (min top (value + step)))
            | .number lo hi => edited (max lo (min hi (value + step * by_)))
            | .seq => s.setup
            | .order => s.setup) ∧
        (s.pnl.blanked = false → s.pnl.lock = .unlocked → bound.isLocal = false →
          let v : Int := if up then m else -m
          new.acted = some (now, up) ∧ t.setup = s.setup ∧
          (∀ (before behind : List Record) (sum : Int) (then_ : Word32),
            s.lnk.outbound = before ++ .report (.encoder e sum then_) :: behind →
            (∀ q w, Record.report (.encoder e q w) ∉ before) → new.sum = old.sum ∧
              t.lnk.outbound = before ++ .report (.encoder e (max (-32767) (min 32767 (sum + v))) stamp) :: behind) ∧
          ((∀ q w, Record.report (.encoder e q w) ∉ s.lnk.outbound) →
            (freeCount s < 4 → new.sum = max (-32767) (min 32767 (old.sum + v)) ∧ new.stamp = stamp ∧
              new.since = (if old.sum = 0 then now else old.since) ∧ t.lnk = s.lnk) ∧
            (4 ≤ freeCount s → s.pnl.events = [] → (∀ f : Fin 12, s.pnl.encs[f].sum = 0) → bound.step ≠ 0 →
              new.sum = 0 ∧ t.lnk.outbound = s.lnk.outbound ++
                [.report (.encoder e (max (-32767) (min 32767 v)) stamp)])))) ∧
  ∀ (now then_ : Instant) (up was : Bool),
    accelFactor false none now up = 1 ∧
    accelFactor false (some (then_, was)) now up = 1 ∧ accelFactor true none now up = 1 ∧
    (was ≠ up → accelFactor true (some (then_, was)) now up = 1) ∧
    (was = up → accelFactor true (some (then_, was)) now up =
      if now - then_ < 15000000 then 8 else if now - then_ < 40000000 then 4 else 1)

/-! ### The setup store -/

/-- R183 to R190: the requests that start the store engine. An argument out of range, a BUSY engine, a protected slot or a table that
is not valid refuses them, in this order; an accepted request is answered ACCEPTED and the engine starts at its first step with what
it will write. A request taken before an autosave that waits for the IDLE engine lets it wait on where it is accepted (R190); a
refused one does not hold it up. That ON is 0 and OFF is 1 in STORE_PROTECT is the model's reading (log 12). -/
def Obligations.StoreRequestsStartTheEngine : Prop :=
  ∀ (tag : Byte) (s : State),
    let started (code : Byte) (job : StoreJob) (step : StoreStep) : State :=
      answered code tag .accepted .empty { taken s with sto := { s.sto with engine := some ⟨job, step, s.now⟩ } }
    let refused (i : Instr) (code : Byte) (st : Status) : Prop :=
      (s.sto.engine.isSome = true ∨ s.sto.autosavePending = false → exec i s = .next (answered code tag st .empty (taken s))) ∧
      (s.sto.engine = none → s.sto.autosavePending = true → ∃ record,
        exec i s = .next { answered code tag st .empty (taken s) with
          fresh := s.fresh + 1
          sto := { s.sto with autosavePending := false, engine := some ⟨.save 0 record, .erase, s.now⟩ } } ∧
        record.format = 1 ∧ record.label = [] ∧
        record.image = fieldIds.map (fun i => if i = 112 ∨ i = 113 then 0 else s.setup.get i))
    (∀ (slotByte : Byte) (label : List Byte), label.length ≤ 255 →
      let payload : List Byte := slotByte :: BitVec.ofNat 8 label.length :: label
      let put := Instr.storeSave tag payload
      let labelFits := label.length ≤ 16 ∧ ∀ c ∈ label, 32 ≤ c.toNat ∧ c.toNat ≤ 126
      CanTake 0x70 tag payload s →
      (¬ (1 ≤ slotByte.toNat ∧ slotByte.toNat ≤ 10 ∧ labelFits) → refused put 0x70 .badArg) ∧
      ∀ n : Fin 10, slotByte.toNat = n.val + 1 → labelFits →
        let slot := slotOfUser n
        (s.sto.engine.isSome = true → refused put 0x70 .busy) ∧
        (s.sto.engine = none → s.sto.header.protects[n] = true → refused put 0x70 .protectedSlot) ∧
        (s.sto.engine = none → s.sto.header.protects[n] = false →
          ∃ record, exec put s = .next { started 0x70 (.save slot record) .erase with fresh := s.fresh + 1 } ∧
            record.format = 1 ∧ record.label = label ∧
            record.image = fieldIds.map (fun i => if i = 112 ∨ i = 113 then 0 else s.setup.get i) ∧
            (s.sto.dir[slot].state = .valid → s.sto.dir[slot].saveCount ≠ 4294967295#32 →
              record.saveCount = s.sto.dir[slot].saveCount + 1) ∧
            (s.sto.dir[slot].state ≠ .valid → record.saveCount = 1))) ∧
    (∀ slotByte : Byte, CanTake 0x71 tag [slotByte] s →
      let load := Instr.storeRecall tag [slotByte]
      (10 < slotByte.toNat → refused load 0x71 .badArg) ∧
      (slotByte.toNat ≤ 10 → s.sto.engine.isSome = true → refused load 0x71 .busy) ∧
      ∀ n : Fin 11, slotByte.toNat = n.val → s.sto.engine = none → exec load s = .next (started 0x71 (.recall n) .read)) ∧
    (∀ slotByte : Byte, CanTake 0x72 tag [slotByte] s →
      let wipe := Instr.storeErase tag [slotByte]
      (10 < slotByte.toNat → refused wipe 0x72 .badArg) ∧
      (slotByte.toNat ≤ 10 → s.sto.engine.isSome = true → refused wipe 0x72 .busy) ∧
      (slotByte.toNat = 0 → s.sto.engine = none → exec wipe s = .next (started 0x72 (.erase 0) .erase)) ∧
      ∀ n : Fin 10, slotByte.toNat = n.val + 1 → s.sto.engine = none →
        (s.sto.header.protects[n] = true → refused wipe 0x72 .protectedSlot) ∧
        (s.sto.header.protects[n] = false → exec wipe s = .next (started 0x72 (.erase (slotOfUser n)) .erase))) ∧
    (∀ slotByte value : Byte, CanTake 0x73 tag [slotByte, value] s →
      let change := Instr.storeProtect tag [slotByte, value]
      (¬ (1 ≤ slotByte.toNat ∧ slotByte.toNat ≤ 10 ∧ value.toNat ≤ 1) → refused change 0x73 .badArg) ∧
      ∀ n : Fin 10, slotByte.toNat = n.val + 1 → value.toNat ≤ 1 →
        (s.sto.engine.isSome = true → refused change 0x73 .busy) ∧
        (s.sto.engine = none → exec change s = .next (started 0x73 (.protect n ⟨1, nextWriteCount s.sto.header,
          s.sto.header.source, s.sto.header.protects.set n (decide (value = 0))⟩) .erase))) ∧
    (∀ slotByte : Byte, ¬ (1 ≤ slotByte.toNat ∧ slotByte.toNat ≤ 10) → CanTake 0x75 tag [2, slotByte] s →
      refused (.storePowerOn tag [2, slotByte]) 0x75 .badArg) ∧
    (∀ p : PowerSource, CanTake 0x75 tag (sourceBytes p) s →
      (s.sto.engine.isSome = true → refused (.storePowerOn tag (sourceBytes p)) 0x75 .busy) ∧
      (s.sto.engine = none → exec (.storePowerOn tag (sourceBytes p)) s = .next (started 0x75
        (.powerOn ⟨1, nextWriteCount s.sto.header, p, s.sto.header.protects⟩) .erase))) ∧
    (CanTake 0x76 tag [] s →
      (s.sto.engine.isSome = true → refused (.calSave tag []) 0x76 .busy) ∧
      (s.sto.engine = none → s.fec.tableValid = false → refused (.calSave tag []) 0x76 .badState) ∧
      (s.sto.engine = none → s.fec.tableValid = true →
        exec (.calSave tag []) s = .next (started 0x76 (.calSave s.fec.live.toList) .erase)))

/-- R182, R184, R186 to R190: the steps of the write procedure. ERASE leaves the area erased and a slot EMPTY; PROGRAM leaves the
record in the area; a VERIFY that agrees ends the operation OK, with the directory or the header copy as the operation says; a VERIFY
that disagrees ends it FAILED. A waiting autosave then starts, unless a store request stands at the head of the inbound queue, which
is then taken first (log 16). AUTOSAVE_EXPIRY with the engine BUSY makes the autosave wait; that a deadline that
has passed falls at the present instant is the model's choice (log 2). -/
def Obligations.WriteProcedureRunsItsSteps : Prop :=
  ∀ (e : StoreEngine) (s : State), s.lnk.startUp = false → s.sto.engine = some e →
    let area := jobArea e.job s.sto.header
    (e.step = .erase → ∃ t, exec .eraseStepEnd s = .next t ∧ areaOf area t.sto.flash = none ∧
      (∀ b, b ≠ area → areaOf b t.sto.flash = areaOf b s.sto.flash) ∧
      (∀ n, area = .slot n → t.sto.dir[n] = ⟨.empty, 0, [], 0⟩) ∧ (∀ n : Fin 11, area ≠ .slot n → t.sto.dir[n] = s.sto.dir[n]) ∧
      (∃ step, t.sto.engine = some ⟨e.job, step, s.now⟩ ∧ (step = if jobOp e.job = .erase then .verify else .program)) ∧
      t = { s with sto := t.sto }) ∧
    (e.step = .program → ∃ t, exec .programStepEnd s = .next t ∧ areaOf area t.sto.flash = jobBytes e.job ∧
      (∀ b, b ≠ area → areaOf b t.sto.flash = areaOf b s.sto.flash) ∧ t.sto.dir = s.sto.dir ∧
      t.sto.engine = some ⟨e.job, .verify, s.now⟩ ∧ t = { s with sto := t.sto }) ∧
    (e.step = .verify → s.sto.autosavePending = false → ∃ t, exec (.verifyStepEnd true) s = .next t ∧
      t.sto.engine = none ∧ t.sto.fault = false ∧ t.sto.flash = s.sto.flash ∧
      (1 ≤ freeCount s → t.lnk.outbound = s.lnk.outbound ++
        [.report (.storeDone (jobOp e.job) (jobArg e.job) .ok none)]) ∧
      (∀ n r, e.job = .save n r → t.sto.dir = s.sto.dir.set n ⟨.valid, 1, r.label, r.saveCount⟩) ∧
      (∀ n, e.job = .erase n → t.sto.dir = s.sto.dir.set n ⟨.empty, 0, [], 0⟩) ∧
      (∀ r, (e.job = .powerOn r ∨ ∃ n, e.job = .protect n r) →
        t.sto.header = ⟨true, r.writeCount, r.source, r.protects, headerTargetB s.sto.header⟩ ∧ t.sto.dir = s.sto.dir) ∧
      (∀ vs, e.job = .calSave vs → t.sto.calDir = .valid)) ∧
    (e.step = .verify → s.sto.autosavePending = false → ∃ t, exec (.verifyStepEnd false) s = .next t ∧
      t.sto.engine = none ∧ t.sto.fault = true ∧ LatchedNow .storeFault (.store (jobOp e.job) .verify) s t ∧
      t.sto.header = s.sto.header ∧ (∀ n, area = .slot n → t.sto.dir[n].state = .damaged)) ∧
    (∀ agrees : Bool, e.step = .verify → s.sto.autosavePending = true →
      let storeRequest := ∃ f, s.lnk.inbound.head? = some f ∧ f.type ∈ [0x70#8, 0x71#8, 0x72#8, 0x73#8, 0x75#8, 0x76#8]
      (¬ storeRequest ∨ freeCount s < 2 → ∃ t record, exec (.verifyStepEnd agrees) s = .next t ∧
        t.sto.engine = some ⟨.save 0 record, .erase, s.now⟩ ∧ t.sto.autosavePending = false ∧ t.sto.fault = !agrees ∧
        record.format = 1 ∧ record.label = [] ∧
        record.image = fieldIds.map (fun i => if i = 112 ∨ i = 113 then 0 else s.setup.get i) ∧
        (agrees = true → 1 ≤ freeCount s → t.lnk.outbound = s.lnk.outbound ++
          [.report (.storeDone (jobOp e.job) (jobArg e.job) .ok none)])) ∧
      (storeRequest → 4 ≤ freeCount s → ∃ t, exec (.verifyStepEnd agrees) s = .next t ∧
        t.sto.engine = none ∧ t.sto.autosavePending = true ∧ t.lnk.inbound = s.lnk.inbound ∧ 2 ≤ freeCount t)) ∧
    ∀ d, s.sto.autosave = some d → exec .autosaveExpiry s = .next { s with
      now := max s.now d, sto := { s.sto with autosave := none, autosavePending := true } }

/-- R182, R185, R187, R190: STEP_TIMEOUT fails any step with cause NO_RESPONSE, and only the area being written can change (its
content is a free value, log 9); a header area is then no longer valid. READ_STEP_END: a recall of an erased slot ends NOT_FOUND, one
of a record that does not check DAMAGED, one of another format FORMAT, and one of a record of format 1 writes every image value that
passes its check and ends OK with the generation that results. A waiting autosave follows where no store request stands at the head of
the inbound queue (log 16), and one that is due with the engine IDLE starts at once. The instants of the timeout and of a deadline that has passed are the choice of log 2. -/
def Obligations.RecallTakesTheImageAndTimeoutsFail : Prop :=
  let noRequest (s : State) : Prop :=
    ∀ f, s.lnk.inbound.head? = some f → f.type ∉ [0x70#8, 0x71#8, 0x72#8, 0x73#8, 0x75#8, 0x76#8]
  (∀ (e : StoreEngine) (s : State), s.lnk.startUp = false → s.sto.engine = some e →
    ∃ t, exec .stepTimeout s = .next t ∧ t.sto.fault = true ∧
      t.now = max s.now (e.since + (if e.step = .erase then 500000000 else 50000000)) ∧
      LatchedNow .storeFault (.store (jobOp e.job) .noResponse) s t ∧ t.sto.header = s.sto.header ∧ t.setup = s.setup ∧
      (∀ b, b ≠ jobArea e.job s.sto.header ∨ jobOp e.job = .recall → areaOf b t.sto.flash = areaOf b s.sto.flash) ∧
      (∀ n, jobArea e.job s.sto.header = .slot n → t.sto.dir[n].state = .damaged) ∧
      (jobOp e.job = .protect ∨ jobOp e.job = .powerOn →
        readHeader (areaOf (jobArea e.job s.sto.header) t.sto.flash) = none) ∧
      (s.sto.autosavePending = false → t.sto.engine = none) ∧
      (s.sto.autosavePending = true → noRequest s → t.sto.autosavePending = false ∧
        ∃ record, t.sto.engine = some ⟨.save 0 record, .erase, t.now⟩)) ∧
  (∀ (n : Fin 11) (since : Instant) (s : State), s.lnk.startUp = false →
    s.sto.engine = some ⟨.recall n, .read, since⟩ →
    let found := readSlot s.sto.flash.slots[n]
    let ended (outcome : StoreOutcome) (t : State) : Prop :=
      1 ≤ freeCount s → t.lnk.outbound = s.lnk.outbound ++ [.report (.storeDone .recall (.slot n) outcome none)]
    ∃ t, exec .readStepEnd s = .next t ∧ t.sto.flash = s.sto.flash ∧ t.sto.fault = false ∧
      (s.sto.autosavePending = false → t.sto.engine = none) ∧
      (s.sto.autosavePending = true → noRequest s → t.sto.autosavePending = false ∧
        ∃ record, t.sto.engine = some ⟨.save 0 record, .erase, s.now⟩ ∧
          record.image = fieldIds.map (fun i => if i = 112 ∨ i = 113 then 0 else t.setup.get i)) ∧
      (s.sto.flash.slots[n] = none → t.setup = s.setup ∧ t.sto.dir[n].state = .empty ∧ ended .notFound t) ∧
      (s.sto.flash.slots[n] ≠ none → found.2 = none → t.setup = s.setup ∧ t.sto.dir[n].state = .damaged ∧ ended .damaged t) ∧
      ∀ r, found = (.valid, some r) → t.sto.dir[n] = ⟨.valid, r.format, r.label, r.saveCount⟩ ∧
        (r.format ≠ 1 → t.setup = s.setup ∧ ended .format t) ∧
        (r.format = 1 → t.setup = recordAfter (recallChangeSet n r.image s) s ∧
          t.generation = (if t.setup = s.setup then s.generation else s.generation + 1) ∧
          (t.setup = s.setup → 1 ≤ freeCount s → t.lnk.outbound = s.lnk.outbound ++
            [.report (.storeDone .recall (.slot n) .ok (some s.generation))]))) ∧
  ∀ (d : Instant) (s : State), s.lnk.startUp = false → s.sto.engine = none → s.sto.autosave = some d →
    ∃ t record, exec .autosaveExpiry s = .next t ∧ t = { s with
        now := max s.now d, fresh := s.fresh + 1
        sto := { s.sto with
          autosave := none, autosavePending := false, engine := some ⟨.save 0 record, .erase, max s.now d⟩ } } ∧
      record.format = 1 ∧ record.label = [] ∧
      record.image = fieldIds.map (fun i => if i = 112 ∨ i = 113 then 0 else s.setup.get i)

/-- R178 to R181: what a flash area's record holds is read back from the bytes it is programmed with, in the model's layout (log 11):
slot records, header records and calibration records. -/
def Obligations.FlashRecordsReadBack : Prop :=
  (∀ r : SlotRecord, r.format = 1 → r.label.length ≤ 16 → r.image.length = 83 →
    (∀ v ∈ r.image, -9223372036854775808 ≤ v ∧ v ≤ 9223372036854775807) → readSlot (some (slotBytes r)) = (.valid, some r)) ∧
  (∀ r : HeaderRecord, r.format = 1 → readHeader (some (headerBytes r)) = some r) ∧
  ∀ vs : List Int, vs.length = 52 → (∀ v ∈ vs, -32 ≤ v ∧ v ≤ 31) → readCal (some (calBytes vs)) = (.valid, some vs)

/-! ### The transfer engine -/

/-- R196, R197, R200, R201: XFER_START and XFER_ABORT. A start is refused by the first check of R196's table that fails; an accepted
one pins the source, gives the next id, clamps the count to the end of the record and answers before the first chunk; nothing else
changes. An abort waits for the end of a read, and discards a chunk that waits, with which the pin is released. -/
def Obligations.TransfersStartAndAbort : Prop :=
  (∀ (tag number : Byte) (form : Fin 3) (seq first count : Nat) (s : State), seq < 4294967296 → first < 4294967296 →
    count < 4294967296 →
    let source : List Byte :=
      if form = 0 then [0, number] else if form = 1 then 1 :: (beBytes 4 seq ++ [number]) else [2, number]
    let payload : List Byte := source ++ beBytes 4 first ++ beBytes 4 count
    let inForm := 1 ≤ number.toNat ∧ number.toNat ≤ 4 ∧ count ≠ 0
    let refused (st : Status) : Prop := exec (.xferStart tag payload) s = .next (answered 0x78 tag st .empty (taken s))
    let accepted (x : XferSource) (ofSeq : Nat) (ch : Channel) (n : Nat) (mem : Mem) : Prop :=
      exec (.xferStart tag payload) s = .next (answered 0x78 tag .accepted
        (.xferStart (s.xfr.counter + 1) ofSeq ch first (min count (n - first)) n)
        { taken s with
          mem := mem
          xfr := ⟨.reading, s.xfr.counter + 1, some ⟨s.xfr.counter + 1, x, n, first, min count (n - first), first, 0, false,
            false⟩, s.xfr.chunk⟩ })
    CanTake 0x78 tag payload s →
    (¬ inForm → refused .badArg) ∧
    (inForm → s.xfr.state ≠ .idle → refused .busy) ∧
    (inForm → s.xfr.state = .idle →
      (∀ ch : Channel, number.toNat = ch.val + 1 → form ≠ 2 →
        ((form = 0 → ∀ r ∈ s.mem.table, r.state ≠ .complete) → (form = 1 → ∀ r, findSeg seq s = some r → r.state ≠ .complete) →
          refused .notFound) ∧
        ∀ r : SegRec, findSeg r.seq s = some r → r.state = .complete →
          (form = 0 → ∃ a b, s.mem.table = a ++ r :: b ∧ ∀ x ∈ b, x.state ≠ .complete) → (form = 1 → seq = r.seq) →
          (r.set[ch] = false → refused .notFound) ∧
          (r.set[ch] = true → r.n ≤ first → refused .badArg) ∧
          (r.set[ch] = true → first < r.n → accepted (.segment r.seq ch) r.seq ch r.n { s.mem with
            table := s.mem.table.map (fun x => if x.seq = r.seq then { x with pins := { x.pins with transfer := true } } else x) })) ∧
      ∀ n : Fin 4, number.toNat = n.val + 1 → form = 2 →
        (s.mem.refs[n].contents = none → refused .notFound) ∧
        ∀ c, s.mem.refs[n].contents = some c →
          (c.n ≤ first → refused .badArg) ∧
          (first < c.n → accepted (.reference n) c.seq c.channel c.n { s.mem with
            refs := s.mem.refs.set n { s.mem.refs[n] with pinTransfer := true } }))) ∧
  ∀ (tag id : Byte) (s : State), CanTake 0x79 tag [id] s →
    (s.xfr.state = .idle → exec (.xferAbort tag [id]) s = .next (answered 0x79 tag .badState .empty (taken s))) ∧
    ∀ c, s.xfr.ctx = some c →
      (s.xfr.state ≠ .idle → id ≠ c.id →
        exec (.xferAbort tag [id]) s = .next (answered 0x79 tag .badArg .empty (taken s))) ∧
      (s.xfr.state = .reading → id = c.id → exec (.xferAbort tag [id]) s = .next (answered 0x79 tag .ok .empty
        { taken s with xfr := { s.xfr with ctx := some { c with abortPending := true } } })) ∧
      (s.xfr.state = .ending → id = c.id →
        exec (.xferAbort tag [id]) s = .next (answered 0x79 tag .ok .empty (taken s))) ∧
      (s.xfr.state = .waiting → id = c.id → ∃ t, exec (.xferAbort tag [id]) s = .next t ∧
        t.xfr = ⟨.ending, s.xfr.counter, some { c with aborted := true }, none⟩ ∧ TransferReleased c.source s t ∧
        s.lnk.outbound ++ [.reply ⟨tag, 0x79, .ok, .empty⟩] <+: t.lnk.outbound)

/-- R198, R199, R200, R203: a chunk holds up to 512 samples in logical order from the next offset; it is queued while at least 8
entries are free, the last one takes the engine to ENDING, with which the pin is released, and XFER_END names the samples queued. -/
def Obligations.TransferSendsItsChunks : Prop :=
  ∀ (c : XferContext) (s : State), s.lnk.startUp = false → s.xfr.ctx = some c →
    (s.xfr.state = .reading → c.abortPending = false → ∃ k, exec .chunkReadEnd s =
        .next { s with xfr := { s.xfr with state := .waiting, chunk := some k } } ∧
      k.offset = c.next ∧ k.samples.length = min 512 (c.first + c.count - c.next) ∧
      ∀ i, i < k.samples.length → k.samples[i]? = some (sourceSample c.source (c.next + i) s)) ∧
    (s.xfr.state = .reading → c.abortPending = true → ∃ t, exec .chunkReadEnd s = .next t ∧
      t.xfr = ⟨.ending, s.xfr.counter, some { c with aborted := true }, none⟩ ∧ TransferReleased c.source s t) ∧
    (∀ k, s.xfr.state = .waiting → s.xfr.chunk = some k →
      (freeCount s < 8 → exec .data s = .next s) ∧
      (8 ≤ freeCount s → c.queued + k.samples.length < c.count → exec .data s = .next { s with
        xfr := ⟨.reading, s.xfr.counter,
          some { c with queued := c.queued + k.samples.length, next := k.offset + k.samples.length }, none⟩
        lnk := { s.lnk with outbound := s.lnk.outbound ++ [.report (.data c.id k.offset k.samples)] } }) ∧
      (8 ≤ freeCount s → c.count ≤ c.queued + k.samples.length → ∃ t, exec .data s = .next t ∧
        s.lnk.outbound ++ [.report (.data c.id k.offset k.samples)] <+: t.lnk.outbound ∧
        t.xfr = ⟨.ending, s.xfr.counter, some { c with
          queued := c.queued + k.samples.length, next := k.offset + k.samples.length, aborted := false }, none⟩ ∧
        TransferReleased c.source s t)) ∧
    (s.xfr.state = .ending → exec .xferEnd s = .next (if 8 ≤ freeCount s then
      { s with xfr := ⟨.idle, s.xfr.counter, none, none⟩
               lnk := { s.lnk with outbound := s.lnk.outbound ++ [.report (.xferEnd c.id c.aborted c.queued)] } }
      else s))

/-! ### Laws that every step keeps -/

/-- The values that the invariants need hold at reset. -/
def Obligations.LawsHoldAtReset : Prop :=
  StoresCanonical State.reset ∧ OutboundLaw State.reset ∧ QueuesBounded State.reset ∧ HoldLaw State.reset ∧
  SetupLawful State.reset.setup ∧ ProtectedUntouched State.reset ∧ PagesPartitioned State.reset ∧ LatchedAtMeg1 State.reset ∧
  HistoryLaw State.reset ∧ ReferencesFit State.reset

/-- Sample memory, the planes, the overlay buffers, the glyph table and the frame keep their canonical form. -/
def Obligations.StepKeepsStoresCanonical : Prop :=
  ∀ s t : State, StoresCanonical s → step s = .next t → StoresCanonical t

/-- R66: every physical page stays in exactly one place. R70, R71, R73, R78, R80, R117, R195: no seq is borne twice, a record is
FILLING exactly while ACQ has a segment in flight, the pins of the records and of the reference slots are exactly those that their
holders hold, the render queue's segments are COMPLETE and none twice, and a transfer context is present exactly outside IDLE. -/
def Obligations.StepKeepsPagesPartitioned : Prop :=
  (∀ s t : State, PagesPartitioned s → step s = .next t → PagesPartitioned t) ∧
  ∀ s t : State, HistoryLaw s → step s = .next t → HistoryLaw t

/-- R208, R211: records and reservations number at most 64, each reply still owed has its reservation, and there is never more than
one unsent record of SETUP_CHANGED per field, of SETUP_RELOADED, of SEGMENT, or of ENCODER per encoder. -/
def Obligations.StepKeepsOutboundLaw : Prop :=
  ∀ s t : State, OutboundLaw s → step s = .next t → OutboundLaw t

/-- R207, R162, R149, R117: the inbound queue, the key event queue, the hold list and the render queue keep their bounds. R149: the
hold list is empty while the show-pending flag is CLEAR. R195: a transfer context is present exactly outside IDLE, and a chunk is in
hand exactly in WAITING. -/
def Obligations.StepKeepsQueuesBounded : Prop :=
  (∀ s t : State, QueuesBounded s → step s = .next t → QueuesBounded t) ∧
  (∀ s t : State, HoldLaw s → step s = .next t → HoldLaw t) ∧
  ∀ s t : State, TransferLaw s → step s = .next t → TransferLaw t

/-- R1: every field holds a value within its range, and no OHM50 channel has coupling AC or a scale index above 9. R10, R79: the
pages that the setup needs and those that the reference slots hold, or have been promised, stay within the good pages; where they do,
the pages needed never exceed the good pages less those of the VALID and COPYING slots. -/
def Obligations.StepKeepsSetupLawful : Prop :=
  (∀ s t : State, SetupLawful s.setup → step s = .next t → SetupLawful t.setup) ∧
  (∀ s t : State, ReferencesFit s → step s = .next t → ReferencesFit t) ∧
  ∀ s : State, ReferencesFit s → s.lnk.startUp = false →
    s.setup.pagesNeeded + (channels.map (fun n => heldPages s.mem.refs[n])).sum ≤ 2048 - s.mem.bad.length

/-- R183: no protected slot is written or erased: the engine runs no such operation, and what the area of a protected slot holds
stays as it is in every step. -/
def Obligations.StepKeepsProtectedSlotsUntouched : Prop :=
  ∀ s t : State, ProtectedUntouched s → step s = .next t → ProtectedUntouched t ∧ ProtectedAreasKept s t

/-- R40: while a channel's protect latch is set, its relay is at MEG1. -/
def Obligations.StepKeepsLatchedChannelsAtMeg1 : Prop :=
  ∀ s t : State, LatchedAtMeg1 s → step s = .next t → LatchedAtMeg1 t
end

