-- ==== Sys2Proof/Laws/State.lean ====
section
/-! SUPPORT. One lemma per field for each named update of the state: what the update writes, and that every other field stays. -/

namespace Sys2Proof.Machine

@[simp] theorem reach_pending (t : Instant) (s : State) : (reach t s).pending = s.pending := rfl
@[simp] theorem reach_now (t : Instant) (s : State) : (reach t s).now = max s.now t := rfl
@[simp] theorem reach_fresh (t : Instant) (s : State) : (reach t s).fresh = s.fresh := rfl
@[simp] theorem reach_setup (t : Instant) (s : State) : (reach t s).setup = s.setup := rfl
@[simp] theorem reach_generation (t : Instant) (s : State) : (reach t s).generation = s.generation := rfl
@[simp] theorem reach_fallbacks (t : Instant) (s : State) : (reach t s).fallbacks = s.fallbacks := rfl
@[simp] theorem reach_fec (t : Instant) (s : State) : (reach t s).fec = s.fec := rfl
@[simp] theorem reach_trg (t : Instant) (s : State) : (reach t s).trg = s.trg := rfl
@[simp] theorem reach_mem (t : Instant) (s : State) : (reach t s).mem = s.mem := rfl
@[simp] theorem reach_acq (t : Instant) (s : State) : (reach t s).acq = s.acq := rfl
@[simp] theorem reach_rnd (t : Instant) (s : State) : (reach t s).rnd = s.rnd := rfl
@[simp] theorem reach_cmp (t : Instant) (s : State) : (reach t s).cmp = s.cmp := rfl
@[simp] theorem reach_pnl (t : Instant) (s : State) : (reach t s).pnl = s.pnl := rfl
@[simp] theorem reach_sto (t : Instant) (s : State) : (reach t s).sto = s.sto := rfl
@[simp] theorem reach_xfr (t : Instant) (s : State) : (reach t s).xfr = s.xfr := rfl
@[simp] theorem reach_lnk (t : Instant) (s : State) : (reach t s).lnk = s.lnk := rfl

@[simp] theorem drawn_pending (s : State) : (drawn s).pending = s.pending := rfl
@[simp] theorem drawn_now (s : State) : (drawn s).now = s.now := rfl
@[simp] theorem drawn_fresh (s : State) : (drawn s).fresh = s.fresh + 1 := rfl
@[simp] theorem drawn_setup (s : State) : (drawn s).setup = s.setup := rfl
@[simp] theorem drawn_generation (s : State) : (drawn s).generation = s.generation := rfl
@[simp] theorem drawn_fallbacks (s : State) : (drawn s).fallbacks = s.fallbacks := rfl
@[simp] theorem drawn_fec (s : State) : (drawn s).fec = s.fec := rfl
@[simp] theorem drawn_trg (s : State) : (drawn s).trg = s.trg := rfl
@[simp] theorem drawn_mem (s : State) : (drawn s).mem = s.mem := rfl
@[simp] theorem drawn_acq (s : State) : (drawn s).acq = s.acq := rfl
@[simp] theorem drawn_rnd (s : State) : (drawn s).rnd = s.rnd := rfl
@[simp] theorem drawn_cmp (s : State) : (drawn s).cmp = s.cmp := rfl
@[simp] theorem drawn_pnl (s : State) : (drawn s).pnl = s.pnl := rfl
@[simp] theorem drawn_sto (s : State) : (drawn s).sto = s.sto := rfl
@[simp] theorem drawn_xfr (s : State) : (drawn s).xfr = s.xfr := rfl
@[simp] theorem drawn_lnk (s : State) : (drawn s).lnk = s.lnk := rfl

@[simp] theorem enqueue_pending (r : Record) (s : State) : (enqueue r s).pending = s.pending := rfl
@[simp] theorem enqueue_now (r : Record) (s : State) : (enqueue r s).now = s.now := rfl
@[simp] theorem enqueue_fresh (r : Record) (s : State) : (enqueue r s).fresh = s.fresh := rfl
@[simp] theorem enqueue_setup (r : Record) (s : State) : (enqueue r s).setup = s.setup := rfl
@[simp] theorem enqueue_generation (r : Record) (s : State) : (enqueue r s).generation = s.generation := rfl
@[simp] theorem enqueue_fallbacks (r : Record) (s : State) : (enqueue r s).fallbacks = s.fallbacks := rfl
@[simp] theorem enqueue_fec (r : Record) (s : State) : (enqueue r s).fec = s.fec := rfl
@[simp] theorem enqueue_trg (r : Record) (s : State) : (enqueue r s).trg = s.trg := rfl
@[simp] theorem enqueue_mem (r : Record) (s : State) : (enqueue r s).mem = s.mem := rfl
@[simp] theorem enqueue_acq (r : Record) (s : State) : (enqueue r s).acq = s.acq := rfl
@[simp] theorem enqueue_rnd (r : Record) (s : State) : (enqueue r s).rnd = s.rnd := rfl
@[simp] theorem enqueue_cmp (r : Record) (s : State) : (enqueue r s).cmp = s.cmp := rfl
@[simp] theorem enqueue_pnl (r : Record) (s : State) : (enqueue r s).pnl = s.pnl := rfl
@[simp] theorem enqueue_sto (r : Record) (s : State) : (enqueue r s).sto = s.sto := rfl
@[simp] theorem enqueue_xfr (r : Record) (s : State) : (enqueue r s).xfr = s.xfr := rfl
@[simp] theorem enqueue_lnk (r : Record) (s : State) : (enqueue r s).lnk = { s.lnk with outbound := s.lnk.outbound ++ [r] } := rfl

@[simp] theorem reserve_pending (s : State) : (reserve s).pending = s.pending := rfl
@[simp] theorem reserve_now (s : State) : (reserve s).now = s.now := rfl
@[simp] theorem reserve_fresh (s : State) : (reserve s).fresh = s.fresh := rfl
@[simp] theorem reserve_setup (s : State) : (reserve s).setup = s.setup := rfl
@[simp] theorem reserve_generation (s : State) : (reserve s).generation = s.generation := rfl
@[simp] theorem reserve_fallbacks (s : State) : (reserve s).fallbacks = s.fallbacks := rfl
@[simp] theorem reserve_fec (s : State) : (reserve s).fec = s.fec := rfl
@[simp] theorem reserve_trg (s : State) : (reserve s).trg = s.trg := rfl
@[simp] theorem reserve_mem (s : State) : (reserve s).mem = s.mem := rfl
@[simp] theorem reserve_acq (s : State) : (reserve s).acq = s.acq := rfl
@[simp] theorem reserve_rnd (s : State) : (reserve s).rnd = s.rnd := rfl
@[simp] theorem reserve_cmp (s : State) : (reserve s).cmp = s.cmp := rfl
@[simp] theorem reserve_pnl (s : State) : (reserve s).pnl = s.pnl := rfl
@[simp] theorem reserve_sto (s : State) : (reserve s).sto = s.sto := rfl
@[simp] theorem reserve_xfr (s : State) : (reserve s).xfr = s.xfr := rfl
@[simp] theorem reserve_lnk (s : State) : (reserve s).lnk = { s.lnk with reservations := s.lnk.reservations + 1 } := rfl

@[simp] theorem reply_pending (q g : Byte) (st : Status) (b : ReplyBody) (s : State) : (reply q g st b s).pending = s.pending := rfl
@[simp] theorem reply_now (q g : Byte) (st : Status) (b : ReplyBody) (s : State) : (reply q g st b s).now = s.now := rfl
@[simp] theorem reply_fresh (q g : Byte) (st : Status) (b : ReplyBody) (s : State) : (reply q g st b s).fresh = s.fresh := rfl
@[simp] theorem reply_setup (q g : Byte) (st : Status) (b : ReplyBody) (s : State) : (reply q g st b s).setup = s.setup := rfl
@[simp] theorem reply_generation (q g : Byte) (st : Status) (b : ReplyBody) (s : State) : (reply q g st b s).generation = s.generation := rfl
@[simp] theorem reply_fallbacks (q g : Byte) (st : Status) (b : ReplyBody) (s : State) : (reply q g st b s).fallbacks = s.fallbacks := rfl
@[simp] theorem reply_fec (q g : Byte) (st : Status) (b : ReplyBody) (s : State) : (reply q g st b s).fec = s.fec := rfl
@[simp] theorem reply_trg (q g : Byte) (st : Status) (b : ReplyBody) (s : State) : (reply q g st b s).trg = s.trg := rfl
@[simp] theorem reply_mem (q g : Byte) (st : Status) (b : ReplyBody) (s : State) : (reply q g st b s).mem = s.mem := rfl
@[simp] theorem reply_acq (q g : Byte) (st : Status) (b : ReplyBody) (s : State) : (reply q g st b s).acq = s.acq := rfl
@[simp] theorem reply_rnd (q g : Byte) (st : Status) (b : ReplyBody) (s : State) : (reply q g st b s).rnd = s.rnd := rfl
@[simp] theorem reply_cmp (q g : Byte) (st : Status) (b : ReplyBody) (s : State) : (reply q g st b s).cmp = s.cmp := rfl
@[simp] theorem reply_pnl (q g : Byte) (st : Status) (b : ReplyBody) (s : State) : (reply q g st b s).pnl = s.pnl := rfl
@[simp] theorem reply_sto (q g : Byte) (st : Status) (b : ReplyBody) (s : State) : (reply q g st b s).sto = s.sto := rfl
@[simp] theorem reply_xfr (q g : Byte) (st : Status) (b : ReplyBody) (s : State) : (reply q g st b s).xfr = s.xfr := rfl
@[simp] theorem reply_lnk (q g : Byte) (st : Status) (b : ReplyBody) (s : State) : (reply q g st b s).lnk = { s.lnk with outbound := s.lnk.outbound ++ [.reply ⟨g, q, st, b⟩], reservations := s.lnk.reservations - 1 } := rfl

@[simp] theorem setLatched_pending (c : Condition) (d : CauseDetail) (s : State) : (setLatched c d s).pending = s.pending := rfl
@[simp] theorem setLatched_now (c : Condition) (d : CauseDetail) (s : State) : (setLatched c d s).now = s.now := rfl
@[simp] theorem setLatched_fresh (c : Condition) (d : CauseDetail) (s : State) : (setLatched c d s).fresh = s.fresh := rfl
@[simp] theorem setLatched_setup (c : Condition) (d : CauseDetail) (s : State) : (setLatched c d s).setup = s.setup := rfl
@[simp] theorem setLatched_generation (c : Condition) (d : CauseDetail) (s : State) : (setLatched c d s).generation = s.generation := rfl
@[simp] theorem setLatched_fallbacks (c : Condition) (d : CauseDetail) (s : State) : (setLatched c d s).fallbacks = s.fallbacks := rfl
@[simp] theorem setLatched_fec (c : Condition) (d : CauseDetail) (s : State) : (setLatched c d s).fec = s.fec := rfl
@[simp] theorem setLatched_trg (c : Condition) (d : CauseDetail) (s : State) : (setLatched c d s).trg = s.trg := rfl
@[simp] theorem setLatched_mem (c : Condition) (d : CauseDetail) (s : State) : (setLatched c d s).mem = s.mem := rfl
@[simp] theorem setLatched_acq (c : Condition) (d : CauseDetail) (s : State) : (setLatched c d s).acq = s.acq := rfl
@[simp] theorem setLatched_rnd (c : Condition) (d : CauseDetail) (s : State) : (setLatched c d s).rnd = s.rnd := rfl
@[simp] theorem setLatched_cmp (c : Condition) (d : CauseDetail) (s : State) : (setLatched c d s).cmp = s.cmp := rfl
@[simp] theorem setLatched_pnl (c : Condition) (d : CauseDetail) (s : State) : (setLatched c d s).pnl = s.pnl := rfl
@[simp] theorem setLatched_sto (c : Condition) (d : CauseDetail) (s : State) : (setLatched c d s).sto = s.sto := rfl
@[simp] theorem setLatched_xfr (c : Condition) (d : CauseDetail) (s : State) : (setLatched c d s).xfr = s.xfr := rfl
@[simp] theorem setLatched_lnk (c : Condition) (d : CauseDetail) (s : State) : (setLatched c d s).lnk = { s.lnk with conds := vmod s.lnk.conds (condCode c) (fun e => { e with latched := true, cause := d }) } := rfl

@[simp] theorem clearLatched_pending (c : Condition) (s : State) : (clearLatched c s).pending = s.pending := rfl
@[simp] theorem clearLatched_now (c : Condition) (s : State) : (clearLatched c s).now = s.now := rfl
@[simp] theorem clearLatched_fresh (c : Condition) (s : State) : (clearLatched c s).fresh = s.fresh := rfl
@[simp] theorem clearLatched_setup (c : Condition) (s : State) : (clearLatched c s).setup = s.setup := rfl
@[simp] theorem clearLatched_generation (c : Condition) (s : State) : (clearLatched c s).generation = s.generation := rfl
@[simp] theorem clearLatched_fallbacks (c : Condition) (s : State) : (clearLatched c s).fallbacks = s.fallbacks := rfl
@[simp] theorem clearLatched_fec (c : Condition) (s : State) : (clearLatched c s).fec = s.fec := rfl
@[simp] theorem clearLatched_trg (c : Condition) (s : State) : (clearLatched c s).trg = s.trg := rfl
@[simp] theorem clearLatched_mem (c : Condition) (s : State) : (clearLatched c s).mem = s.mem := rfl
@[simp] theorem clearLatched_acq (c : Condition) (s : State) : (clearLatched c s).acq = s.acq := rfl
@[simp] theorem clearLatched_rnd (c : Condition) (s : State) : (clearLatched c s).rnd = s.rnd := rfl
@[simp] theorem clearLatched_cmp (c : Condition) (s : State) : (clearLatched c s).cmp = s.cmp := rfl
@[simp] theorem clearLatched_pnl (c : Condition) (s : State) : (clearLatched c s).pnl = s.pnl := rfl
@[simp] theorem clearLatched_sto (c : Condition) (s : State) : (clearLatched c s).sto = s.sto := rfl
@[simp] theorem clearLatched_xfr (c : Condition) (s : State) : (clearLatched c s).xfr = s.xfr := rfl
@[simp] theorem clearLatched_lnk (c : Condition) (s : State) : (clearLatched c s).lnk = { s.lnk with conds := vmod s.lnk.conds (condCode c) (fun e => { e with latched := false, cause := .absent }) } := rfl

@[simp] theorem setRoute_pending (c : Condition) (r : Route) (s : State) : (setRoute c r s).pending = s.pending := rfl
@[simp] theorem setRoute_now (c : Condition) (r : Route) (s : State) : (setRoute c r s).now = s.now := rfl
@[simp] theorem setRoute_fresh (c : Condition) (r : Route) (s : State) : (setRoute c r s).fresh = s.fresh := rfl
@[simp] theorem setRoute_setup (c : Condition) (r : Route) (s : State) : (setRoute c r s).setup = s.setup := rfl
@[simp] theorem setRoute_generation (c : Condition) (r : Route) (s : State) : (setRoute c r s).generation = s.generation := rfl
@[simp] theorem setRoute_fallbacks (c : Condition) (r : Route) (s : State) : (setRoute c r s).fallbacks = s.fallbacks := rfl
@[simp] theorem setRoute_fec (c : Condition) (r : Route) (s : State) : (setRoute c r s).fec = s.fec := rfl
@[simp] theorem setRoute_trg (c : Condition) (r : Route) (s : State) : (setRoute c r s).trg = s.trg := rfl
@[simp] theorem setRoute_mem (c : Condition) (r : Route) (s : State) : (setRoute c r s).mem = s.mem := rfl
@[simp] theorem setRoute_acq (c : Condition) (r : Route) (s : State) : (setRoute c r s).acq = s.acq := rfl
@[simp] theorem setRoute_rnd (c : Condition) (r : Route) (s : State) : (setRoute c r s).rnd = s.rnd := rfl
@[simp] theorem setRoute_cmp (c : Condition) (r : Route) (s : State) : (setRoute c r s).cmp = s.cmp := rfl
@[simp] theorem setRoute_pnl (c : Condition) (r : Route) (s : State) : (setRoute c r s).pnl = s.pnl := rfl
@[simp] theorem setRoute_sto (c : Condition) (r : Route) (s : State) : (setRoute c r s).sto = s.sto := rfl
@[simp] theorem setRoute_xfr (c : Condition) (r : Route) (s : State) : (setRoute c r s).xfr = s.xfr := rfl
@[simp] theorem setRoute_lnk (c : Condition) (r : Route) (s : State) : (setRoute c r s).lnk = { s.lnk with conds := vmod s.lnk.conds (condCode c) (fun e => { e with route := r }) } := rfl

@[simp] theorem setAcq_pending (a : AcqState) (s : State) : (setAcq a s).pending = s.pending := rfl
@[simp] theorem setAcq_now (a : AcqState) (s : State) : (setAcq a s).now = s.now := rfl
@[simp] theorem setAcq_fresh (a : AcqState) (s : State) : (setAcq a s).fresh = s.fresh := rfl
@[simp] theorem setAcq_setup (a : AcqState) (s : State) : (setAcq a s).setup = s.setup := rfl
@[simp] theorem setAcq_generation (a : AcqState) (s : State) : (setAcq a s).generation = s.generation := rfl
@[simp] theorem setAcq_fallbacks (a : AcqState) (s : State) : (setAcq a s).fallbacks = s.fallbacks := rfl
@[simp] theorem setAcq_fec (a : AcqState) (s : State) : (setAcq a s).fec = s.fec := rfl
@[simp] theorem setAcq_trg (a : AcqState) (s : State) : (setAcq a s).trg = s.trg := rfl
@[simp] theorem setAcq_mem (a : AcqState) (s : State) : (setAcq a s).mem = s.mem := rfl
@[simp] theorem setAcq_acq (a : AcqState) (s : State) : (setAcq a s).acq = { s.acq with state := a } := rfl
@[simp] theorem setAcq_rnd (a : AcqState) (s : State) : (setAcq a s).rnd = s.rnd := rfl
@[simp] theorem setAcq_cmp (a : AcqState) (s : State) : (setAcq a s).cmp = s.cmp := rfl
@[simp] theorem setAcq_pnl (a : AcqState) (s : State) : (setAcq a s).pnl = s.pnl := rfl
@[simp] theorem setAcq_sto (a : AcqState) (s : State) : (setAcq a s).sto = s.sto := rfl
@[simp] theorem setAcq_xfr (a : AcqState) (s : State) : (setAcq a s).xfr = s.xfr := rfl
@[simp] theorem setAcq_lnk (a : AcqState) (s : State) : (setAcq a s).lnk = s.lnk := rfl

@[simp] theorem restartGate_pending (s : State) : (restartGate s).pending = s.pending := rfl
@[simp] theorem restartGate_now (s : State) : (restartGate s).now = s.now := rfl
@[simp] theorem restartGate_fresh (s : State) : (restartGate s).fresh = s.fresh := rfl
@[simp] theorem restartGate_setup (s : State) : (restartGate s).setup = s.setup := rfl
@[simp] theorem restartGate_generation (s : State) : (restartGate s).generation = s.generation := rfl
@[simp] theorem restartGate_fallbacks (s : State) : (restartGate s).fallbacks = s.fallbacks := rfl
@[simp] theorem restartGate_fec (s : State) : (restartGate s).fec = s.fec := rfl
@[simp] theorem restartGate_trg (s : State) : (restartGate s).trg = { s.trg with gateStart := s.now, count := 0 } := rfl
@[simp] theorem restartGate_mem (s : State) : (restartGate s).mem = s.mem := rfl
@[simp] theorem restartGate_acq (s : State) : (restartGate s).acq = s.acq := rfl
@[simp] theorem restartGate_rnd (s : State) : (restartGate s).rnd = s.rnd := rfl
@[simp] theorem restartGate_cmp (s : State) : (restartGate s).cmp = s.cmp := rfl
@[simp] theorem restartGate_pnl (s : State) : (restartGate s).pnl = s.pnl := rfl
@[simp] theorem restartGate_sto (s : State) : (restartGate s).sto = s.sto := rfl
@[simp] theorem restartGate_xfr (s : State) : (restartGate s).xfr = s.xfr := rfl
@[simp] theorem restartGate_lnk (s : State) : (restartGate s).lnk = s.lnk := rfl

@[simp] theorem stopAutoWait_pending (s : State) : (stopAutoWait s).pending = s.pending := rfl
@[simp] theorem stopAutoWait_now (s : State) : (stopAutoWait s).now = s.now := rfl
@[simp] theorem stopAutoWait_fresh (s : State) : (stopAutoWait s).fresh = s.fresh := rfl
@[simp] theorem stopAutoWait_setup (s : State) : (stopAutoWait s).setup = s.setup := rfl
@[simp] theorem stopAutoWait_generation (s : State) : (stopAutoWait s).generation = s.generation := rfl
@[simp] theorem stopAutoWait_fallbacks (s : State) : (stopAutoWait s).fallbacks = s.fallbacks := rfl
@[simp] theorem stopAutoWait_fec (s : State) : (stopAutoWait s).fec = s.fec := rfl
@[simp] theorem stopAutoWait_trg (s : State) : (stopAutoWait s).trg = { s.trg with autoWait := none } := rfl
@[simp] theorem stopAutoWait_mem (s : State) : (stopAutoWait s).mem = s.mem := rfl
@[simp] theorem stopAutoWait_acq (s : State) : (stopAutoWait s).acq = s.acq := rfl
@[simp] theorem stopAutoWait_rnd (s : State) : (stopAutoWait s).rnd = s.rnd := rfl
@[simp] theorem stopAutoWait_cmp (s : State) : (stopAutoWait s).cmp = s.cmp := rfl
@[simp] theorem stopAutoWait_pnl (s : State) : (stopAutoWait s).pnl = s.pnl := rfl
@[simp] theorem stopAutoWait_sto (s : State) : (stopAutoWait s).sto = s.sto := rfl
@[simp] theorem stopAutoWait_xfr (s : State) : (stopAutoWait s).xfr = s.xfr := rfl
@[simp] theorem stopAutoWait_lnk (s : State) : (stopAutoWait s).lnk = s.lnk := rfl

@[simp] theorem startIndications_pending (s : State) : (startIndications s).pending = s.pending := rfl
@[simp] theorem startIndications_now (s : State) : (startIndications s).now = s.now := rfl
@[simp] theorem startIndications_fresh (s : State) : (startIndications s).fresh = s.fresh := rfl
@[simp] theorem startIndications_setup (s : State) : (startIndications s).setup = s.setup := rfl
@[simp] theorem startIndications_generation (s : State) : (startIndications s).generation = s.generation := rfl
@[simp] theorem startIndications_fallbacks (s : State) : (startIndications s).fallbacks = s.fallbacks := rfl
@[simp] theorem startIndications_fec (s : State) : (startIndications s).fec = s.fec := rfl
@[simp] theorem startIndications_trg (s : State) : (startIndications s).trg = { s.trg with pulse := some (s.now + 100), indication := some (s.now + 100 * oneMs) } := rfl
@[simp] theorem startIndications_mem (s : State) : (startIndications s).mem = s.mem := rfl
@[simp] theorem startIndications_acq (s : State) : (startIndications s).acq = s.acq := rfl
@[simp] theorem startIndications_rnd (s : State) : (startIndications s).rnd = s.rnd := rfl
@[simp] theorem startIndications_cmp (s : State) : (startIndications s).cmp = s.cmp := rfl
@[simp] theorem startIndications_pnl (s : State) : (startIndications s).pnl = s.pnl := rfl
@[simp] theorem startIndications_sto (s : State) : (startIndications s).sto = s.sto := rfl
@[simp] theorem startIndications_xfr (s : State) : (startIndications s).xfr = s.xfr := rfl
@[simp] theorem startIndications_lnk (s : State) : (startIndications s).lnk = s.lnk := rfl

@[simp] theorem setProtect_pending (ch : Channel) (s : State) : (setProtect ch s).pending = s.pending := rfl
@[simp] theorem setProtect_now (ch : Channel) (s : State) : (setProtect ch s).now = s.now := rfl
@[simp] theorem setProtect_fresh (ch : Channel) (s : State) : (setProtect ch s).fresh = s.fresh := rfl
@[simp] theorem setProtect_setup (ch : Channel) (s : State) : (setProtect ch s).setup = s.setup := rfl
@[simp] theorem setProtect_generation (ch : Channel) (s : State) : (setProtect ch s).generation = s.generation := rfl
@[simp] theorem setProtect_fallbacks (ch : Channel) (s : State) : (setProtect ch s).fallbacks = s.fallbacks := rfl
@[simp] theorem setProtect_trg (ch : Channel) (s : State) : (setProtect ch s).trg = s.trg := rfl
@[simp] theorem setProtect_mem (ch : Channel) (s : State) : (setProtect ch s).mem = s.mem := rfl
@[simp] theorem setProtect_acq (ch : Channel) (s : State) : (setProtect ch s).acq = s.acq := rfl
@[simp] theorem setProtect_rnd (ch : Channel) (s : State) : (setProtect ch s).rnd = s.rnd := rfl
@[simp] theorem setProtect_cmp (ch : Channel) (s : State) : (setProtect ch s).cmp = s.cmp := rfl
@[simp] theorem setProtect_pnl (ch : Channel) (s : State) : (setProtect ch s).pnl = s.pnl := rfl
@[simp] theorem setProtect_sto (ch : Channel) (s : State) : (setProtect ch s).sto = s.sto := rfl
@[simp] theorem setProtect_xfr (ch : Channel) (s : State) : (setProtect ch s).xfr = s.xfr := rfl
@[simp] theorem setProtect_lnk (ch : Channel) (s : State) : (setProtect ch s).lnk = s.lnk := rfl

@[simp] theorem clearLatch_pending (ch : Channel) (s : State) : (clearLatch ch s).pending = s.pending := rfl
@[simp] theorem clearLatch_now (ch : Channel) (s : State) : (clearLatch ch s).now = s.now := rfl
@[simp] theorem clearLatch_fresh (ch : Channel) (s : State) : (clearLatch ch s).fresh = s.fresh := rfl
@[simp] theorem clearLatch_setup (ch : Channel) (s : State) : (clearLatch ch s).setup = s.setup := rfl
@[simp] theorem clearLatch_generation (ch : Channel) (s : State) : (clearLatch ch s).generation = s.generation := rfl
@[simp] theorem clearLatch_fallbacks (ch : Channel) (s : State) : (clearLatch ch s).fallbacks = s.fallbacks := rfl
@[simp] theorem clearLatch_fec (ch : Channel) (s : State) : (clearLatch ch s).fec = { s.fec with latch := s.fec.latch.set ch false } := rfl
@[simp] theorem clearLatch_trg (ch : Channel) (s : State) : (clearLatch ch s).trg = s.trg := rfl
@[simp] theorem clearLatch_mem (ch : Channel) (s : State) : (clearLatch ch s).mem = s.mem := rfl
@[simp] theorem clearLatch_acq (ch : Channel) (s : State) : (clearLatch ch s).acq = s.acq := rfl
@[simp] theorem clearLatch_rnd (ch : Channel) (s : State) : (clearLatch ch s).rnd = s.rnd := rfl
@[simp] theorem clearLatch_cmp (ch : Channel) (s : State) : (clearLatch ch s).cmp = s.cmp := rfl
@[simp] theorem clearLatch_pnl (ch : Channel) (s : State) : (clearLatch ch s).pnl = s.pnl := rfl
@[simp] theorem clearLatch_sto (ch : Channel) (s : State) : (clearLatch ch s).sto = s.sto := rfl
@[simp] theorem clearLatch_xfr (ch : Channel) (s : State) : (clearLatch ch s).xfr = s.xfr := rfl
@[simp] theorem clearLatch_lnk (ch : Channel) (s : State) : (clearLatch ch s).lnk = s.lnk := rfl

@[simp] theorem adoptStaged_pending (s : State) : (adoptStaged s).pending = s.pending := rfl
@[simp] theorem adoptStaged_now (s : State) : (adoptStaged s).now = s.now := rfl
@[simp] theorem adoptStaged_fresh (s : State) : (adoptStaged s).fresh = s.fresh := rfl
@[simp] theorem adoptStaged_setup (s : State) : (adoptStaged s).setup = s.setup := rfl
@[simp] theorem adoptStaged_generation (s : State) : (adoptStaged s).generation = s.generation := rfl
@[simp] theorem adoptStaged_fallbacks (s : State) : (adoptStaged s).fallbacks = s.fallbacks := rfl
@[simp] theorem adoptStaged_fec (s : State) : (adoptStaged s).fec = { s.fec with live := s.fec.staged, tableValid := true } := rfl
@[simp] theorem adoptStaged_trg (s : State) : (adoptStaged s).trg = s.trg := rfl
@[simp] theorem adoptStaged_mem (s : State) : (adoptStaged s).mem = s.mem := rfl
@[simp] theorem adoptStaged_acq (s : State) : (adoptStaged s).acq = s.acq := rfl
@[simp] theorem adoptStaged_rnd (s : State) : (adoptStaged s).rnd = s.rnd := rfl
@[simp] theorem adoptStaged_cmp (s : State) : (adoptStaged s).cmp = s.cmp := rfl
@[simp] theorem adoptStaged_pnl (s : State) : (adoptStaged s).pnl = s.pnl := rfl
@[simp] theorem adoptStaged_sto (s : State) : (adoptStaged s).sto = s.sto := rfl
@[simp] theorem adoptStaged_xfr (s : State) : (adoptStaged s).xfr = s.xfr := rfl
@[simp] theorem adoptStaged_lnk (s : State) : (adoptStaged s).lnk = s.lnk := rfl

@[simp] theorem freePages_pending (ps : List Nat) (s : State) : (freePages ps s).pending = s.pending := rfl
@[simp] theorem freePages_now (ps : List Nat) (s : State) : (freePages ps s).now = s.now := rfl
@[simp] theorem freePages_fresh (ps : List Nat) (s : State) : (freePages ps s).fresh = s.fresh := rfl
@[simp] theorem freePages_setup (ps : List Nat) (s : State) : (freePages ps s).setup = s.setup := rfl
@[simp] theorem freePages_generation (ps : List Nat) (s : State) : (freePages ps s).generation = s.generation := rfl
@[simp] theorem freePages_fallbacks (ps : List Nat) (s : State) : (freePages ps s).fallbacks = s.fallbacks := rfl
@[simp] theorem freePages_fec (ps : List Nat) (s : State) : (freePages ps s).fec = s.fec := rfl
@[simp] theorem freePages_trg (ps : List Nat) (s : State) : (freePages ps s).trg = s.trg := rfl
@[simp] theorem freePages_mem (ps : List Nat) (s : State) : (freePages ps s).mem = { s.mem with pool := s.mem.pool ++ sortAsc ps } := rfl
@[simp] theorem freePages_acq (ps : List Nat) (s : State) : (freePages ps s).acq = s.acq := rfl
@[simp] theorem freePages_rnd (ps : List Nat) (s : State) : (freePages ps s).rnd = s.rnd := rfl
@[simp] theorem freePages_cmp (ps : List Nat) (s : State) : (freePages ps s).cmp = s.cmp := rfl
@[simp] theorem freePages_pnl (ps : List Nat) (s : State) : (freePages ps s).pnl = s.pnl := rfl
@[simp] theorem freePages_sto (ps : List Nat) (s : State) : (freePages ps s).sto = s.sto := rfl
@[simp] theorem freePages_xfr (ps : List Nat) (s : State) : (freePages ps s).xfr = s.xfr := rfl
@[simp] theorem freePages_lnk (ps : List Nat) (s : State) : (freePages ps s).lnk = s.lnk := rfl

@[simp] theorem modSeg_pending (q : Nat) (f : SegRec → SegRec) (s : State) : (modSeg q f s).pending = s.pending := rfl
@[simp] theorem modSeg_now (q : Nat) (f : SegRec → SegRec) (s : State) : (modSeg q f s).now = s.now := rfl
@[simp] theorem modSeg_fresh (q : Nat) (f : SegRec → SegRec) (s : State) : (modSeg q f s).fresh = s.fresh := rfl
@[simp] theorem modSeg_setup (q : Nat) (f : SegRec → SegRec) (s : State) : (modSeg q f s).setup = s.setup := rfl
@[simp] theorem modSeg_generation (q : Nat) (f : SegRec → SegRec) (s : State) : (modSeg q f s).generation = s.generation := rfl
@[simp] theorem modSeg_fallbacks (q : Nat) (f : SegRec → SegRec) (s : State) : (modSeg q f s).fallbacks = s.fallbacks := rfl
@[simp] theorem modSeg_fec (q : Nat) (f : SegRec → SegRec) (s : State) : (modSeg q f s).fec = s.fec := rfl
@[simp] theorem modSeg_trg (q : Nat) (f : SegRec → SegRec) (s : State) : (modSeg q f s).trg = s.trg := rfl
@[simp] theorem modSeg_mem (q : Nat) (f : SegRec → SegRec) (s : State) : (modSeg q f s).mem = { s.mem with table := s.mem.table.map (fun r => if r.seq == q then f r else r) } := rfl
@[simp] theorem modSeg_acq (q : Nat) (f : SegRec → SegRec) (s : State) : (modSeg q f s).acq = s.acq := rfl
@[simp] theorem modSeg_rnd (q : Nat) (f : SegRec → SegRec) (s : State) : (modSeg q f s).rnd = s.rnd := rfl
@[simp] theorem modSeg_cmp (q : Nat) (f : SegRec → SegRec) (s : State) : (modSeg q f s).cmp = s.cmp := rfl
@[simp] theorem modSeg_pnl (q : Nat) (f : SegRec → SegRec) (s : State) : (modSeg q f s).pnl = s.pnl := rfl
@[simp] theorem modSeg_sto (q : Nat) (f : SegRec → SegRec) (s : State) : (modSeg q f s).sto = s.sto := rfl
@[simp] theorem modSeg_xfr (q : Nat) (f : SegRec → SegRec) (s : State) : (modSeg q f s).xfr = s.xfr := rfl
@[simp] theorem modSeg_lnk (q : Nat) (f : SegRec → SegRec) (s : State) : (modSeg q f s).lnk = s.lnk := rfl

@[simp] theorem modRef_pending (n : Fin 4) (f : RefSlot → RefSlot) (s : State) : (modRef n f s).pending = s.pending := rfl
@[simp] theorem modRef_now (n : Fin 4) (f : RefSlot → RefSlot) (s : State) : (modRef n f s).now = s.now := rfl
@[simp] theorem modRef_fresh (n : Fin 4) (f : RefSlot → RefSlot) (s : State) : (modRef n f s).fresh = s.fresh := rfl
@[simp] theorem modRef_setup (n : Fin 4) (f : RefSlot → RefSlot) (s : State) : (modRef n f s).setup = s.setup := rfl
@[simp] theorem modRef_generation (n : Fin 4) (f : RefSlot → RefSlot) (s : State) : (modRef n f s).generation = s.generation := rfl
@[simp] theorem modRef_fallbacks (n : Fin 4) (f : RefSlot → RefSlot) (s : State) : (modRef n f s).fallbacks = s.fallbacks := rfl
@[simp] theorem modRef_fec (n : Fin 4) (f : RefSlot → RefSlot) (s : State) : (modRef n f s).fec = s.fec := rfl
@[simp] theorem modRef_trg (n : Fin 4) (f : RefSlot → RefSlot) (s : State) : (modRef n f s).trg = s.trg := rfl
@[simp] theorem modRef_mem (n : Fin 4) (f : RefSlot → RefSlot) (s : State) : (modRef n f s).mem = { s.mem with refs := vmod s.mem.refs n f } := rfl
@[simp] theorem modRef_acq (n : Fin 4) (f : RefSlot → RefSlot) (s : State) : (modRef n f s).acq = s.acq := rfl
@[simp] theorem modRef_rnd (n : Fin 4) (f : RefSlot → RefSlot) (s : State) : (modRef n f s).rnd = s.rnd := rfl
@[simp] theorem modRef_cmp (n : Fin 4) (f : RefSlot → RefSlot) (s : State) : (modRef n f s).cmp = s.cmp := rfl
@[simp] theorem modRef_pnl (n : Fin 4) (f : RefSlot → RefSlot) (s : State) : (modRef n f s).pnl = s.pnl := rfl
@[simp] theorem modRef_sto (n : Fin 4) (f : RefSlot → RefSlot) (s : State) : (modRef n f s).sto = s.sto := rfl
@[simp] theorem modRef_xfr (n : Fin 4) (f : RefSlot → RefSlot) (s : State) : (modRef n f s).xfr = s.xfr := rfl
@[simp] theorem modRef_lnk (n : Fin 4) (f : RefSlot → RefSlot) (s : State) : (modRef n f s).lnk = s.lnk := rfl

@[simp] theorem withdraw_pending (s : State) : (withdraw s).pending = s.pending := rfl
@[simp] theorem withdraw_now (s : State) : (withdraw s).now = s.now := rfl
@[simp] theorem withdraw_fresh (s : State) : (withdraw s).fresh = s.fresh := rfl
@[simp] theorem withdraw_setup (s : State) : (withdraw s).setup = s.setup := rfl
@[simp] theorem withdraw_generation (s : State) : (withdraw s).generation = s.generation := rfl
@[simp] theorem withdraw_fallbacks (s : State) : (withdraw s).fallbacks = s.fallbacks := rfl
@[simp] theorem withdraw_fec (s : State) : (withdraw s).fec = s.fec := rfl
@[simp] theorem withdraw_trg (s : State) : (withdraw s).trg = s.trg := rfl
@[simp] theorem withdraw_mem (s : State) : (withdraw s).mem = { s.mem with pendingAlloc := none } := rfl
@[simp] theorem withdraw_acq (s : State) : (withdraw s).acq = s.acq := rfl
@[simp] theorem withdraw_rnd (s : State) : (withdraw s).rnd = s.rnd := rfl
@[simp] theorem withdraw_cmp (s : State) : (withdraw s).cmp = s.cmp := rfl
@[simp] theorem withdraw_pnl (s : State) : (withdraw s).pnl = s.pnl := rfl
@[simp] theorem withdraw_sto (s : State) : (withdraw s).sto = s.sto := rfl
@[simp] theorem withdraw_xfr (s : State) : (withdraw s).xfr = s.xfr := rfl
@[simp] theorem withdraw_lnk (s : State) : (withdraw s).lnk = s.lnk := rfl

@[simp] theorem restartAutosave_pending (s : State) : (restartAutosave s).pending = s.pending := rfl
@[simp] theorem restartAutosave_now (s : State) : (restartAutosave s).now = s.now := rfl
@[simp] theorem restartAutosave_fresh (s : State) : (restartAutosave s).fresh = s.fresh := rfl
@[simp] theorem restartAutosave_setup (s : State) : (restartAutosave s).setup = s.setup := rfl
@[simp] theorem restartAutosave_generation (s : State) : (restartAutosave s).generation = s.generation := rfl
@[simp] theorem restartAutosave_fallbacks (s : State) : (restartAutosave s).fallbacks = s.fallbacks := rfl
@[simp] theorem restartAutosave_fec (s : State) : (restartAutosave s).fec = s.fec := rfl
@[simp] theorem restartAutosave_trg (s : State) : (restartAutosave s).trg = s.trg := rfl
@[simp] theorem restartAutosave_mem (s : State) : (restartAutosave s).mem = s.mem := rfl
@[simp] theorem restartAutosave_acq (s : State) : (restartAutosave s).acq = s.acq := rfl
@[simp] theorem restartAutosave_rnd (s : State) : (restartAutosave s).rnd = s.rnd := rfl
@[simp] theorem restartAutosave_cmp (s : State) : (restartAutosave s).cmp = s.cmp := rfl
@[simp] theorem restartAutosave_pnl (s : State) : (restartAutosave s).pnl = s.pnl := rfl
@[simp] theorem restartAutosave_sto (s : State) : (restartAutosave s).sto = { s.sto with autosave := some (s.now + 2000 * oneMs) } := rfl
@[simp] theorem restartAutosave_xfr (s : State) : (restartAutosave s).xfr = s.xfr := rfl
@[simp] theorem restartAutosave_lnk (s : State) : (restartAutosave s).lnk = s.lnk := rfl

@[simp] theorem writeRecord_pending (r : Setup) (s : State) : (writeRecord r s).pending = s.pending := rfl
@[simp] theorem writeRecord_now (r : Setup) (s : State) : (writeRecord r s).now = s.now := rfl
@[simp] theorem writeRecord_fresh (r : Setup) (s : State) : (writeRecord r s).fresh = s.fresh := rfl
@[simp] theorem writeRecord_setup (r : Setup) (s : State) : (writeRecord r s).setup = r := rfl
@[simp] theorem writeRecord_generation (r : Setup) (s : State) : (writeRecord r s).generation = s.generation + 1 := rfl
@[simp] theorem writeRecord_fallbacks (r : Setup) (s : State) : (writeRecord r s).fallbacks = s.fallbacks := rfl
@[simp] theorem writeRecord_fec (r : Setup) (s : State) : (writeRecord r s).fec = s.fec := rfl
@[simp] theorem writeRecord_trg (r : Setup) (s : State) : (writeRecord r s).trg = s.trg := rfl
@[simp] theorem writeRecord_mem (r : Setup) (s : State) : (writeRecord r s).mem = s.mem := rfl
@[simp] theorem writeRecord_acq (r : Setup) (s : State) : (writeRecord r s).acq = s.acq := rfl
@[simp] theorem writeRecord_rnd (r : Setup) (s : State) : (writeRecord r s).rnd = s.rnd := rfl
@[simp] theorem writeRecord_cmp (r : Setup) (s : State) : (writeRecord r s).cmp = s.cmp := rfl
@[simp] theorem writeRecord_pnl (r : Setup) (s : State) : (writeRecord r s).pnl = s.pnl := rfl
@[simp] theorem writeRecord_sto (r : Setup) (s : State) : (writeRecord r s).sto = s.sto := rfl
@[simp] theorem writeRecord_xfr (r : Setup) (s : State) : (writeRecord r s).xfr = s.xfr := rfl
@[simp] theorem writeRecord_lnk (r : Setup) (s : State) : (writeRecord r s).lnk = s.lnk := rfl

@[simp] theorem auxChange_pending (s : State) : (auxChange s).pending = s.pending := rfl
@[simp] theorem auxChange_now (s : State) : (auxChange s).now = s.now := rfl
@[simp] theorem auxChange_fresh (s : State) : (auxChange s).fresh = s.fresh := rfl
@[simp] theorem auxChange_setup (s : State) : (auxChange s).setup = s.setup := rfl
@[simp] theorem auxChange_generation (s : State) : (auxChange s).generation = s.generation := rfl
@[simp] theorem auxChange_fallbacks (s : State) : (auxChange s).fallbacks = s.fallbacks := rfl
@[simp] theorem auxChange_fec (s : State) : (auxChange s).fec = s.fec := rfl
@[simp] theorem auxChange_trg (s : State) : (auxChange s).trg = { s.trg with auxMode := some (s.setup.get 106).toNat } := rfl
@[simp] theorem auxChange_mem (s : State) : (auxChange s).mem = s.mem := rfl
@[simp] theorem auxChange_acq (s : State) : (auxChange s).acq = s.acq := rfl
@[simp] theorem auxChange_rnd (s : State) : (auxChange s).rnd = s.rnd := rfl
@[simp] theorem auxChange_cmp (s : State) : (auxChange s).cmp = s.cmp := rfl
@[simp] theorem auxChange_pnl (s : State) : (auxChange s).pnl = s.pnl := rfl
@[simp] theorem auxChange_sto (s : State) : (auxChange s).sto = s.sto := rfl
@[simp] theorem auxChange_xfr (s : State) : (auxChange s).xfr = s.xfr := rfl
@[simp] theorem auxChange_lnk (s : State) : (auxChange s).lnk = s.lnk := rfl

@[simp] theorem startSound_pending (f d : Nat) (c : Bool) (s : State) : (startSound f d c s).pending = s.pending := rfl
@[simp] theorem startSound_now (f d : Nat) (c : Bool) (s : State) : (startSound f d c s).now = s.now := rfl
@[simp] theorem startSound_fresh (f d : Nat) (c : Bool) (s : State) : (startSound f d c s).fresh = s.fresh := rfl
@[simp] theorem startSound_setup (f d : Nat) (c : Bool) (s : State) : (startSound f d c s).setup = s.setup := rfl
@[simp] theorem startSound_generation (f d : Nat) (c : Bool) (s : State) : (startSound f d c s).generation = s.generation := rfl
@[simp] theorem startSound_fallbacks (f d : Nat) (c : Bool) (s : State) : (startSound f d c s).fallbacks = s.fallbacks := rfl
@[simp] theorem startSound_fec (f d : Nat) (c : Bool) (s : State) : (startSound f d c s).fec = s.fec := rfl
@[simp] theorem startSound_trg (f d : Nat) (c : Bool) (s : State) : (startSound f d c s).trg = s.trg := rfl
@[simp] theorem startSound_mem (f d : Nat) (c : Bool) (s : State) : (startSound f d c s).mem = s.mem := rfl
@[simp] theorem startSound_acq (f d : Nat) (c : Bool) (s : State) : (startSound f d c s).acq = s.acq := rfl
@[simp] theorem startSound_rnd (f d : Nat) (c : Bool) (s : State) : (startSound f d c s).rnd = s.rnd := rfl
@[simp] theorem startSound_cmp (f d : Nat) (c : Bool) (s : State) : (startSound f d c s).cmp = s.cmp := rfl
@[simp] theorem startSound_pnl (f d : Nat) (c : Bool) (s : State) : (startSound f d c s).pnl = { s.pnl with beeper := some ⟨f, s.now + d * oneMs, c⟩ } := rfl
@[simp] theorem startSound_sto (f d : Nat) (c : Bool) (s : State) : (startSound f d c s).sto = s.sto := rfl
@[simp] theorem startSound_xfr (f d : Nat) (c : Bool) (s : State) : (startSound f d c s).xfr = s.xfr := rfl
@[simp] theorem startSound_lnk (f d : Nat) (c : Bool) (s : State) : (startSound f d c s).lnk = s.lnk := rfl

@[simp] theorem modKey_pending (k : Fin 64) (f : KeyState → KeyState) (s : State) : (modKey k f s).pending = s.pending := rfl
@[simp] theorem modKey_now (k : Fin 64) (f : KeyState → KeyState) (s : State) : (modKey k f s).now = s.now := rfl
@[simp] theorem modKey_fresh (k : Fin 64) (f : KeyState → KeyState) (s : State) : (modKey k f s).fresh = s.fresh := rfl
@[simp] theorem modKey_setup (k : Fin 64) (f : KeyState → KeyState) (s : State) : (modKey k f s).setup = s.setup := rfl
@[simp] theorem modKey_generation (k : Fin 64) (f : KeyState → KeyState) (s : State) : (modKey k f s).generation = s.generation := rfl
@[simp] theorem modKey_fallbacks (k : Fin 64) (f : KeyState → KeyState) (s : State) : (modKey k f s).fallbacks = s.fallbacks := rfl
@[simp] theorem modKey_fec (k : Fin 64) (f : KeyState → KeyState) (s : State) : (modKey k f s).fec = s.fec := rfl
@[simp] theorem modKey_trg (k : Fin 64) (f : KeyState → KeyState) (s : State) : (modKey k f s).trg = s.trg := rfl
@[simp] theorem modKey_mem (k : Fin 64) (f : KeyState → KeyState) (s : State) : (modKey k f s).mem = s.mem := rfl
@[simp] theorem modKey_acq (k : Fin 64) (f : KeyState → KeyState) (s : State) : (modKey k f s).acq = s.acq := rfl
@[simp] theorem modKey_rnd (k : Fin 64) (f : KeyState → KeyState) (s : State) : (modKey k f s).rnd = s.rnd := rfl
@[simp] theorem modKey_cmp (k : Fin 64) (f : KeyState → KeyState) (s : State) : (modKey k f s).cmp = s.cmp := rfl
@[simp] theorem modKey_pnl (k : Fin 64) (f : KeyState → KeyState) (s : State) : (modKey k f s).pnl = { s.pnl with keys := vmod s.pnl.keys k f } := rfl
@[simp] theorem modKey_sto (k : Fin 64) (f : KeyState → KeyState) (s : State) : (modKey k f s).sto = s.sto := rfl
@[simp] theorem modKey_xfr (k : Fin 64) (f : KeyState → KeyState) (s : State) : (modKey k f s).xfr = s.xfr := rfl
@[simp] theorem modKey_lnk (k : Fin 64) (f : KeyState → KeyState) (s : State) : (modKey k f s).lnk = s.lnk := rfl

@[simp] theorem setBlank_pending (b : Bool) (s : State) : (setBlank b s).pending = s.pending := rfl
@[simp] theorem setBlank_now (b : Bool) (s : State) : (setBlank b s).now = s.now := rfl
@[simp] theorem setBlank_fresh (b : Bool) (s : State) : (setBlank b s).fresh = s.fresh := rfl
@[simp] theorem setBlank_setup (b : Bool) (s : State) : (setBlank b s).setup = s.setup := rfl
@[simp] theorem setBlank_generation (b : Bool) (s : State) : (setBlank b s).generation = s.generation := rfl
@[simp] theorem setBlank_fallbacks (b : Bool) (s : State) : (setBlank b s).fallbacks = s.fallbacks := rfl
@[simp] theorem setBlank_fec (b : Bool) (s : State) : (setBlank b s).fec = s.fec := rfl
@[simp] theorem setBlank_trg (b : Bool) (s : State) : (setBlank b s).trg = s.trg := rfl
@[simp] theorem setBlank_mem (b : Bool) (s : State) : (setBlank b s).mem = s.mem := rfl
@[simp] theorem setBlank_acq (b : Bool) (s : State) : (setBlank b s).acq = s.acq := rfl
@[simp] theorem setBlank_rnd (b : Bool) (s : State) : (setBlank b s).rnd = s.rnd := rfl
@[simp] theorem setBlank_cmp (b : Bool) (s : State) : (setBlank b s).cmp = { s.cmp with blanked := b } := rfl
@[simp] theorem setBlank_pnl (b : Bool) (s : State) : (setBlank b s).pnl = { s.pnl with blanked := b } := rfl
@[simp] theorem setBlank_sto (b : Bool) (s : State) : (setBlank b s).sto = s.sto := rfl
@[simp] theorem setBlank_xfr (b : Bool) (s : State) : (setBlank b s).xfr = s.xfr := rfl
@[simp] theorem setBlank_lnk (b : Bool) (s : State) : (setBlank b s).lnk = s.lnk := rfl

@[simp] theorem recordDetent_pending (e : Fin 12) (up : Bool) (s : State) : (recordDetent e up s).pending = s.pending := rfl
@[simp] theorem recordDetent_now (e : Fin 12) (up : Bool) (s : State) : (recordDetent e up s).now = s.now := rfl
@[simp] theorem recordDetent_fresh (e : Fin 12) (up : Bool) (s : State) : (recordDetent e up s).fresh = s.fresh := rfl
@[simp] theorem recordDetent_setup (e : Fin 12) (up : Bool) (s : State) : (recordDetent e up s).setup = s.setup := rfl
@[simp] theorem recordDetent_generation (e : Fin 12) (up : Bool) (s : State) : (recordDetent e up s).generation = s.generation := rfl
@[simp] theorem recordDetent_fallbacks (e : Fin 12) (up : Bool) (s : State) : (recordDetent e up s).fallbacks = s.fallbacks := rfl
@[simp] theorem recordDetent_fec (e : Fin 12) (up : Bool) (s : State) : (recordDetent e up s).fec = s.fec := rfl
@[simp] theorem recordDetent_trg (e : Fin 12) (up : Bool) (s : State) : (recordDetent e up s).trg = s.trg := rfl
@[simp] theorem recordDetent_mem (e : Fin 12) (up : Bool) (s : State) : (recordDetent e up s).mem = s.mem := rfl
@[simp] theorem recordDetent_acq (e : Fin 12) (up : Bool) (s : State) : (recordDetent e up s).acq = s.acq := rfl
@[simp] theorem recordDetent_rnd (e : Fin 12) (up : Bool) (s : State) : (recordDetent e up s).rnd = s.rnd := rfl
@[simp] theorem recordDetent_cmp (e : Fin 12) (up : Bool) (s : State) : (recordDetent e up s).cmp = s.cmp := rfl
@[simp] theorem recordDetent_sto (e : Fin 12) (up : Bool) (s : State) : (recordDetent e up s).sto = s.sto := rfl
@[simp] theorem recordDetent_xfr (e : Fin 12) (up : Bool) (s : State) : (recordDetent e up s).xfr = s.xfr := rfl
@[simp] theorem recordDetent_lnk (e : Fin 12) (up : Bool) (s : State) : (recordDetent e up s).lnk = s.lnk := rfl

@[simp] theorem setPair_pending (e : Fin 12) (p : Bool × Bool) (q : Int) (s : State) : (setPair e p q s).pending = s.pending := rfl
@[simp] theorem setPair_now (e : Fin 12) (p : Bool × Bool) (q : Int) (s : State) : (setPair e p q s).now = s.now := rfl
@[simp] theorem setPair_fresh (e : Fin 12) (p : Bool × Bool) (q : Int) (s : State) : (setPair e p q s).fresh = s.fresh := rfl
@[simp] theorem setPair_setup (e : Fin 12) (p : Bool × Bool) (q : Int) (s : State) : (setPair e p q s).setup = s.setup := rfl
@[simp] theorem setPair_generation (e : Fin 12) (p : Bool × Bool) (q : Int) (s : State) : (setPair e p q s).generation = s.generation := rfl
@[simp] theorem setPair_fallbacks (e : Fin 12) (p : Bool × Bool) (q : Int) (s : State) : (setPair e p q s).fallbacks = s.fallbacks := rfl
@[simp] theorem setPair_fec (e : Fin 12) (p : Bool × Bool) (q : Int) (s : State) : (setPair e p q s).fec = s.fec := rfl
@[simp] theorem setPair_trg (e : Fin 12) (p : Bool × Bool) (q : Int) (s : State) : (setPair e p q s).trg = s.trg := rfl
@[simp] theorem setPair_mem (e : Fin 12) (p : Bool × Bool) (q : Int) (s : State) : (setPair e p q s).mem = s.mem := rfl
@[simp] theorem setPair_acq (e : Fin 12) (p : Bool × Bool) (q : Int) (s : State) : (setPair e p q s).acq = s.acq := rfl
@[simp] theorem setPair_rnd (e : Fin 12) (p : Bool × Bool) (q : Int) (s : State) : (setPair e p q s).rnd = s.rnd := rfl
@[simp] theorem setPair_cmp (e : Fin 12) (p : Bool × Bool) (q : Int) (s : State) : (setPair e p q s).cmp = s.cmp := rfl
@[simp] theorem setPair_sto (e : Fin 12) (p : Bool × Bool) (q : Int) (s : State) : (setPair e p q s).sto = s.sto := rfl
@[simp] theorem setPair_xfr (e : Fin 12) (p : Bool × Bool) (q : Int) (s : State) : (setPair e p q s).xfr = s.xfr := rfl
@[simp] theorem setPair_lnk (e : Fin 12) (p : Bool × Bool) (q : Int) (s : State) : (setPair e p q s).lnk = s.lnk := rfl

@[simp] theorem driveLeds_pending (r : Fin 8) (s : State) : (driveLeds r s).pending = s.pending := rfl
@[simp] theorem driveLeds_now (r : Fin 8) (s : State) : (driveLeds r s).now = s.now := rfl
@[simp] theorem driveLeds_fresh (r : Fin 8) (s : State) : (driveLeds r s).fresh = s.fresh := rfl
@[simp] theorem driveLeds_setup (r : Fin 8) (s : State) : (driveLeds r s).setup = s.setup := rfl
@[simp] theorem driveLeds_generation (r : Fin 8) (s : State) : (driveLeds r s).generation = s.generation := rfl
@[simp] theorem driveLeds_fallbacks (r : Fin 8) (s : State) : (driveLeds r s).fallbacks = s.fallbacks := rfl
@[simp] theorem driveLeds_fec (r : Fin 8) (s : State) : (driveLeds r s).fec = s.fec := rfl
@[simp] theorem driveLeds_trg (r : Fin 8) (s : State) : (driveLeds r s).trg = s.trg := rfl
@[simp] theorem driveLeds_mem (r : Fin 8) (s : State) : (driveLeds r s).mem = s.mem := rfl
@[simp] theorem driveLeds_acq (r : Fin 8) (s : State) : (driveLeds r s).acq = s.acq := rfl
@[simp] theorem driveLeds_rnd (r : Fin 8) (s : State) : (driveLeds r s).rnd = s.rnd := rfl
@[simp] theorem driveLeds_cmp (r : Fin 8) (s : State) : (driveLeds r s).cmp = s.cmp := rfl
@[simp] theorem driveLeds_sto (r : Fin 8) (s : State) : (driveLeds r s).sto = s.sto := rfl
@[simp] theorem driveLeds_xfr (r : Fin 8) (s : State) : (driveLeds r s).xfr = s.xfr := rfl
@[simp] theorem driveLeds_lnk (r : Fin 8) (s : State) : (driveLeds r s).lnk = s.lnk := rfl

@[simp] theorem setDir_pending (n : Fin 11) (e : DirEntry) (s : State) : (setDir n e s).pending = s.pending := rfl
@[simp] theorem setDir_now (n : Fin 11) (e : DirEntry) (s : State) : (setDir n e s).now = s.now := rfl
@[simp] theorem setDir_fresh (n : Fin 11) (e : DirEntry) (s : State) : (setDir n e s).fresh = s.fresh := rfl
@[simp] theorem setDir_setup (n : Fin 11) (e : DirEntry) (s : State) : (setDir n e s).setup = s.setup := rfl
@[simp] theorem setDir_generation (n : Fin 11) (e : DirEntry) (s : State) : (setDir n e s).generation = s.generation := rfl
@[simp] theorem setDir_fallbacks (n : Fin 11) (e : DirEntry) (s : State) : (setDir n e s).fallbacks = s.fallbacks := rfl
@[simp] theorem setDir_fec (n : Fin 11) (e : DirEntry) (s : State) : (setDir n e s).fec = s.fec := rfl
@[simp] theorem setDir_trg (n : Fin 11) (e : DirEntry) (s : State) : (setDir n e s).trg = s.trg := rfl
@[simp] theorem setDir_mem (n : Fin 11) (e : DirEntry) (s : State) : (setDir n e s).mem = s.mem := rfl
@[simp] theorem setDir_acq (n : Fin 11) (e : DirEntry) (s : State) : (setDir n e s).acq = s.acq := rfl
@[simp] theorem setDir_rnd (n : Fin 11) (e : DirEntry) (s : State) : (setDir n e s).rnd = s.rnd := rfl
@[simp] theorem setDir_cmp (n : Fin 11) (e : DirEntry) (s : State) : (setDir n e s).cmp = s.cmp := rfl
@[simp] theorem setDir_pnl (n : Fin 11) (e : DirEntry) (s : State) : (setDir n e s).pnl = s.pnl := rfl
@[simp] theorem setDir_sto (n : Fin 11) (e : DirEntry) (s : State) : (setDir n e s).sto = { s.sto with dir := s.sto.dir.set n e } := rfl
@[simp] theorem setDir_xfr (n : Fin 11) (e : DirEntry) (s : State) : (setDir n e s).xfr = s.xfr := rfl
@[simp] theorem setDir_lnk (n : Fin 11) (e : DirEntry) (s : State) : (setDir n e s).lnk = s.lnk := rfl

@[simp] theorem writeArea_pending (a : FlashArea) (v : Option (List Byte)) (s : State) : (writeArea a v s).pending = s.pending := rfl
@[simp] theorem writeArea_now (a : FlashArea) (v : Option (List Byte)) (s : State) : (writeArea a v s).now = s.now := rfl
@[simp] theorem writeArea_fresh (a : FlashArea) (v : Option (List Byte)) (s : State) : (writeArea a v s).fresh = s.fresh := rfl
@[simp] theorem writeArea_setup (a : FlashArea) (v : Option (List Byte)) (s : State) : (writeArea a v s).setup = s.setup := rfl
@[simp] theorem writeArea_generation (a : FlashArea) (v : Option (List Byte)) (s : State) : (writeArea a v s).generation = s.generation := rfl
@[simp] theorem writeArea_fallbacks (a : FlashArea) (v : Option (List Byte)) (s : State) : (writeArea a v s).fallbacks = s.fallbacks := rfl
@[simp] theorem writeArea_fec (a : FlashArea) (v : Option (List Byte)) (s : State) : (writeArea a v s).fec = s.fec := rfl
@[simp] theorem writeArea_trg (a : FlashArea) (v : Option (List Byte)) (s : State) : (writeArea a v s).trg = s.trg := rfl
@[simp] theorem writeArea_mem (a : FlashArea) (v : Option (List Byte)) (s : State) : (writeArea a v s).mem = s.mem := rfl
@[simp] theorem writeArea_acq (a : FlashArea) (v : Option (List Byte)) (s : State) : (writeArea a v s).acq = s.acq := rfl
@[simp] theorem writeArea_rnd (a : FlashArea) (v : Option (List Byte)) (s : State) : (writeArea a v s).rnd = s.rnd := rfl
@[simp] theorem writeArea_cmp (a : FlashArea) (v : Option (List Byte)) (s : State) : (writeArea a v s).cmp = s.cmp := rfl
@[simp] theorem writeArea_pnl (a : FlashArea) (v : Option (List Byte)) (s : State) : (writeArea a v s).pnl = s.pnl := rfl
@[simp] theorem writeArea_sto (a : FlashArea) (v : Option (List Byte)) (s : State) : (writeArea a v s).sto = { s.sto with flash := setArea a v s.sto.flash } := rfl
@[simp] theorem writeArea_xfr (a : FlashArea) (v : Option (List Byte)) (s : State) : (writeArea a v s).xfr = s.xfr := rfl
@[simp] theorem writeArea_lnk (a : FlashArea) (v : Option (List Byte)) (s : State) : (writeArea a v s).lnk = s.lnk := rfl

@[simp] theorem toStep_pending (st : StoreStep) (s : State) : (toStep st s).pending = s.pending := rfl
@[simp] theorem toStep_now (st : StoreStep) (s : State) : (toStep st s).now = s.now := rfl
@[simp] theorem toStep_fresh (st : StoreStep) (s : State) : (toStep st s).fresh = s.fresh := rfl
@[simp] theorem toStep_setup (st : StoreStep) (s : State) : (toStep st s).setup = s.setup := rfl
@[simp] theorem toStep_generation (st : StoreStep) (s : State) : (toStep st s).generation = s.generation := rfl
@[simp] theorem toStep_fallbacks (st : StoreStep) (s : State) : (toStep st s).fallbacks = s.fallbacks := rfl
@[simp] theorem toStep_fec (st : StoreStep) (s : State) : (toStep st s).fec = s.fec := rfl
@[simp] theorem toStep_trg (st : StoreStep) (s : State) : (toStep st s).trg = s.trg := rfl
@[simp] theorem toStep_mem (st : StoreStep) (s : State) : (toStep st s).mem = s.mem := rfl
@[simp] theorem toStep_acq (st : StoreStep) (s : State) : (toStep st s).acq = s.acq := rfl
@[simp] theorem toStep_rnd (st : StoreStep) (s : State) : (toStep st s).rnd = s.rnd := rfl
@[simp] theorem toStep_cmp (st : StoreStep) (s : State) : (toStep st s).cmp = s.cmp := rfl
@[simp] theorem toStep_pnl (st : StoreStep) (s : State) : (toStep st s).pnl = s.pnl := rfl
@[simp] theorem toStep_xfr (st : StoreStep) (s : State) : (toStep st s).xfr = s.xfr := rfl
@[simp] theorem toStep_lnk (st : StoreStep) (s : State) : (toStep st s).lnk = s.lnk := rfl

@[simp] theorem startJob_pending (j : StoreJob) (s : State) : (startJob j s).pending = s.pending := rfl
@[simp] theorem startJob_now (j : StoreJob) (s : State) : (startJob j s).now = s.now := rfl
@[simp] theorem startJob_fresh (j : StoreJob) (s : State) : (startJob j s).fresh = s.fresh := rfl
@[simp] theorem startJob_setup (j : StoreJob) (s : State) : (startJob j s).setup = s.setup := rfl
@[simp] theorem startJob_generation (j : StoreJob) (s : State) : (startJob j s).generation = s.generation := rfl
@[simp] theorem startJob_fallbacks (j : StoreJob) (s : State) : (startJob j s).fallbacks = s.fallbacks := rfl
@[simp] theorem startJob_fec (j : StoreJob) (s : State) : (startJob j s).fec = s.fec := rfl
@[simp] theorem startJob_trg (j : StoreJob) (s : State) : (startJob j s).trg = s.trg := rfl
@[simp] theorem startJob_mem (j : StoreJob) (s : State) : (startJob j s).mem = s.mem := rfl
@[simp] theorem startJob_acq (j : StoreJob) (s : State) : (startJob j s).acq = s.acq := rfl
@[simp] theorem startJob_rnd (j : StoreJob) (s : State) : (startJob j s).rnd = s.rnd := rfl
@[simp] theorem startJob_cmp (j : StoreJob) (s : State) : (startJob j s).cmp = s.cmp := rfl
@[simp] theorem startJob_pnl (j : StoreJob) (s : State) : (startJob j s).pnl = s.pnl := rfl
@[simp] theorem startJob_xfr (j : StoreJob) (s : State) : (startJob j s).xfr = s.xfr := rfl
@[simp] theorem startJob_lnk (j : StoreJob) (s : State) : (startJob j s).lnk = s.lnk := rfl

@[simp] theorem beginTxn_pending (m : List Byte) (s : State) : (beginTxn m s).pending = s.pending := rfl
@[simp] theorem beginTxn_now (m : List Byte) (s : State) : (beginTxn m s).now = s.now := rfl
@[simp] theorem beginTxn_fresh (m : List Byte) (s : State) : (beginTxn m s).fresh = s.fresh := rfl
@[simp] theorem beginTxn_setup (m : List Byte) (s : State) : (beginTxn m s).setup = s.setup := rfl
@[simp] theorem beginTxn_generation (m : List Byte) (s : State) : (beginTxn m s).generation = s.generation := rfl
@[simp] theorem beginTxn_fallbacks (m : List Byte) (s : State) : (beginTxn m s).fallbacks = s.fallbacks := rfl
@[simp] theorem beginTxn_fec (m : List Byte) (s : State) : (beginTxn m s).fec = s.fec := rfl
@[simp] theorem beginTxn_trg (m : List Byte) (s : State) : (beginTxn m s).trg = s.trg := rfl
@[simp] theorem beginTxn_mem (m : List Byte) (s : State) : (beginTxn m s).mem = s.mem := rfl
@[simp] theorem beginTxn_acq (m : List Byte) (s : State) : (beginTxn m s).acq = s.acq := rfl
@[simp] theorem beginTxn_rnd (m : List Byte) (s : State) : (beginTxn m s).rnd = s.rnd := rfl
@[simp] theorem beginTxn_cmp (m : List Byte) (s : State) : (beginTxn m s).cmp = s.cmp := rfl
@[simp] theorem beginTxn_pnl (m : List Byte) (s : State) : (beginTxn m s).pnl = s.pnl := rfl
@[simp] theorem beginTxn_sto (m : List Byte) (s : State) : (beginTxn m s).sto = s.sto := rfl
@[simp] theorem beginTxn_xfr (m : List Byte) (s : State) : (beginTxn m s).xfr = s.xfr := rfl
@[simp] theorem beginTxn_lnk (m : List Byte) (s : State) : (beginTxn m s).lnk = { s.lnk with txn := none, miso := m } := rfl

@[simp] theorem fetchSelect_pending (s : State) : (fetchSelect s).pending = s.pending := rfl
@[simp] theorem fetchSelect_now (s : State) : (fetchSelect s).now = s.now := rfl
@[simp] theorem fetchSelect_fresh (s : State) : (fetchSelect s).fresh = s.fresh := rfl
@[simp] theorem fetchSelect_setup (s : State) : (fetchSelect s).setup = s.setup := rfl
@[simp] theorem fetchSelect_generation (s : State) : (fetchSelect s).generation = s.generation := rfl
@[simp] theorem fetchSelect_fallbacks (s : State) : (fetchSelect s).fallbacks = s.fallbacks := rfl
@[simp] theorem fetchSelect_fec (s : State) : (fetchSelect s).fec = s.fec := rfl
@[simp] theorem fetchSelect_trg (s : State) : (fetchSelect s).trg = s.trg := rfl
@[simp] theorem fetchSelect_mem (s : State) : (fetchSelect s).mem = s.mem := rfl
@[simp] theorem fetchSelect_acq (s : State) : (fetchSelect s).acq = s.acq := rfl
@[simp] theorem fetchSelect_rnd (s : State) : (fetchSelect s).rnd = s.rnd := rfl
@[simp] theorem fetchSelect_cmp (s : State) : (fetchSelect s).cmp = s.cmp := rfl
@[simp] theorem fetchSelect_pnl (s : State) : (fetchSelect s).pnl = s.pnl := rfl
@[simp] theorem fetchSelect_sto (s : State) : (fetchSelect s).sto = s.sto := rfl
@[simp] theorem fetchSelect_xfr (s : State) : (fetchSelect s).xfr = s.xfr := rfl

@[simp] theorem fetchRise_pending (s : State) : (fetchRise s).pending = s.pending := rfl
@[simp] theorem fetchRise_now (s : State) : (fetchRise s).now = s.now := rfl
@[simp] theorem fetchRise_fresh (s : State) : (fetchRise s).fresh = s.fresh := rfl
@[simp] theorem fetchRise_setup (s : State) : (fetchRise s).setup = s.setup := rfl
@[simp] theorem fetchRise_generation (s : State) : (fetchRise s).generation = s.generation := rfl
@[simp] theorem fetchRise_fallbacks (s : State) : (fetchRise s).fallbacks = s.fallbacks := rfl
@[simp] theorem fetchRise_fec (s : State) : (fetchRise s).fec = s.fec := rfl
@[simp] theorem fetchRise_trg (s : State) : (fetchRise s).trg = s.trg := rfl
@[simp] theorem fetchRise_mem (s : State) : (fetchRise s).mem = s.mem := rfl
@[simp] theorem fetchRise_acq (s : State) : (fetchRise s).acq = s.acq := rfl
@[simp] theorem fetchRise_rnd (s : State) : (fetchRise s).rnd = s.rnd := rfl
@[simp] theorem fetchRise_cmp (s : State) : (fetchRise s).cmp = s.cmp := rfl
@[simp] theorem fetchRise_pnl (s : State) : (fetchRise s).pnl = s.pnl := rfl
@[simp] theorem fetchRise_sto (s : State) : (fetchRise s).sto = s.sto := rfl
@[simp] theorem fetchRise_xfr (s : State) : (fetchRise s).xfr = s.xfr := rfl
@[simp] theorem fetchRise_lnk (s : State) : (fetchRise s).lnk = { s.lnk with txn := none } := rfl

@[simp] theorem nextInstant_pending (s : State) : (nextInstant s).pending = s.pending := rfl
@[simp] theorem nextInstant_now (s : State) : (nextInstant s).now = s.now + 1 := rfl
@[simp] theorem nextInstant_fresh (s : State) : (nextInstant s).fresh = s.fresh := rfl
@[simp] theorem nextInstant_setup (s : State) : (nextInstant s).setup = s.setup := rfl
@[simp] theorem nextInstant_generation (s : State) : (nextInstant s).generation = s.generation := rfl
@[simp] theorem nextInstant_fallbacks (s : State) : (nextInstant s).fallbacks = s.fallbacks := rfl
@[simp] theorem nextInstant_fec (s : State) : (nextInstant s).fec = s.fec := rfl
@[simp] theorem nextInstant_trg (s : State) : (nextInstant s).trg = s.trg := rfl
@[simp] theorem nextInstant_mem (s : State) : (nextInstant s).mem = s.mem := rfl
@[simp] theorem nextInstant_acq (s : State) : (nextInstant s).acq = s.acq := rfl
@[simp] theorem nextInstant_rnd (s : State) : (nextInstant s).rnd = s.rnd := rfl
@[simp] theorem nextInstant_cmp (s : State) : (nextInstant s).cmp = s.cmp := rfl
@[simp] theorem nextInstant_pnl (s : State) : (nextInstant s).pnl = s.pnl := rfl
@[simp] theorem nextInstant_sto (s : State) : (nextInstant s).sto = s.sto := rfl
@[simp] theorem nextInstant_xfr (s : State) : (nextInstant s).xfr = s.xfr := rfl
@[simp] theorem nextInstant_lnk (s : State) : (nextInstant s).lnk = s.lnk := rfl

@[simp] theorem commitPass_pending (p : Pass) (s : State) : (commitPass p s).pending = s.pending := rfl
@[simp] theorem commitPass_now (p : Pass) (s : State) : (commitPass p s).now = s.now := rfl
@[simp] theorem commitPass_fresh (p : Pass) (s : State) : (commitPass p s).fresh = s.fresh := rfl
@[simp] theorem commitPass_setup (p : Pass) (s : State) : (commitPass p s).setup = s.setup := rfl
@[simp] theorem commitPass_generation (p : Pass) (s : State) : (commitPass p s).generation = s.generation := rfl
@[simp] theorem commitPass_fallbacks (p : Pass) (s : State) : (commitPass p s).fallbacks = s.fallbacks := rfl
@[simp] theorem commitPass_fec (p : Pass) (s : State) : (commitPass p s).fec = s.fec := rfl
@[simp] theorem commitPass_trg (p : Pass) (s : State) : (commitPass p s).trg = s.trg := rfl
@[simp] theorem commitPass_mem (p : Pass) (s : State) : (commitPass p s).mem = s.mem := rfl
@[simp] theorem commitPass_acq (p : Pass) (s : State) : (commitPass p s).acq = s.acq := rfl
@[simp] theorem commitPass_rnd (p : Pass) (s : State) : (commitPass p s).rnd = { s.rnd with shown := s.rnd.work, shownTab := s.rnd.workTab } := rfl
@[simp] theorem commitPass_cmp (p : Pass) (s : State) : (commitPass p s).cmp = { s.cmp with basis := passBasis p } := rfl
@[simp] theorem commitPass_pnl (p : Pass) (s : State) : (commitPass p s).pnl = s.pnl := rfl
@[simp] theorem commitPass_sto (p : Pass) (s : State) : (commitPass p s).sto = s.sto := rfl
@[simp] theorem commitPass_xfr (p : Pass) (s : State) : (commitPass p s).xfr = s.xfr := rfl
@[simp] theorem commitPass_lnk (p : Pass) (s : State) : (commitPass p s).lnk = s.lnk := rfl

@[simp] theorem applyDecay_pending (s : State) : (applyDecay s).pending = s.pending := rfl
@[simp] theorem applyDecay_now (s : State) : (applyDecay s).now = s.now := rfl
@[simp] theorem applyDecay_fresh (s : State) : (applyDecay s).fresh = s.fresh := rfl
@[simp] theorem applyDecay_setup (s : State) : (applyDecay s).setup = s.setup := rfl
@[simp] theorem applyDecay_generation (s : State) : (applyDecay s).generation = s.generation := rfl
@[simp] theorem applyDecay_fallbacks (s : State) : (applyDecay s).fallbacks = s.fallbacks := rfl
@[simp] theorem applyDecay_fec (s : State) : (applyDecay s).fec = s.fec := rfl
@[simp] theorem applyDecay_trg (s : State) : (applyDecay s).trg = s.trg := rfl
@[simp] theorem applyDecay_mem (s : State) : (applyDecay s).mem = s.mem := rfl
@[simp] theorem applyDecay_acq (s : State) : (applyDecay s).acq = s.acq := rfl
@[simp] theorem applyDecay_cmp (s : State) : (applyDecay s).cmp = s.cmp := rfl
@[simp] theorem applyDecay_pnl (s : State) : (applyDecay s).pnl = s.pnl := rfl
@[simp] theorem applyDecay_sto (s : State) : (applyDecay s).sto = s.sto := rfl
@[simp] theorem applyDecay_xfr (s : State) : (applyDecay s).xfr = s.xfr := rfl
@[simp] theorem applyDecay_lnk (s : State) : (applyDecay s).lnk = s.lnk := rfl

@[simp] theorem drawTrace_pending (t : Trace) (b : Bool) (es : List ColEntry) (p : Pass) (s : State) : (drawTrace t b es p s).pending = s.pending := rfl
@[simp] theorem drawTrace_now (t : Trace) (b : Bool) (es : List ColEntry) (p : Pass) (s : State) : (drawTrace t b es p s).now = s.now := rfl
@[simp] theorem drawTrace_fresh (t : Trace) (b : Bool) (es : List ColEntry) (p : Pass) (s : State) : (drawTrace t b es p s).fresh = s.fresh := rfl
@[simp] theorem drawTrace_setup (t : Trace) (b : Bool) (es : List ColEntry) (p : Pass) (s : State) : (drawTrace t b es p s).setup = s.setup := rfl
@[simp] theorem drawTrace_generation (t : Trace) (b : Bool) (es : List ColEntry) (p : Pass) (s : State) : (drawTrace t b es p s).generation = s.generation := rfl
@[simp] theorem drawTrace_fallbacks (t : Trace) (b : Bool) (es : List ColEntry) (p : Pass) (s : State) : (drawTrace t b es p s).fallbacks = s.fallbacks := rfl
@[simp] theorem drawTrace_fec (t : Trace) (b : Bool) (es : List ColEntry) (p : Pass) (s : State) : (drawTrace t b es p s).fec = s.fec := rfl
@[simp] theorem drawTrace_trg (t : Trace) (b : Bool) (es : List ColEntry) (p : Pass) (s : State) : (drawTrace t b es p s).trg = s.trg := rfl
@[simp] theorem drawTrace_mem (t : Trace) (b : Bool) (es : List ColEntry) (p : Pass) (s : State) : (drawTrace t b es p s).mem = s.mem := rfl
@[simp] theorem drawTrace_acq (t : Trace) (b : Bool) (es : List ColEntry) (p : Pass) (s : State) : (drawTrace t b es p s).acq = s.acq := rfl
@[simp] theorem drawTrace_cmp (t : Trace) (b : Bool) (es : List ColEntry) (p : Pass) (s : State) : (drawTrace t b es p s).cmp = s.cmp := rfl
@[simp] theorem drawTrace_pnl (t : Trace) (b : Bool) (es : List ColEntry) (p : Pass) (s : State) : (drawTrace t b es p s).pnl = s.pnl := rfl
@[simp] theorem drawTrace_sto (t : Trace) (b : Bool) (es : List ColEntry) (p : Pass) (s : State) : (drawTrace t b es p s).sto = s.sto := rfl
@[simp] theorem drawTrace_xfr (t : Trace) (b : Bool) (es : List ColEntry) (p : Pass) (s : State) : (drawTrace t b es p s).xfr = s.xfr := rfl
@[simp] theorem drawTrace_lnk (t : Trace) (b : Bool) (es : List ColEntry) (p : Pass) (s : State) : (drawTrace t b es p s).lnk = s.lnk := rfl

@[simp] theorem clearHold_pending (k : Fin 64) (s : State) : (clearHold k s).pending = s.pending := rfl
@[simp] theorem clearHold_now (k : Fin 64) (s : State) : (clearHold k s).now = s.now := rfl
@[simp] theorem clearHold_fresh (k : Fin 64) (s : State) : (clearHold k s).fresh = s.fresh := rfl
@[simp] theorem clearHold_setup (k : Fin 64) (s : State) : (clearHold k s).setup = s.setup := rfl
@[simp] theorem clearHold_generation (k : Fin 64) (s : State) : (clearHold k s).generation = s.generation := rfl
@[simp] theorem clearHold_fallbacks (k : Fin 64) (s : State) : (clearHold k s).fallbacks = s.fallbacks := rfl
@[simp] theorem clearHold_fec (k : Fin 64) (s : State) : (clearHold k s).fec = s.fec := rfl
@[simp] theorem clearHold_trg (k : Fin 64) (s : State) : (clearHold k s).trg = s.trg := rfl
@[simp] theorem clearHold_mem (k : Fin 64) (s : State) : (clearHold k s).mem = s.mem := rfl
@[simp] theorem clearHold_acq (k : Fin 64) (s : State) : (clearHold k s).acq = s.acq := rfl
@[simp] theorem clearHold_rnd (k : Fin 64) (s : State) : (clearHold k s).rnd = s.rnd := rfl
@[simp] theorem clearHold_cmp (k : Fin 64) (s : State) : (clearHold k s).cmp = s.cmp := rfl
@[simp] theorem clearHold_sto (k : Fin 64) (s : State) : (clearHold k s).sto = s.sto := rfl
@[simp] theorem clearHold_xfr (k : Fin 64) (s : State) : (clearHold k s).xfr = s.xfr := rfl
@[simp] theorem clearHold_lnk (k : Fin 64) (s : State) : (clearHold k s).lnk = s.lnk := rfl
@[simp] theorem clearHold_pnl (k : Fin 64) (s : State) :
    (clearHold k s).pnl = { s.pnl with keys := vmod s.pnl.keys k (fun x => { x with hold := none, holdTaken := false }) } := rfl

/-- R35: what a raw code does to FEC's sum, and that it touches the two counts alone. -/
theorem sumCodes_only (raw : Vector Byte 4) (s : State) :
    sumCodes raw s = { s with fec := { s.fec with calSum := (sumCodes raw s).fec.calSum, calCodes := (sumCodes raw s).fec.calCodes } } := by
  unfold sumCodes
  split
  · rfl
  · split <;> rfl

end Sys2Proof.Machine
end

