-- ==== Sys2Proof/Laws/Link.lean ====
section
/-! SUPPORT. Requests, replies, and the outbound queue: what each shared operation can do, said once. -/

namespace Sys2Proof.Machine

/-! ### Requests -/

/-- R208: a request that can be taken is handed to its owner, with a reservation for its reply. -/
theorem request_of_canTake (type tag : Byte) (payload : List Byte) (owner : State → State) (s : State)
    (h : CanTake type tag payload s) : request type tag payload owner s = .next (owner (handed s)) := by
  obtain ⟨h1, h2, h3⟩ := h
  unfold request takeHead
  cases hq : s.lnk.inbound with
  | nil => rw [hq] at h1; cases h1
  | cons g rest =>
    rw [hq] at h1
    simp only [List.head?_cons, Option.some.injEq] at h1
    subst h1
    simp [h2, h3, handed, taken, reserve, hq]

/-- Log 8: a request that cannot be taken waits. -/
theorem request_of_not_canTake (type tag : Byte) (payload : List Byte) (owner : State → State) (s : State)
    (h : ¬ CanTake type tag payload s) : request type tag payload owner s = .next s := by
  unfold request takeHead
  cases hq : s.lnk.inbound with
  | nil => rfl
  | cons g rest =>
    have : ¬ (g = (⟨type, tag, payload⟩ : LinkFrame) ∧ s.lnk.startUp = false ∧ 2 ≤ freeCount s) := by
      rintro ⟨hg, h2, h3⟩
      exact h ⟨by rw [hq, hg]; rfl, h2, h3⟩
    simp only [this, if_false]

/-- A request always answers with a next state. -/
theorem request_next (type tag : Byte) (payload : List Byte) (owner : State → State) (s : State) :
    ∃ t, request type tag payload owner s = .next t := by
  by_cases h : CanTake type tag payload s
  · exact ⟨_, request_of_canTake type tag payload owner s h⟩
  · exact ⟨_, request_of_not_canTake type tag payload owner s h⟩

/-- R208: the reply of a request handed on, where its owner changed nothing else. -/
theorem reply_handed (q g : Byte) (st : Status) (b : ReplyBody) (s : State) :
    reply q g st b (handed s) = answered q g st b (taken s) := by
  simp [reply, handed, reserve, taken, answered]

/-- An event of a block that start-up has brought up. -/
theorem whenUp_of_up (f : State → State) (s : State) (h : s.lnk.startUp = false) : whenUp f s = .next (f s) := by
  simp [whenUp, h]


@[simp] theorem taken_pending (s : State) : (taken s).pending = s.pending := rfl
@[simp] theorem taken_now (s : State) : (taken s).now = s.now := rfl
@[simp] theorem taken_fresh (s : State) : (taken s).fresh = s.fresh := rfl
@[simp] theorem taken_setup (s : State) : (taken s).setup = s.setup := rfl
@[simp] theorem taken_generation (s : State) : (taken s).generation = s.generation := rfl
@[simp] theorem taken_fallbacks (s : State) : (taken s).fallbacks = s.fallbacks := rfl
@[simp] theorem taken_fec (s : State) : (taken s).fec = s.fec := rfl
@[simp] theorem taken_trg (s : State) : (taken s).trg = s.trg := rfl
@[simp] theorem taken_mem (s : State) : (taken s).mem = s.mem := rfl
@[simp] theorem taken_acq (s : State) : (taken s).acq = s.acq := rfl
@[simp] theorem taken_rnd (s : State) : (taken s).rnd = s.rnd := rfl
@[simp] theorem taken_cmp (s : State) : (taken s).cmp = s.cmp := rfl
@[simp] theorem taken_pnl (s : State) : (taken s).pnl = s.pnl := rfl
@[simp] theorem taken_sto (s : State) : (taken s).sto = s.sto := rfl

@[simp] theorem handed_pending (s : State) : (handed s).pending = s.pending := rfl
@[simp] theorem handed_now (s : State) : (handed s).now = s.now := rfl
@[simp] theorem handed_fresh (s : State) : (handed s).fresh = s.fresh := rfl
@[simp] theorem handed_setup (s : State) : (handed s).setup = s.setup := rfl
@[simp] theorem handed_generation (s : State) : (handed s).generation = s.generation := rfl
@[simp] theorem handed_fallbacks (s : State) : (handed s).fallbacks = s.fallbacks := rfl
@[simp] theorem handed_fec (s : State) : (handed s).fec = s.fec := rfl
@[simp] theorem handed_trg (s : State) : (handed s).trg = s.trg := rfl
@[simp] theorem handed_mem (s : State) : (handed s).mem = s.mem := rfl
@[simp] theorem handed_acq (s : State) : (handed s).acq = s.acq := rfl
@[simp] theorem handed_rnd (s : State) : (handed s).rnd = s.rnd := rfl
@[simp] theorem handed_cmp (s : State) : (handed s).cmp = s.cmp := rfl
@[simp] theorem handed_pnl (s : State) : (handed s).pnl = s.pnl := rfl
@[simp] theorem handed_sto (s : State) : (handed s).sto = s.sto := rfl

@[simp] theorem answered_pending (q g : Byte) (st : Status) (b : ReplyBody) (s : State) : (answered q g st b s).pending = s.pending := rfl
@[simp] theorem answered_now (q g : Byte) (st : Status) (b : ReplyBody) (s : State) : (answered q g st b s).now = s.now := rfl
@[simp] theorem answered_fresh (q g : Byte) (st : Status) (b : ReplyBody) (s : State) : (answered q g st b s).fresh = s.fresh := rfl
@[simp] theorem answered_setup (q g : Byte) (st : Status) (b : ReplyBody) (s : State) : (answered q g st b s).setup = s.setup := rfl
@[simp] theorem answered_generation (q g : Byte) (st : Status) (b : ReplyBody) (s : State) : (answered q g st b s).generation = s.generation := rfl
@[simp] theorem answered_fallbacks (q g : Byte) (st : Status) (b : ReplyBody) (s : State) : (answered q g st b s).fallbacks = s.fallbacks := rfl
@[simp] theorem answered_fec (q g : Byte) (st : Status) (b : ReplyBody) (s : State) : (answered q g st b s).fec = s.fec := rfl
@[simp] theorem answered_trg (q g : Byte) (st : Status) (b : ReplyBody) (s : State) : (answered q g st b s).trg = s.trg := rfl
@[simp] theorem answered_mem (q g : Byte) (st : Status) (b : ReplyBody) (s : State) : (answered q g st b s).mem = s.mem := rfl
@[simp] theorem answered_acq (q g : Byte) (st : Status) (b : ReplyBody) (s : State) : (answered q g st b s).acq = s.acq := rfl
@[simp] theorem answered_rnd (q g : Byte) (st : Status) (b : ReplyBody) (s : State) : (answered q g st b s).rnd = s.rnd := rfl
@[simp] theorem answered_cmp (q g : Byte) (st : Status) (b : ReplyBody) (s : State) : (answered q g st b s).cmp = s.cmp := rfl
@[simp] theorem answered_pnl (q g : Byte) (st : Status) (b : ReplyBody) (s : State) : (answered q g st b s).pnl = s.pnl := rfl
@[simp] theorem answered_sto (q g : Byte) (st : Status) (b : ReplyBody) (s : State) : (answered q g st b s).sto = s.sto := rfl

/-! ### Offers -/

/-- Replacing in place keeps the length. -/
theorem replaceFirst_length {α : Type} (p : α → Bool) (f : α → α) (xs ys : List α) (h : replaceFirst p f xs = some ys) :
    ys.length = xs.length := by
  induction xs generalizing ys with
  | nil => cases h
  | cons x rest ih =>
    simp only [replaceFirst] at h
    split at h
    · cases h; rfl
    · cases hr : replaceFirst p f rest with
      | none => rw [hr] at h; cases h
      | some zs => rw [hr] at h; cases h; simp [ih zs hr]

/-- Nothing is replaced exactly where no element qualifies. -/
theorem replaceFirst_none {α : Type} (p : α → Bool) (f : α → α) (xs : List α) :
    replaceFirst p f xs = none ↔ ∀ x ∈ xs, p x = false := by
  induction xs with
  | nil => simp [replaceFirst]
  | cons x rest ih =>
    simp only [replaceFirst]
    split
    · rename_i hp; simp [hp]
    · rename_i hp; simp [ih, hp]

/-- R213: latching a condition touches the condition table alone. -/
theorem setLatched_only (c : Condition) (d : CauseDetail) (s : State) :
    setLatched c d s = { s with lnk := { s.lnk with conds := (setLatched c d s).lnk.conds } } := rfl

/-- R210: a dropped report touches the condition table alone. -/
theorem dropReport_only (r : Report) (s : State) :
    dropReport r s = { s with lnk := { s.lnk with conds := (dropReport r s).lnk.conds } } := by
  unfold dropReport; split <;> rfl

/-- R209: noting an update touches the transaction alone. -/
theorem noteUpdate_only (p : Record → Bool) (s : State) :
    noteUpdate p s = { s with lnk := { s.lnk with txn := (noteUpdate p s).lnk.txn } } := by
  unfold noteUpdate; split
  · split <;> rfl
  · rfl

/-- R210, R211: an offer touches the outbound queue, the condition table and the transaction alone. -/
theorem offer_only (r : Report) (s : State) :
    offer r s = { s with lnk := { s.lnk with
      outbound := (offer r s).lnk.outbound, conds := (offer r s).lnk.conds, txn := (offer r s).lnk.txn } } := by
  unfold offer
  split
  · rw [noteUpdate_only]
  · unfold offerNew; split
    · rfl
    · rw [dropReport_only]

/-- R210, R211: an offered report updates its unsent record in place, or joins, or is dropped. -/
theorem offer_outbound (r : Report) (s : State) :
    (∃ q, replaceFirst (updates r) (fun _ => Record.report r) s.lnk.outbound = some q ∧ (offer r s).lnk.outbound = q) ∨
    ((∀ x ∈ s.lnk.outbound, updates r x = false) ∧ 1 ≤ freeCount s ∧
      (offer r s).lnk.outbound = s.lnk.outbound ++ [.report r]) ∨
    ((∀ x ∈ s.lnk.outbound, updates r x = false) ∧ freeCount s = 0 ∧ (offer r s).lnk.outbound = s.lnk.outbound ∧
      (condEntry .reportLoss (offer r s)).latched = true) := by
  unfold offer
  split
  · rename_i q hq; exact .inl ⟨q, hq, rfl⟩
  · rename_i hq
    rw [replaceFirst_none] at hq
    unfold offerNew
    split
    · rename_i hf; exact .inr (.inl ⟨hq, hf, rfl⟩)
    · rename_i hf
      refine .inr (.inr ⟨hq, by omega, ?_, ?_⟩)
      · rw [dropReport_only]
      · unfold dropReport
        split
        · assumption
        · simp [condEntry, vmod]

/-- R211: an offer keeps the records and reservations within the 64 places. -/
theorem offer_bounded (r : Report) (s : State) (h : OutboundBounded s) : OutboundBounded (offer r s) := by
  have hr : (offer r s).lnk.reservations = s.lnk.reservations := by rw [offer_only]
  unfold OutboundBounded at *
  rw [hr]
  rcases offer_outbound r s with ⟨q, hq, e⟩ | ⟨_, hf, e⟩ | ⟨_, _, e, _⟩
  · rw [e, replaceFirst_length _ _ _ _ hq]; exact h
  · rw [e, List.length_append, List.length_singleton]; unfold freeCount at hf; omega
  · rw [e]; exact h

@[simp] theorem dropReport_pending (r : Report) (s : State) : (dropReport r s).pending = s.pending := by rw [dropReport_only]
@[simp] theorem dropReport_now (r : Report) (s : State) : (dropReport r s).now = s.now := by rw [dropReport_only]
@[simp] theorem dropReport_fresh (r : Report) (s : State) : (dropReport r s).fresh = s.fresh := by rw [dropReport_only]
@[simp] theorem dropReport_setup (r : Report) (s : State) : (dropReport r s).setup = s.setup := by rw [dropReport_only]
@[simp] theorem dropReport_generation (r : Report) (s : State) : (dropReport r s).generation = s.generation := by rw [dropReport_only]
@[simp] theorem dropReport_fallbacks (r : Report) (s : State) : (dropReport r s).fallbacks = s.fallbacks := by rw [dropReport_only]
@[simp] theorem dropReport_fec (r : Report) (s : State) : (dropReport r s).fec = s.fec := by rw [dropReport_only]
@[simp] theorem dropReport_trg (r : Report) (s : State) : (dropReport r s).trg = s.trg := by rw [dropReport_only]
@[simp] theorem dropReport_mem (r : Report) (s : State) : (dropReport r s).mem = s.mem := by rw [dropReport_only]
@[simp] theorem dropReport_acq (r : Report) (s : State) : (dropReport r s).acq = s.acq := by rw [dropReport_only]
@[simp] theorem dropReport_rnd (r : Report) (s : State) : (dropReport r s).rnd = s.rnd := by rw [dropReport_only]
@[simp] theorem dropReport_cmp (r : Report) (s : State) : (dropReport r s).cmp = s.cmp := by rw [dropReport_only]
@[simp] theorem dropReport_pnl (r : Report) (s : State) : (dropReport r s).pnl = s.pnl := by rw [dropReport_only]
@[simp] theorem dropReport_sto (r : Report) (s : State) : (dropReport r s).sto = s.sto := by rw [dropReport_only]
@[simp] theorem dropReport_lnk_startUp (r : Report) (s : State) : (dropReport r s).lnk.startUp = s.lnk.startUp := by rw [dropReport_only]
@[simp] theorem dropReport_lnk_heldInReset (r : Report) (s : State) : (dropReport r s).lnk.heldInReset = s.lnk.heldInReset := by rw [dropReport_only]
@[simp] theorem dropReport_lnk_inbound (r : Report) (s : State) : (dropReport r s).lnk.inbound = s.lnk.inbound := by rw [dropReport_only]
@[simp] theorem dropReport_lnk_outbound (r : Report) (s : State) : (dropReport r s).lnk.outbound = s.lnk.outbound := by rw [dropReport_only]
@[simp] theorem dropReport_lnk_reservations (r : Report) (s : State) : (dropReport r s).lnk.reservations = s.lnk.reservations := by rw [dropReport_only]
@[simp] theorem dropReport_lnk_heldReports (r : Report) (s : State) : (dropReport r s).lnk.heldReports = s.lnk.heldReports := by rw [dropReport_only]
@[simp] theorem dropReport_lnk_txn (r : Report) (s : State) : (dropReport r s).lnk.txn = s.lnk.txn := by rw [dropReport_only]
@[simp] theorem dropReport_lnk_miso (r : Report) (s : State) : (dropReport r s).lnk.miso = s.lnk.miso := by rw [dropReport_only]

@[simp] theorem noteUpdate_pending (p : Record → Bool) (s : State) : (noteUpdate p s).pending = s.pending := by rw [noteUpdate_only]
@[simp] theorem noteUpdate_now (p : Record → Bool) (s : State) : (noteUpdate p s).now = s.now := by rw [noteUpdate_only]
@[simp] theorem noteUpdate_fresh (p : Record → Bool) (s : State) : (noteUpdate p s).fresh = s.fresh := by rw [noteUpdate_only]
@[simp] theorem noteUpdate_setup (p : Record → Bool) (s : State) : (noteUpdate p s).setup = s.setup := by rw [noteUpdate_only]
@[simp] theorem noteUpdate_generation (p : Record → Bool) (s : State) : (noteUpdate p s).generation = s.generation := by rw [noteUpdate_only]
@[simp] theorem noteUpdate_fallbacks (p : Record → Bool) (s : State) : (noteUpdate p s).fallbacks = s.fallbacks := by rw [noteUpdate_only]
@[simp] theorem noteUpdate_fec (p : Record → Bool) (s : State) : (noteUpdate p s).fec = s.fec := by rw [noteUpdate_only]
@[simp] theorem noteUpdate_trg (p : Record → Bool) (s : State) : (noteUpdate p s).trg = s.trg := by rw [noteUpdate_only]
@[simp] theorem noteUpdate_mem (p : Record → Bool) (s : State) : (noteUpdate p s).mem = s.mem := by rw [noteUpdate_only]
@[simp] theorem noteUpdate_acq (p : Record → Bool) (s : State) : (noteUpdate p s).acq = s.acq := by rw [noteUpdate_only]
@[simp] theorem noteUpdate_rnd (p : Record → Bool) (s : State) : (noteUpdate p s).rnd = s.rnd := by rw [noteUpdate_only]
@[simp] theorem noteUpdate_cmp (p : Record → Bool) (s : State) : (noteUpdate p s).cmp = s.cmp := by rw [noteUpdate_only]
@[simp] theorem noteUpdate_pnl (p : Record → Bool) (s : State) : (noteUpdate p s).pnl = s.pnl := by rw [noteUpdate_only]
@[simp] theorem noteUpdate_sto (p : Record → Bool) (s : State) : (noteUpdate p s).sto = s.sto := by rw [noteUpdate_only]
@[simp] theorem noteUpdate_lnk_startUp (p : Record → Bool) (s : State) : (noteUpdate p s).lnk.startUp = s.lnk.startUp := by rw [noteUpdate_only]
@[simp] theorem noteUpdate_lnk_heldInReset (p : Record → Bool) (s : State) : (noteUpdate p s).lnk.heldInReset = s.lnk.heldInReset := by rw [noteUpdate_only]
@[simp] theorem noteUpdate_lnk_inbound (p : Record → Bool) (s : State) : (noteUpdate p s).lnk.inbound = s.lnk.inbound := by rw [noteUpdate_only]
@[simp] theorem noteUpdate_lnk_outbound (p : Record → Bool) (s : State) : (noteUpdate p s).lnk.outbound = s.lnk.outbound := by rw [noteUpdate_only]
@[simp] theorem noteUpdate_lnk_reservations (p : Record → Bool) (s : State) : (noteUpdate p s).lnk.reservations = s.lnk.reservations := by rw [noteUpdate_only]
@[simp] theorem noteUpdate_lnk_conds (p : Record → Bool) (s : State) : (noteUpdate p s).lnk.conds = s.lnk.conds := by rw [noteUpdate_only]
@[simp] theorem noteUpdate_lnk_heldReports (p : Record → Bool) (s : State) : (noteUpdate p s).lnk.heldReports = s.lnk.heldReports := by rw [noteUpdate_only]
@[simp] theorem noteUpdate_lnk_miso (p : Record → Bool) (s : State) : (noteUpdate p s).lnk.miso = s.lnk.miso := by rw [noteUpdate_only]

@[simp] theorem offer_pending (r : Report) (s : State) : (offer r s).pending = s.pending := by rw [offer_only]
@[simp] theorem offer_now (r : Report) (s : State) : (offer r s).now = s.now := by rw [offer_only]
@[simp] theorem offer_fresh (r : Report) (s : State) : (offer r s).fresh = s.fresh := by rw [offer_only]
@[simp] theorem offer_setup (r : Report) (s : State) : (offer r s).setup = s.setup := by rw [offer_only]
@[simp] theorem offer_generation (r : Report) (s : State) : (offer r s).generation = s.generation := by rw [offer_only]
@[simp] theorem offer_fallbacks (r : Report) (s : State) : (offer r s).fallbacks = s.fallbacks := by rw [offer_only]
@[simp] theorem offer_fec (r : Report) (s : State) : (offer r s).fec = s.fec := by rw [offer_only]
@[simp] theorem offer_trg (r : Report) (s : State) : (offer r s).trg = s.trg := by rw [offer_only]
@[simp] theorem offer_mem (r : Report) (s : State) : (offer r s).mem = s.mem := by rw [offer_only]
@[simp] theorem offer_acq (r : Report) (s : State) : (offer r s).acq = s.acq := by rw [offer_only]
@[simp] theorem offer_rnd (r : Report) (s : State) : (offer r s).rnd = s.rnd := by rw [offer_only]
@[simp] theorem offer_cmp (r : Report) (s : State) : (offer r s).cmp = s.cmp := by rw [offer_only]
@[simp] theorem offer_pnl (r : Report) (s : State) : (offer r s).pnl = s.pnl := by rw [offer_only]
@[simp] theorem offer_sto (r : Report) (s : State) : (offer r s).sto = s.sto := by rw [offer_only]
@[simp] theorem offer_lnk_startUp (r : Report) (s : State) : (offer r s).lnk.startUp = s.lnk.startUp := by rw [offer_only]
@[simp] theorem offer_lnk_heldInReset (r : Report) (s : State) : (offer r s).lnk.heldInReset = s.lnk.heldInReset := by rw [offer_only]
@[simp] theorem offer_lnk_inbound (r : Report) (s : State) : (offer r s).lnk.inbound = s.lnk.inbound := by rw [offer_only]
@[simp] theorem offer_lnk_reservations (r : Report) (s : State) : (offer r s).lnk.reservations = s.lnk.reservations := by rw [offer_only]
@[simp] theorem offer_lnk_heldReports (r : Report) (s : State) : (offer r s).lnk.heldReports = s.lnk.heldReports := by rw [offer_only]
@[simp] theorem offer_lnk_miso (r : Report) (s : State) : (offer r s).lnk.miso = s.lnk.miso := by rw [offer_only]

/-- Several offers touch what one offer touches. -/
theorem offerAll_only (rs : List Report) (s : State) :
    offerAll rs s = { s with lnk := { s.lnk with
      outbound := (offerAll rs s).lnk.outbound, conds := (offerAll rs s).lnk.conds, txn := (offerAll rs s).lnk.txn } } := by
  unfold offerAll
  induction rs generalizing s with
  | nil => rfl
  | cons r rest ih => rw [List.foldl_cons, ih (offer r s)]; rw [offer_only r s]

/-- Several offers keep the bound. -/
theorem offerAll_bounded (rs : List Report) (s : State) (h : OutboundBounded s) : OutboundBounded (offerAll rs s) := by
  unfold offerAll
  induction rs generalizing s with
  | nil => exact h
  | cons r rest ih => exact ih (offer r s) (offer_bounded r s h)

/-- R213: a latch touches LNK alone: the condition table, and the report it offers or holds. -/
theorem latchCondition_only (c : Condition) (d : CauseDetail) (s : State) :
    latchCondition c d s = { s with lnk := (latchCondition c d s).lnk } := by
  unfold latchCondition
  split
  · rfl
  · simp only
    split
    · rfl
    · rw [offer_only]; rfl

/-- R213: a latch leaves the reservations, the start-up flag and the inbound queue. -/
theorem latchCondition_reservations (c : Condition) (d : CauseDetail) (s : State) :
    (latchCondition c d s).lnk.reservations = s.lnk.reservations ∧ (latchCondition c d s).lnk.startUp = s.lnk.startUp ∧
    (latchCondition c d s).lnk.inbound = s.lnk.inbound := by
  unfold latchCondition
  split
  · exact ⟨rfl, rfl, rfl⟩
  · simp only
    split
    · exact ⟨rfl, rfl, rfl⟩
    · rw [offer_only]; exact ⟨rfl, rfl, rfl⟩

/-- R213: a latch keeps the bound. -/
theorem latchCondition_bounded (c : Condition) (d : CauseDetail) (s : State) (h : OutboundBounded s) :
    OutboundBounded (latchCondition c d s) := by
  unfold latchCondition
  split
  · exact h
  · simp only
    split
    · exact h
    · exact offer_bounded _ _ h

@[simp] theorem offerAll_pending (rs : List Report) (s : State) : (offerAll rs s).pending = s.pending := by rw [offerAll_only]
@[simp] theorem offerAll_now (rs : List Report) (s : State) : (offerAll rs s).now = s.now := by rw [offerAll_only]
@[simp] theorem offerAll_fresh (rs : List Report) (s : State) : (offerAll rs s).fresh = s.fresh := by rw [offerAll_only]
@[simp] theorem offerAll_setup (rs : List Report) (s : State) : (offerAll rs s).setup = s.setup := by rw [offerAll_only]
@[simp] theorem offerAll_generation (rs : List Report) (s : State) : (offerAll rs s).generation = s.generation := by rw [offerAll_only]
@[simp] theorem offerAll_fallbacks (rs : List Report) (s : State) : (offerAll rs s).fallbacks = s.fallbacks := by rw [offerAll_only]
@[simp] theorem offerAll_fec (rs : List Report) (s : State) : (offerAll rs s).fec = s.fec := by rw [offerAll_only]
@[simp] theorem offerAll_trg (rs : List Report) (s : State) : (offerAll rs s).trg = s.trg := by rw [offerAll_only]
@[simp] theorem offerAll_mem (rs : List Report) (s : State) : (offerAll rs s).mem = s.mem := by rw [offerAll_only]
@[simp] theorem offerAll_acq (rs : List Report) (s : State) : (offerAll rs s).acq = s.acq := by rw [offerAll_only]
@[simp] theorem offerAll_rnd (rs : List Report) (s : State) : (offerAll rs s).rnd = s.rnd := by rw [offerAll_only]
@[simp] theorem offerAll_cmp (rs : List Report) (s : State) : (offerAll rs s).cmp = s.cmp := by rw [offerAll_only]
@[simp] theorem offerAll_pnl (rs : List Report) (s : State) : (offerAll rs s).pnl = s.pnl := by rw [offerAll_only]
@[simp] theorem offerAll_sto (rs : List Report) (s : State) : (offerAll rs s).sto = s.sto := by rw [offerAll_only]

@[simp] theorem latchCondition_pending (c : Condition) (d : CauseDetail) (s : State) : (latchCondition c d s).pending = s.pending := by rw [latchCondition_only]
@[simp] theorem latchCondition_now (c : Condition) (d : CauseDetail) (s : State) : (latchCondition c d s).now = s.now := by rw [latchCondition_only]
@[simp] theorem latchCondition_fresh (c : Condition) (d : CauseDetail) (s : State) : (latchCondition c d s).fresh = s.fresh := by rw [latchCondition_only]
@[simp] theorem latchCondition_setup (c : Condition) (d : CauseDetail) (s : State) : (latchCondition c d s).setup = s.setup := by rw [latchCondition_only]
@[simp] theorem latchCondition_generation (c : Condition) (d : CauseDetail) (s : State) : (latchCondition c d s).generation = s.generation := by rw [latchCondition_only]
@[simp] theorem latchCondition_fallbacks (c : Condition) (d : CauseDetail) (s : State) : (latchCondition c d s).fallbacks = s.fallbacks := by rw [latchCondition_only]
@[simp] theorem latchCondition_fec (c : Condition) (d : CauseDetail) (s : State) : (latchCondition c d s).fec = s.fec := by rw [latchCondition_only]
@[simp] theorem latchCondition_trg (c : Condition) (d : CauseDetail) (s : State) : (latchCondition c d s).trg = s.trg := by rw [latchCondition_only]
@[simp] theorem latchCondition_mem (c : Condition) (d : CauseDetail) (s : State) : (latchCondition c d s).mem = s.mem := by rw [latchCondition_only]
@[simp] theorem latchCondition_acq (c : Condition) (d : CauseDetail) (s : State) : (latchCondition c d s).acq = s.acq := by rw [latchCondition_only]
@[simp] theorem latchCondition_rnd (c : Condition) (d : CauseDetail) (s : State) : (latchCondition c d s).rnd = s.rnd := by rw [latchCondition_only]
@[simp] theorem latchCondition_cmp (c : Condition) (d : CauseDetail) (s : State) : (latchCondition c d s).cmp = s.cmp := by rw [latchCondition_only]
@[simp] theorem latchCondition_pnl (c : Condition) (d : CauseDetail) (s : State) : (latchCondition c d s).pnl = s.pnl := by rw [latchCondition_only]
@[simp] theorem latchCondition_sto (c : Condition) (d : CauseDetail) (s : State) : (latchCondition c d s).sto = s.sto := by rw [latchCondition_only]

end Sys2Proof.Machine
end

