-- ==== Sys2Proof/Laws/Panel.lean ====
section
/-! SUPPORT. What a row slot and an encoder sample can do: each either waits for the other of its instant or acts, after what was
left waiting has been finished. -/

namespace Sys2Proof.Machine

/-! ### What a slot leaves in the scan's own fields -/

@[simp] theorem runSlot_contacts (c : Byte) (s : State) : (runSlot c s).pnl.contacts = none := rfl
@[simp] theorem runSlot_lines (c : Byte) (s : State) : (runSlot c s).pnl.lines = none := rfl
@[simp] theorem runSlot_row (c : Byte) (s : State) : (runSlot c s).pnl.row = nextRow s.pnl.row := rfl
@[simp] theorem runSlot_rowNext (c : Byte) (s : State) : (runSlot c s).pnl.rowNext = s.pnl.rowNext + 500000 := rfl

@[simp] theorem nextSample_now (s : State) : (nextSample s).now = max s.now s.pnl.encNext := rfl
@[simp] theorem nextSample_encNext (s : State) : (nextSample s).pnl.encNext = s.pnl.encNext + 250000 := rfl
@[simp] theorem nextSample_rowNext (s : State) : (nextSample s).pnl.rowNext = s.pnl.rowNext := rfl
@[simp] theorem nextSample_lnk (s : State) : (nextSample s).lnk = s.lnk := rfl

/-! ### What was left waiting -/

theorem settleSlot_of_none {s : State} (h : s.pnl.contacts = none) : settleSlot s = s := by
  simp [settleSlot, h]

theorem settleSlot_of_some {c : Byte} {s : State} (h : s.pnl.contacts = some c) :
    settleSlot s = runSlot c { s with pnl := { s.pnl with contacts := none } } := by
  simp [settleSlot, h]

@[simp] theorem settleSlot_contacts (s : State) : (settleSlot s).pnl.contacts = none := by
  cases h : s.pnl.contacts with
  | none => rw [settleSlot_of_none h, h]
  | some c => rw [settleSlot_of_some h, runSlot_contacts]

theorem settleLines_of_none {s : State} (h : s.pnl.lines = none) : settleLines s = s := by
  simp [settleLines, h]

theorem settleLines_of_some {a b : BitVec 12} {s : State} (h : s.pnl.lines = some (a, b)) :
    settleLines s = sampleAll a b { s with pnl := { s.pnl with lines := none } } := by
  simp [settleLines, h]

/-! ### The two commands -/

/-- Everything ROW_SLOT can do: on a blanked panel, with a sample due, the slot waits; else it runs. -/
theorem rowSlot_cases (c : Byte) (s : State) :
    ((settleSlot s).pnl.blanked = true ∧ (settleSlot s).pnl.encNext = (settleSlot s).pnl.rowNext ∧
      rowSlot c s = { reach (settleSlot s).pnl.rowNext (settleSlot s) with
        pnl := { (settleSlot s).pnl with contacts := some c } }) ∨
    (((settleSlot s).pnl.blanked = false ∨ (settleSlot s).pnl.encNext ≠ (settleSlot s).pnl.rowNext) ∧
      rowSlot c s = runSlot c (settleSlot s)) := by
  by_cases h : (settleSlot s).pnl.blanked = true ∧ (settleSlot s).pnl.encNext = (settleSlot s).pnl.rowNext
  · exact .inl ⟨h.1, h.2, by simp [rowSlot, sampleDue, h.1, h.2, reach]⟩
  · refine .inr ⟨?_, ?_⟩
    · cases hb : (settleSlot s).pnl.blanked with
      | false => exact .inl rfl
      | true => exact .inr (fun e => h ⟨hb, e⟩)
    · have : ((settleSlot s).pnl.blanked && sampleDue (settleSlot s)) = false := by
        simpa [sampleDue] using h
      simp only [rowSlot, this]
      rfl

/-- Everything ENCODER_SAMPLE can do: at the instant of a slot, with the panel blanked or the slot waiting, its lines are left to the
slot, which runs if it waits; else the twelve encoders are sampled. -/
theorem encoderSamples_cases (a b : BitVec 12) (s : State) :
    (sampleDue (settleLines s) = true ∧
      ((settleLines s).pnl.blanked = true ∨ (settleLines s).pnl.contacts.isSome = true) ∧
      encoderSamples a b s = settleSlot { nextSample (settleLines s) with
        pnl := { (nextSample (settleLines s)).pnl with lines := some (a, b) } }) ∨
    encoderSamples a b s = sampleAll a b (nextSample (settleLines s)) := by
  by_cases h : (sampleDue (settleLines s) && ((settleLines s).pnl.blanked || (settleLines s).pnl.contacts.isSome)) = true
  · have parts := h
    simp only [Bool.and_eq_true, Bool.or_eq_true] at parts
    exact .inl ⟨parts.1, parts.2, by simp only [encoderSamples, h]; rfl⟩
  · refine .inr ?_
    simp only [encoderSamples, Bool.not_eq_true] at h ⊢
    simp only [h]
    rfl

end Sys2Proof.Machine
end

