-- ==== Sys2Proof/Laws/Store.lean ====
section
/-! SUPPORT. The sparse store: what a read gives after each write, and that every operation keeps the canonical form. -/

namespace Sys2Proof.Machine

/-- The canonical form, said of the whole list: addresses strictly rising, and no byte 0. -/
theorem store_wf_iff (m : Store) :
    Store.wf m = true ↔ m.Pairwise (fun p q => p.1 < q.1) ∧ ∀ p ∈ m, p.2 ≠ 0 := by
  induction m with
  | nil => simp [Store.wf]
  | cons p rest ih =>
    obtain ⟨k, v⟩ := p
    cases rest with
    | nil => simp [Store.wf]
    | cons q rest =>
      obtain ⟨k', v'⟩ := q
      simp only [Store.wf, Bool.and_eq_true, ih, List.pairwise_cons, List.mem_cons, forall_eq_or_imp, bne_iff_ne, ne_eq,
        decide_eq_true_eq]
      constructor
      · rintro ⟨⟨hv, hk⟩, ⟨h1, h2⟩, h3, h4⟩
        exact ⟨⟨⟨hk, fun a ha => Nat.lt_trans hk (h1 a ha)⟩, h1, h2⟩, hv, h3, h4⟩
      · rintro ⟨⟨⟨hk, _⟩, h1, h2⟩, hv, h3, h4⟩
        exact ⟨⟨hv, hk⟩, ⟨h1, h2⟩, h3, h4⟩

/-- An address that no entry bears reads 0. -/
theorem storeRead_of_absent (m : Store) (a : Nat) (h : ∀ p ∈ m, p.1 ≠ a) : storeRead m a = 0 := by
  induction m with
  | nil => rfl
  | cons p rest ih =>
    obtain ⟨k, v⟩ := p
    have hk : k ≠ a := h (k, v) (List.mem_cons_self ..)
    simp only [storeRead, if_neg hk]
    exact ih (fun q hq => h q (List.mem_cons_of_mem _ hq))

/-- Reading after an entry is put. -/
theorem storeRead_put (m : Store) (a x : Nat) (b : Byte) :
    storeRead (storePut m a b) x = if x = a then b else storeRead m x := by
  induction m with
  | nil => simp only [storePut, storeRead]; split <;> split <;> simp_all
  | cons p rest ih =>
    obtain ⟨k, v⟩ := p
    simp only [storePut]
    split
    · simp only [storeRead]
      by_cases hx : x = a
      · rw [if_pos hx, if_pos hx.symm]
      · rw [if_neg hx, if_neg (Ne.symm hx)]
    · split
      · rename_i hk
        simp only [storeRead, ← hk]
        by_cases hx : x = a
        · rw [if_pos hx, if_pos hx.symm]
        · rw [if_neg hx, if_neg (Ne.symm hx), if_neg (Ne.symm hx)]
      · rename_i hk
        simp only [storeRead, ih]
        by_cases hx : x = a
        · rw [if_pos hx, if_pos hx, if_neg (fun e => hk (by omega))]
        · rw [if_neg hx, if_neg hx]

/-- Reading after an entry is taken out of a canonical store. -/
theorem storeRead_drop (m : Store) (a x : Nat) (h : m.Pairwise (fun p q => p.1 < q.1)) :
    storeRead (storeDrop m a) x = if x = a then 0 else storeRead m x := by
  induction m with
  | nil => simp [storeDrop, storeRead]
  | cons p rest ih =>
    obtain ⟨k, v⟩ := p
    rw [List.pairwise_cons] at h
    simp only [storeDrop]
    split
    · rename_i hk
      subst hk
      by_cases hx : x = k
      · subst hx
        rw [if_pos rfl]
        exact storeRead_of_absent rest x (fun q hq => Nat.ne_of_gt (h.1 q hq))
      · rw [if_neg hx]; simp only [storeRead, if_neg (Ne.symm hx)]
    · simp only [storeRead, ih h.2]; split <;> split <;> simp_all

/-- Read after write (MEMORY): the byte written, and every other address as before. -/
theorem storeRead_write (m : Store) (a x : Nat) (b : Byte) (h : Store.wf m = true) :
    storeRead (storeWrite m a b) x = if x = a then b else storeRead m x := by
  unfold storeWrite
  split
  · rename_i hb; rw [storeRead_drop m a x ((store_wf_iff m).1 h).1, hb]
  · exact storeRead_put m a x b

/-- An entry of a store after a put is the new one or an old one. -/
theorem mem_storePut (m : Store) (a : Nat) (b : Byte) (p : Nat × Byte) (h : p ∈ storePut m a b) : p = (a, b) ∨ p ∈ m := by
  induction m with
  | nil => simp only [storePut, List.mem_singleton] at h; exact .inl h
  | cons q rest ih =>
    obtain ⟨k, v⟩ := q
    simp only [storePut] at h
    split at h
    · simpa using h
    · split at h
      · rcases List.mem_cons.1 h with h | h
        · exact .inl h
        · exact .inr (List.mem_cons_of_mem _ h)
      · rcases List.mem_cons.1 h with h | h
        · exact .inr (h ▸ List.mem_cons_self ..)
        · exact (ih h).imp id (List.mem_cons_of_mem _)

/-- An entry of a store after a drop is an old one. -/
theorem mem_storeDrop (m : Store) (a : Nat) (p : Nat × Byte) (h : p ∈ storeDrop m a) : p ∈ m := by
  induction m with
  | nil => exact h
  | cons q rest ih =>
    obtain ⟨k, v⟩ := q
    simp only [storeDrop] at h
    split at h
    · exact List.mem_cons_of_mem _ h
    · rcases List.mem_cons.1 h with h | h
      · exact h ▸ List.mem_cons_self ..
      · exact List.mem_cons_of_mem _ (ih h)

/-- A put keeps the addresses rising. -/
theorem pairwise_storePut (m : Store) (a : Nat) (b : Byte) (h : m.Pairwise (fun p q => p.1 < q.1)) :
    (storePut m a b).Pairwise (fun p q => p.1 < q.1) := by
  induction m with
  | nil => simp [storePut]
  | cons q rest ih =>
    obtain ⟨k, v⟩ := q
    rw [List.pairwise_cons] at h
    simp only [storePut]
    split
    · rename_i hk
      refine List.pairwise_cons.2 ⟨?_, List.pairwise_cons.2 h⟩
      intro p hp
      rcases List.mem_cons.1 hp with hp | hp
      · subst hp; exact hk
      · exact Nat.lt_trans hk (h.1 p hp)
    · split
      · rename_i hk; subst hk; exact List.pairwise_cons.2 ⟨h.1, h.2⟩
      · refine List.pairwise_cons.2 ⟨fun p hp => ?_, ih h.2⟩
        rcases mem_storePut rest a b p hp with hp | hp
        · subst hp; simp only; omega
        · exact h.1 p hp

/-- A drop keeps the addresses rising. -/
theorem pairwise_storeDrop (m : Store) (a : Nat) (h : m.Pairwise (fun p q => p.1 < q.1)) :
    (storeDrop m a).Pairwise (fun p q => p.1 < q.1) := by
  induction m with
  | nil => exact h
  | cons q rest ih =>
    obtain ⟨k, v⟩ := q
    rw [List.pairwise_cons] at h
    simp only [storeDrop]
    split
    · exact h.2
    · exact List.pairwise_cons.2 ⟨fun p hp => h.1 p (mem_storeDrop rest a p hp), ih h.2⟩

/-- A write keeps the canonical form. -/
theorem wf_storeWrite (m : Store) (a : Nat) (b : Byte) (h : Store.wf m = true) : Store.wf (storeWrite m a b) = true := by
  rw [store_wf_iff] at h ⊢
  unfold storeWrite
  split
  · exact ⟨pairwise_storeDrop m a h.1, fun p hp => h.2 p (mem_storeDrop m a p hp)⟩
  · rename_i hb
    refine ⟨pairwise_storePut m a b h.1, fun p hp => ?_⟩
    rcases mem_storePut m a b p hp with hp | hp
    · subst hp; exact hb
    · exact h.2 p hp

/-- A fold of writes, each address and byte computed from the store so far, keeps the canonical form. -/
theorem wf_foldl_write {α : Type} (xs : List α) (addr : α → Nat) (byte : Store → α → Byte) (m : Store) (h : Store.wf m = true) :
    Store.wf (xs.foldl (fun m x => storeWrite m (addr x) (byte m x)) m) = true := by
  induction xs generalizing m with
  | nil => exact h
  | cons x rest ih => exact ih _ (wf_storeWrite m _ _ h)

/-- Writing a list keeps the canonical form. -/
theorem wf_storeWriteAll (ws : List (Nat × Byte)) (m : Store) (h : Store.wf m = true) : Store.wf (storeWriteAll m ws) = true :=
  wf_foldl_write ws (fun w => w.1) (fun _ w => w.2) m h

/-- Mapping keeps the canonical form: what becomes 0 is dropped. -/
theorem wf_storeMap (f : Nat → Byte → Byte) (m : Store) (h : Store.wf m = true) : Store.wf (storeMap f m) = true := by
  have sub : ∀ (m : Store) (p : Nat × Byte), p ∈ storeMap f m → p.2 ≠ 0 ∧ ∃ q ∈ m, q.1 = p.1 := by
    intro m
    induction m with
    | nil => intro p hp; simp [storeMap] at hp
    | cons q rest ih =>
      obtain ⟨k, v⟩ := q
      intro p hp
      simp only [storeMap] at hp
      split at hp
      · obtain ⟨h0, r, hr, e⟩ := ih p hp
        exact ⟨h0, r, List.mem_cons_of_mem _ hr, e⟩
      · rename_i hz
        rcases List.mem_cons.1 hp with hp | hp
        · subst hp; exact ⟨hz, (k, v), List.mem_cons_self .., rfl⟩
        · obtain ⟨h0, r, hr, e⟩ := ih p hp
          exact ⟨h0, r, List.mem_cons_of_mem _ hr, e⟩
  have pw : ∀ m : Store, m.Pairwise (fun p q => p.1 < q.1) → (storeMap f m).Pairwise (fun p q => p.1 < q.1) := by
    intro m
    induction m with
    | nil => intro _; exact List.Pairwise.nil
    | cons q rest ih =>
      obtain ⟨k, v⟩ := q
      intro hm
      rw [List.pairwise_cons] at hm
      simp only [storeMap]
      split
      · exact ih hm.2
      · refine List.pairwise_cons.2 ⟨fun p hp => ?_, ih hm.2⟩
        obtain ⟨_, r, hr, e⟩ := sub rest p hp
        simp only; rw [← e]; exact hm.1 r hr
  rw [store_wf_iff] at h ⊢
  exact ⟨pw m h.1, fun p hp => (sub m p hp).1⟩

/-- A filled store is canonical. -/
theorem wf_storeFill (n : Nat) (b : Byte) : Store.wf (storeFill n b) = true := by
  unfold storeFill
  split
  · rfl
  · rename_i hb
    rw [store_wf_iff]
    refine ⟨?_, fun p hp => ?_⟩
    · rw [List.pairwise_map]; exact List.pairwise_lt_range
    · obtain ⟨a, _, rfl⟩ := List.mem_map.1 hp; exact hb

/-- Reading after a list of writes of one byte. -/
theorem storeRead_writeAll_const (as : List Nat) (b : Byte) (m : Store) (x : Nat) (h : Store.wf m = true) :
    storeRead (storeWriteAll m (as.map (fun a => (a, b)))) x = if x ∈ as then b else storeRead m x := by
  induction as generalizing m with
  | nil => simp [storeWriteAll]
  | cons a rest ih =>
    have e : storeWriteAll m ((a :: rest).map (fun a => (a, b))) =
        storeWriteAll (storeWrite m a b) (rest.map (fun a => (a, b))) := rfl
    rw [e, ih (storeWrite m a b) (wf_storeWrite m a b h), storeRead_write m a x b h]
    by_cases hx : x ∈ rest
    · simp [hx]
    · simp [hx, List.mem_cons]

/-- Reading a filled store. -/
theorem storeRead_fill (n : Nat) (b : Byte) (x : Nat) : storeRead (storeFill n b) x = if x < n then b else 0 := by
  have gen : ∀ (xs : List Nat), storeRead (xs.map (fun a => (a, b))) x = if x ∈ xs then b else 0 := by
    intro xs
    induction xs with
    | nil => rfl
    | cons a rest ih => 
      simp only [List.map_cons, storeRead, ih, List.mem_cons]
      by_cases hx : x = a
      · rw [if_pos hx.symm, if_pos (.inl hx)]
      · rw [if_neg (Ne.symm hx)]; simp [hx]
  unfold storeFill
  split
  · rename_i hb; subst hb; simp [storeRead]
  · rw [gen]; simp

end Sys2Proof.Machine
end

