-- ==== Sys2Proof/WellFormed.lean ====
section
/-! DEFINITION. Which commands the environment can bring: the limits that the spec sets on a command's operands. `exec` gives
every command a meaning; a command that is not well formed is one that no environment of the part can send. -/

namespace Sys2Proof

/-- R205: a payload of 0..1024 bytes. -/
def payloadOk (payload : List Byte) : Bool := decide (payload.length ≤ Config.maxPayload)

/-- R66, R68: pages 0..2047, none twice. -/
def pagesOk (pages : List Nat) : Bool := pages.all (fun p => decide (p < Config.pageCount)) && decide pages.Nodup

/-- R178: areas, none twice. -/
def areasOk (areas : List FlashArea) : Bool := decide areas.Nodup

/-- The limits on the operands of a command. -/
def Instr.wf (i : Instr) : Bool :=
  match i with
  | .powerOnReset => true
  | .startUp failing unanswered => pagesOk failing && areasOk unanswered
  | .send _ => true
  | .fetch _ => true
  | .invalidOpener mosi => mosi.head?.any (fun opener => decide (opener ≠ 1 ∧ opener ≠ 2))
  | .unknownType type _ payload => !Machine.isRequestCode type && payloadOk payload
  | .status _ p => payloadOk p
  | .ackConditions _ p => payloadOk p
  | .routeSet _ p => payloadOk p
  | .reset _ p => payloadOk p
  | .setFields _ p => payloadOk p
  | .getFields _ p => payloadOk p
  | .defaultSetup _ p => payloadOk p
  | .viewFallback => true
  | .memoryCorrection => true
  | .run _ p => payloadOk p
  | .stop _ p => payloadOk p
  | .single _ p => payloadOk p
  | .force _ p => payloadOk p
  | .calibrate _ p => payloadOk p
  | .clearProtect _ p => payloadOk p
  | .counterRead _ p => payloadOk p
  | .saveRef _ p => payloadOk p
  | .clearRef _ p => payloadOk p
  | .segmentList _ p => payloadOk p
  | .pageQuery _ p => payloadOk p
  | .peek _ p => payloadOk p
  | .clearPersist _ p => payloadOk p
  | .cursorRead _ p => payloadOk p
  | .ovFill _ p => payloadOk p
  | .ovText _ p => payloadOk p
  | .ovClear _ p => payloadOk p
  | .ovShow _ p => payloadOk p
  | .glyphLoad _ p => payloadOk p
  | .paletteSet _ p => payloadOk p
  | .keyBind _ p => payloadOk p
  | .encBind _ p => payloadOk p
  | .ledSet _ p => payloadOk p
  | .panelLock _ p => payloadOk p
  | .panelBlank _ p => payloadOk p
  | .beep _ p => payloadOk p
  | .storeSave _ p => payloadOk p
  | .storeRecall _ p => payloadOk p
  | .storeErase _ p => payloadOk p
  | .storeProtect _ p => payloadOk p
  | .storeList _ p => payloadOk p
  | .storePowerOn _ p => payloadOk p
  | .calSave _ p => payloadOk p
  | .xferStart _ p => payloadOk p
  | .xferAbort _ p => payloadOk p
  | .trip _ => true
  | .overloadSenseInactive _ => true
  | .clockLoss => true
  | .clockLockReturn => true
  | .settleTimerExpiry => true
  | .calStep sum => decide (sum ≤ 65280)
  | .sampleCode _ _ _ _ _ => true
  | .holdoffEnd => true
  | .autoWaitExpiry => true
  | .triggerPulseEnd => true
  | .triggeredIndicationEnd => true
  | .gateEnd => true
  | .auxSquareWaveToggle => true
  | .copyEnd => true
  | .renderPassEnd => true
  | .decayExpiry => true
  | .frameStart => true
  | .backlightPeriodStart => true
  | .rowSlot _ => true
  | .holdDeadline _ => true
  | .encoderSample _ _ => true
  | .panelReportOffer => true
  | .blinkToggle => true
  | .beeperEnd => true
  | .eraseStepEnd => true
  | .programStepEnd => true
  | .verifyStepEnd _ => true
  | .readStepEnd => true
  | .stepTimeout => true
  | .autosaveExpiry => true
  | .chunkReadEnd => true
  | .data => true
  | .xferEnd => true
  | .overloadSenseActive _ => true

end Sys2Proof
end

