-- ==== Sys2Proof/Tests/Slice0.lean ====
section
/-! SUPPORT. The model's own tests: the refusals of WellFormed, the tables of the spec, the worked sequences of the spec step by
step, and for every statement with hypotheses a state that meets them. Expected values come from the spec's text. -/

open Sys2Proof Sys2Proof.Machine

namespace Sys2Proof.Tests

set_option Elab.async false

/-! ### States to test on -/

/-- A part that is up, with every block as a reset leaves it. -/
def idle : State := { State.reset with lnk := { State.reset.lnk with startUp := false, heldInReset := false } }

/-- A frame stands at the head of the inbound queue. -/
def offered (type tag : Byte) (payload : List Byte) (s : State) : State :=
  { s with lnk := { s.lnk with inbound := [⟨type, tag, payload⟩] } }

/-- The state that a command answers with. -/
def after (c : Instr) (s : State) : State :=
  match exec c s with
  | .next t => t
  | .fault _ => s
  | .refused _ => s

/-- The state that a request leaves, taken from the head of the inbound queue. -/
def asked (type : Byte) (make : Byte → List Byte → Instr) (payload : List Byte) (s : State) : State :=
  after (make 7 payload) (offered type 7 payload s)

/-- The statuses of the replies in the outbound queue. -/
def statuses (s : State) : List Status :=
  s.lnk.outbound.filterMap (fun r => match r with | .reply x => some x.status | .report _ => none)

/-- A state whose setup differs from the defaults. -/
def withFields (ws : List (Nat × Int)) (s : State) : State := { s with setup := s.setup.setAll ws }

/-- ACQ in a state, with a capture context. -/
def withAcq (st : AcqState) (ctx : Option Capture) (s : State) : State := { s with acq := { s.acq with state := st, ctx := ctx } }

/-- A COMPLETE record of N = 1024 on CH1, stored in page 5, with P = 512 and origin 100. -/
def record : SegRec :=
  ⟨412, .complete, 1024, 0, 512, 100, 1, #v[true, false, false, false], .replicate 4 9, #v[[5], [], [], []], 0, false,
   .replicate 4 false, ⟨false, false, false, false⟩⟩

/-- The same record while it fills. -/
def filling : SegRec := { record with state := .filling }

/-- The capture context of `filling` after `post` post-trigger writes. -/
def capture (post : Nat) : Capture :=
  ⟨412, #v[true, false, false, false], 1024, 1, 512, 0, 612, post, some 0, false, .replicate 4 []⟩

/-- The segment table holds one record. -/
def withRecord (r : SegRec) (s : State) : State := { s with mem := { s.mem with table := [r] } }

/-- A reference slot. -/
def withRef (n : Fin 4) (x : RefSlot) (s : State) : State := { s with mem := { s.mem with refs := s.mem.refs.set n x } }

/-- The outbound queue holds `n` replies. -/
def crowded (n : Nat) (s : State) : State :=
  { s with lnk := { s.lnk with outbound := List.replicate n (.reply ⟨0, 0x10, .ok, .empty⟩) } }

/-- R208: a frame at the head of the inbound queue can be taken while the part is up and at least 2 entries are free. -/
theorem canTake_offered (type tag : Byte) (payload : List Byte) (s : State) (up : s.lnk.startUp = false)
    (room : 2 ≤ freeCount s) : CanTake type tag payload (offered type tag payload s) := ⟨rfl, up, room⟩

/-- The same on the idle part, for every request. -/
theorem canTake_idle (type tag : Byte) (payload : List Byte) : CanTake type tag payload (offered type tag payload idle) :=
  canTake_offered type tag payload idle rfl (by decide)

/-! ### WellFormed: each check refuses an ill-formed command -/

theorem test_wf_payload : (Instr.status 0 (List.replicate 1025 0)).wf = false ∧ (Instr.status 0 (List.replicate 1024 0)).wf = true := by
  decide +kernel
theorem test_wf_pages : (Instr.startUp [2048] []).wf = false ∧ (Instr.startUp [3, 3] []).wf = false ∧
    (Instr.startUp [2047, 3] []).wf = true := by decide
theorem test_wf_areas : (Instr.startUp [] [.headerA, .headerA]).wf = false ∧ (Instr.startUp [] [.headerA, .headerB]).wf = true := by
  decide
theorem test_wf_opener : (Instr.invalidOpener [1]).wf = false ∧ (Instr.invalidOpener [2]).wf = false ∧
    (Instr.invalidOpener []).wf = false ∧ (Instr.invalidOpener [3, 1]).wf = true := by decide
theorem test_wf_cal_sum : (Instr.calStep 65281).wf = false ∧ (Instr.calStep 65280).wf = true := by decide
theorem test_wf_type : (Instr.unknownType 0x10 0 []).wf = false ∧ (Instr.unknownType 0x14 0 []).wf = true := by decide
/-- spec/opcode_table.json gives no row any bits. -/
theorem test_no_word_spells_a_command : decodeTableWord 0 0 = none ∧ (State.reset.withFetchWord 8 0x10).pending = [] := by decide

/-! ### Tables -/

/-- R2: 83 fields, in ascending id, each found at its place. -/
theorem test_field_table : fieldTable.length = 83 ∧ fieldIds.map fieldIndex? = (List.finRange 83).map some := by decide +kernel
/-- R2: ids between the tables are no field's. -/
theorem test_unknown_fields : [0, 15, 24, 80 - 1, 87, 95, 107, 111, 130, 143, 147, 159, 163, 255].all (fun i => !knownField i) = true := by
  decide +kernel
/-- R2's defaults: CH1 on, CH2 off, record_length 4 (N = 16,384), view_span 16,384. -/
theorem test_defaults : defaultSetup.get 16 = 1 ∧ defaultSetup.get 32 = 0 ∧ defaultSetup.n = 16384 ∧ defaultSetup.get 115 = 16384 ∧
    defaultSetup.get 162 = 1 := by decide +kernel
/-- Section 11.7: the 42 request codes. -/
theorem test_request_codes : requestCodes.length = 42 ∧ requestCodes.Nodup := by decide +kernel
/-- R205: over the nine ASCII bytes 1 to 9 the CRC is 0x29B1. -/
theorem test_crc : crc16 [0x31, 0x32, 0x33, 0x34, 0x35, 0x36, 0x37, 0x38, 0x39] = 0x29B1 := by decide +kernel
/-- R205: LEN counts TYPE, TAG and PAYLOAD, high byte first. -/
theorem test_frame_layout : (frameBytes 0x10 7 [1, 2]).take 6 = [0, 4, 0x10, 7, 1, 2] ∧ (frameBytes 0x10 7 [1, 2]).length = 8 := by
  decide +kernel

/-! ### The worked sequences of the spec -/

/-- Chapter 1, the SET_FIELDS with clamps, a refusal and coupled changes. -/
theorem test_set_fields_sequence :
    let s := withFields [(48, 1), (33, 11), (36, 1), (114, 1000), (115, 1750)] { idle with generation := 41 }
    let t := asked 0x20 .setFields ([4, 37] ++ beInt 8 1 ++ [35] ++ beInt 8 520 ++ [80] ++ beInt 8 3 ++ [113] ++ beInt 8 999) s
    t.lnk.outbound = [.reply ⟨7, 0x20, .ok, .setFields 42
      [⟨37, .applied, 1⟩, ⟨35, .clamped, 400⟩, ⟨80, .applied, 3⟩, ⟨113, .refused, 0⟩]
      [(33, 9), (36, 0), (114, 500), (115, 875)]⟩] := by decide +kernel
/-- Chapter 1, a detent on an OHM50 channel at scale index 9 changes nothing. -/
theorem test_detent_at_the_limit :
    let s := withFields [(21, 1), (17, 9)] { idle with generation := 43 }
    (takeRelativeEdit 17 true 1 s).setup = s.setup ∧ (takeRelativeEdit 17 true 1 s).generation = 43 := by decide +kernel
/-- Chapter 6, the rows of the worked drawing (fine 80) and its three further mappings. -/
theorem test_rows : rowOf 143 80 (-30) false = 193 ∧ rowOf 140 80 (-30) false = 200 ∧ rowOf 151 80 (-30) false = 173 ∧
    rowOf 149 80 (-30) false = 178 ∧ rowOf 127 80 0 false = 203 ∧ rowOf 140 80 (-30) true = 263 ∧
    (columnEntry 20 20 80 (-300) false).rlo = 399 ∧ (columnEntry 20 20 80 (-300) false).bottom = true := by decide +kernel
/-- Chapter 6, the columns of a window of 1750 samples from 1000 on. -/
theorem test_columns : columnFirst 1000 1750 8192 1 = 1002 ∧ columnLast 1000 1750 8192 1 = 1004 ∧ columnFirst 1000 1750 8192 699 = 2747 ∧
    columnLast 1000 1750 8192 699 = 2749 ∧ columnFirst 1000 350 8192 3 = 1001 := by decide +kernel
/-- Chapter 6, a column that lies wholly above the one before it, and the decays of a cell. -/
theorem test_span_and_decay :
    drawnSpan true (some (columnEntry 140 143 80 (-30) false)) (columnEntry 149 151 80 (-30) false) = (173, 193) ∧
    decayCell 64 32 = 24 ∧ decayCell 64 24 = 18 := by decide +kernel
/-- Chapter 10, the transfer that is clamped at the end of its record. -/
theorem test_transfer_is_clamped :
    let s := withRecord { record with n := 16384, set := #v[true, true, false, false] } { idle with xfr := { idle.xfr with counter := 6 } }
    let t := asked 0x78 .xferStart ([1] ++ beBytes 4 412 ++ [2] ++ beBytes 4 15000 ++ beBytes 4 2000) s
    t.lnk.outbound = [.reply ⟨7, 0x78, .accepted, .xferStart 7 412 1 15000 1384 16384⟩] ∧ (findSeg 412 t).map pinCount = some 1 := by
  decide +kernel
/-- Chapter 11, the crowded queue: STATUS waits at 1 free entry, and is taken at 2. -/
theorem test_status_waits :
    (asked 0x10 .status [] (crowded 63 idle)).lnk.outbound.length = 63 ∧
    (asked 0x10 .status [] (crowded 62 idle)).lnk.outbound.length = 63 := by decide +kernel
/-- Chapter 11, the crowded queue: a report with no room latches REPORT_LOSS with its type. -/
theorem test_report_loss :
    let t := offer (.refDone 1 false 88 0) (crowded 64 idle)
    t.lnk.outbound.length = 64 ∧ condEntry .reportLoss t = ⟨true, .none, .reportType 0x88⟩ := by decide +kernel
/-- Chapter 8, the panel locked and blanked: the first press wakes it, without a local action. The slot falls at the instant of an
encoder sample, and is run with it (R162). -/
theorem test_wake_press :
    let s := { idle with pnl := { idle.pnl with blanked := true, lock := .remote, keys := idle.pnl.keys.set 0 ⟨false, 2, none, false, none⟩ } }
    let t := after (.encoderSample 0 0) (after (.rowSlot 1) s)
    t.pnl.blanked = false ∧ t.acq.state = .stopped ∧ t.lnk.outbound = [.report (.key 0 .press .wake 0)] := by decide +kernel

/-! ### Single rules -/

/-- R31: the codes 0 and 255 are not corrected; others are kept within 1..254. -/
theorem test_correction : correctCode 200 (-3) = 197 ∧ correctCode 254 3 = 254 ∧ correctCode 2 (-5) = 1 ∧ correctCode 255 (-5) = 255 ∧
    correctCode 0 5 = 0 := by decide
/-- R35: sums of 256 codes. -/
theorem test_cal_values : calValue 32768 = 0 ∧ calValue 32895 = 0 ∧ calValue 32896 = -1 ∧ calValue 0 = 128 := by decide
/-- R29: the settle durations by what differs. -/
theorem test_settle_durations :
    let on : Drive := ⟨true, .div1, 3, .dc, .meg1, .full, false⟩
    settleDuration { on with power := false } on = 20000000 ∧ settleDuration on { on with power := false } = 0 ∧
    settleDuration on { on with term := .ohm50 } = 5000000 ∧ settleDuration on { on with gain := 4 } = 200000 ∧
    settleDuration on on = 0 := by decide
/-- R69: the ring turns below P, and positions stand above it. -/
theorem test_stored_position : storedPosition 512 100 0 = 100 ∧ storedPosition 512 100 500 = 88 ∧ storedPosition 512 100 512 = 512 := by
  decide
/-- R67, R72: the pages of one release join the pool in ascending order. -/
theorem test_release_order : (freePages [9, 2, 5] { idle with mem := { idle.mem with pool := [7] } }).mem.pool = [7, 2, 5, 9] := by decide
/-- R68, R218: the failing pages are BAD, the rest fill the pool, and READY is queued first. -/
theorem test_start_up :
    let t := after (.startUp [5, 2047] []) State.reset
    t.mem.bad = [5, 2047] ∧ t.mem.pool.length = 2046 ∧ t.mem.pool.take 6 = [0, 1, 2, 3, 4, 6] ∧
    t.lnk.outbound.map (fun r => match r with | .report x => reportCode x | .reply _ => 0) = [0x81, 0x82, 0x82] := by decide +kernel
/-- R180: the newest header, also across the wrap of the write count. -/
theorem test_newest_header :
    let h (c : Word32) : HeaderRecord := ⟨1, c, .last, .replicate 10 false⟩
    (newestHeader (some (h 7)) (some (h 8))).inB = true ∧ (newestHeader (some (h 1)) (some (h 4294967295))).inB = false := by
  decide +kernel
/-- R35, R36: the last step makes the staged table live. -/
theorem test_last_cal_step :
    let s := withAcq .calibrating none { idle with fec := { idle.fec with calStep := some 51, calCodes := 256, calSum := 32896 } }
    let t := after (.calStep 32896) s
    t.fec.tableValid = true ∧ t.fec.live[51] = -1 ∧ t.acq.state = .stopped := by decide +kernel
/-- R41, R42: a trip latches the channel at MEG1, and its latch outlasts the sense until CLEAR_PROTECT. -/
theorem test_trip :
    let s := withFields [(21, 1)] { idle with fec := { idle.fec with drive := idle.fec.drive.set 0 { driveReset with term := .ohm50 } } }
    let t := after (.trip 0) s
    t.fec.latch[0] = true ∧ t.fec.drive[0].term = .meg1 ∧ statuses (asked 0x35 .clearProtect [1] t) = [.stillActive] ∧
    (asked 0x35 .clearProtect [1] (after (.overloadSenseInactive 0) t)).fec.drive[0].term = .ohm50 := by decide +kernel
/-- R105, R106: the 512th post-trigger code completes the record of N = 1024 with P = 512; origin 612 mod 512. -/
theorem test_completion :
    let s := withAcq .postFill (some (capture 511)) (withRecord filling { idle with acq := { idle.acq with singlePending := true } })
    let t := after (.sampleCode 200 0 0 0 false) s
    t.acq.state = .stopped ∧ (findSeg 412 t).map (·.origin) = some 100 ∧ storeRead t.mem.dram (5 * 4096 + 1023) = 200 := by
  decide +kernel
/-- R83: a finished copy holds the samples in logical order. -/
theorem test_copy_end :
    let s := withRecord { record with n := 4, p := 2, origin := 1, pins := ⟨false, false, false, true⟩ }
      (withRef 0 ⟨.copying, none, [], false, false, some ⟨.move, ⟨0, 412, 4, 0, 9⟩, 1, [9]⟩⟩
        { idle with mem := { idle.mem with dram := [(5 * 4096, 10), (5 * 4096 + 1, 11), (5 * 4096 + 2, 12), (5 * 4096 + 3, 13)] } })
    let t := after .copyEnd s
    [0, 1, 2, 3].map (fun i => storeRead t.mem.dram (9 * 4096 + i)) = [11, 10, 12, 13] ∧ t.mem.refs[0].state = .valid := by decide +kernel
/-- R150, R142: a filled rectangle covers its pixels once it is shown. -/
theorem test_overlay_shows :
    let t := asked 0x55 .ovShow [] (asked 0x52 .ovFill (beInt 2 10 ++ beInt 2 10 ++ beBytes 2 4 ++ beBytes 2 4 ++ [1]) idle)
    let u := after .frameStart t
    storeRead t.cmp.shown (pixelAddr 11 11) = 0 ∧ storeRead u.cmp.shown (pixelAddr 11 11) = 1 ∧
    storeRead u.cmp.shown (pixelAddr 14 11) = 0 ∧ statuses u = [.ok, .ok] := by decide +kernel
/-- R151: a glyph row 0b10000001 writes its two outer pixels. -/
theorem test_text :
    let s := { idle with cmp := { idle.cmp with glyphs := [(glyphAddr 65 0, 0x81)] } }
    let t := asked 0x53 .ovText (beInt 2 0 ++ beInt 2 0 ++ [3, 0, 1, 65]) s
    (List.range 9).map (fun x => storeRead t.cmp.draw (pixelAddr x 0)) = [3, 0, 0, 0, 0, 0, 0, 3, 0] := by decide +kernel
/-- R165: four quarter steps clockwise are one detent up. -/
theorem test_detent :
    let s := { idle with pnl := { idle.pnl with encs := idle.pnl.encs.set 10 ⟨some (false, true), 3, none, 0, 0, 0⟩ } }
    (after (.encoderSample 0 0) s).setup.get 99 = 129 := by decide +kernel
/-- R159: the third disagreeing scan is accepted. -/
theorem test_debounce :
    let s := { idle with pnl := { idle.pnl with keys := idle.pnl.keys.set 20 ⟨false, 2, none, false, none⟩, row := 2 } }
    (after (.rowSlot 0x10) s).pnl.keys[20] = ⟨true, 0, some 800000000, false, some .forwarded⟩ := by decide +kernel
/-- R182, R184: a save goes through its steps, and the slot is VALID with save count 1. -/
theorem test_save :
    let t := after (.verifyStepEnd true) (after .programStepEnd (after .eraseStepEnd (asked 0x70 .storeSave [4, 2, 72, 73] idle)))
    t.sto.dir[4] = ⟨.valid, 1, [72, 73], 1⟩ ∧ t.sto.engine = none ∧ statuses t = [.accepted] := by decide +kernel
/-- R182: a timeout of the erase step falls 500 ms after the step began. -/
theorem test_timeout :
    let t := after .stepTimeout (asked 0x72 .storeErase [4] idle)
    t.now = 500000000 ∧ t.sto.dir[4].state = .damaged ∧ condEntry .storeFault t = ⟨true, .alert, .store .erase .noResponse⟩ := by
  decide +kernel
/-- R190: two seconds after a change the setup is saved to slot 0. -/
theorem test_autosave :
    let t := after .autosaveExpiry { idle with sto := { idle.sto with autosave := some 2000000000 } }
    t.now = 2000000000 ∧ (t.sto.engine.map (fun e => (jobOp e.job, jobArg e.job))) = some (.save, .slot 0) := by decide +kernel
/-- R93, R98: RUN arms; with the timer IDLE and no pages the allocation is pending and ACQ is STARVED. -/
theorem test_run_starves :
    let t := asked 0x30 .run [] idle
    t.acq.state = .starved ∧ condEntry .starved t = ⟨true, .none, .pages 4⟩ ∧ statuses t = [.ok] := by decide +kernel
/-- R217: a soft reset keeps the flash and sample memory and returns the setup to its defaults. -/
theorem test_soft_reset :
    let t := asked 0x13 .reset [] (withFields [(99, 1)] { idle with mem := { idle.mem with dram := [(1, 2)], bad := [3] } })
    t.setup.get 99 = 128 ∧ t.mem.dram = [(1, 2)] ∧ t.mem.bad = [3] ∧ t.lnk.outbound = [] ∧ t.lnk.startUp = true := by decide +kernel

/-- R35: in CALIBRATING a code of the step's channel joins the sum; CH2's code in step 13. -/
theorem test_cal_sum :
    let s := withAcq .calibrating none { idle with fec := { idle.fec with calStep := some 13, calSum := 1000, calCodes := 7 } }
    let t := after (.sampleCode 1 200 3 4 false) s
    t.fec.calSum = 1200 ∧ t.fec.calCodes = 8 := by decide +kernel
/-- R190: a store request that stands at the head of the inbound queue is accepted, and the pending autosave waits on; with none there
the autosave starts. -/
theorem test_autosave_waits :
    let s := { idle with sto := { idle.sto with autosavePending := true, engine := some ⟨.erase 3, .verify, 0⟩ } }
    let t := after (.storeRecall 7 [0]) (after (.verifyStepEnd true) (offered 0x71 7 [0] s))
    t.sto.engine = some ⟨.recall 0, .read, 0⟩ ∧ t.sto.autosavePending = true ∧
    (after (.verifyStepEnd true) s).sto.autosavePending = false := by decide +kernel
/-- R206, R218: a frame that arrives while start-up runs joins the inbound queue, and waits; one that arrives while the RESET input
is low is ignored. -/
theorem test_frame_during_start_up :
    (after (.send (frameBytes 0x10 7 [])) State.reset).lnk.inbound = [⟨0x10, 7, []⟩] ∧
    (after (.status 7 []) (after (.send (frameBytes 0x10 7 [])) State.reset)).lnk.inbound = [⟨0x10, 7, []⟩] ∧
    (after (.send (frameBytes 0x10 7 [])) (after .powerOnReset idle)).lnk.inbound = [] := by decide +kernel
/-- R162: a hold deadline at a row slot's instant stands between the row's presses, in ascending key code. -/
theorem test_events_in_key_order :
    let pressed : KeyState := ⟨false, 2, none, false, none⟩
    let due : KeyState := ⟨true, 0, some idle.pnl.rowNext, false, some .forwarded⟩
    let s := { idle with pnl := { idle.pnl with keys := ((idle.pnl.keys.set 0 pressed).set 7 pressed).set 3 due } }
    (after (.rowSlot 0x89) (crowded 61 s)).pnl.events.map (fun e => (e.key, e.kind)) = [(0, .press), (3, .hold), (7, .press)] := by
  decide +kernel
/-- R175: an LED that is on is driven for the first duty ticks of 256, and not at all at duty 0. -/
theorem test_led_duty :
    let lit (duty : Int) : State := after (.rowSlot 0) (withFields [(160, duty)] { idle with pnl := { idle.pnl with
      leds := idle.pnl.leds.set 2 .hostOn } })
    ledDriven 31 2 (lit 32) = true ∧ ledDriven 32 2 (lit 32) = false ∧ ledDriven 0 2 (lit 0) = false := by decide +kernel
/-- R80: a SAVE_REF that finds no page ends with NO_ROOM and gives its source's COPY pin back. -/
theorem test_save_ref_without_pages :
    let t := asked 0x40 .saveRef [1, 0, 1] (withRecord { record with pins := ⟨true, false, false, false⟩ } idle)
    t.lnk.outbound = [.reply ⟨7, 0x40, .accepted, .saveRef 412 1⟩, .report (.refDone 0 true 412 0)] ∧
    (findSeg 412 t).map pinCount = some 1 ∧ t.mem.refs[0].state = .empty := by decide +kernel

/-- R162: the TURN of encoder 2 (code 53) and the PRESS of key 55 fall at one instant of a blanked panel: the turn comes first and
wakes it, whichever of the slot and the sample comes first. -/
theorem test_turn_in_key_order :
    let s := crowded 61 { idle with pnl := { idle.pnl with
      row := 6, blanked := true, keys := idle.pnl.keys.set 55 ⟨false, 2, none, false, none⟩
      encs := idle.pnl.encs.set 1 ⟨some (false, true), 3, none, 0, 0, 0⟩ } }
    let made (t : State) := t.pnl.events.map (fun e => (e.key, e.kind, e.disposition))
    made (after (.encoderSample 0 0) (after (.rowSlot 0x80) s)) = [(53, .turn, .wake), (55, .press, .forwarded)] ∧
    made (after (.rowSlot 0x80) (after (.encoderSample 0 0) s)) = [(53, .turn, .wake), (55, .press, .forwarded)] := by decide +kernel
/-- R177: scanning and encoder sampling begin together, when start-up brings PNL up. -/
theorem test_scan_and_sampling_begin :
    let t := after (.startUp [] []) { State.reset with now := 777 }
    t.pnl.rowNext = 777 ∧ t.pnl.encNext = 777 := by decide +kernel
/-- R5: view_seq takes the seq of a COMPLETE segment, and no value outside 1..2^32 - 1. -/
theorem test_view_seq_check :
    checkValue 113 412 (withRecord record idle) = some 412 ∧ checkValue 113 413 (withRecord record idle) = none ∧
    checkValue 113 4294967296 (withRecord { record with seq := 4294967296 } idle) = none ∧
    checkValue 113 412 (withRecord filling idle) = none := by decide +kernel
/-- R10: CH1 was ON and stays; CH4, CH3 and CH2 go back first, CH4 first. -/
theorem test_off_order :
    let r := defaultSetup.setAll [(32, 1), (48, 1), (64, 1)]
    let t := fitMemory defaultSetup 2 r
    t.get 16 = 1 ∧ t.get 32 = 1 ∧ t.get 48 = 0 ∧ t.get 64 = 0 ∧ t.get 80 = 0 := by decide +kernel
/-! ### States that meet the hypotheses of the statements -/

/-- A slot record whose image is the defaults. -/
def slotOfDefaults (format : Nat) : SlotRecord := ⟨format, [65], 3, fieldIds.map defaultSetup.get⟩

/-- A part just reset whose flash holds two headers, the newer one in B across the wrap of the count, and the slots 0 and 1. -/
def programmed : State :=
  { State.reset with sto := { State.reset.sto with flash := { State.reset.sto.flash with
      headerA := some (headerBytes ⟨1, 4294967295, .last, .replicate 10 false⟩)
      headerB := some (headerBytes ⟨1, 1, .user 0, .replicate 10 true⟩)
      slots := (State.reset.sto.flash.slots.set 0 (some (slotBytes (slotOfDefaults 2)))).set 1 (some (slotBytes (slotOfDefaults 1)))
      calibration := some (calBytes (List.replicate 52 (-32))) } } }

/-- StepKeeps…: a part that is up, with a command waiting that sets no flag. -/
def waiting (s : State) : State := { s with pending := [.overloadSenseInactive 3] }

/-- RESET with and without a payload; the part held in power-on reset while bytes arrive. -/
theorem witness_ResetsLeaveTheTables :
    CanTake 0x13 7 [] (offered 0x13 7 [] idle) ∧ CanTake 0x13 7 [1] (offered 0x13 7 [1] idle) ∧
    (after .powerOnReset idle).lnk.heldInReset = true ∧
    Instr.send [1] ∈ [Instr.send [1], .fetch .select, .invalidOpener [1]] :=
  ⟨canTake_idle _ _ _, canTake_idle _ _ _, rfl, by decide⟩

/-- R217: the condition table of a reset, entry by entry. -/
theorem conds (c : Condition) : condsReset[condCode c] = ⟨false, defaultRoute (condCode c).val, .absent⟩ := by
  unfold condsReset
  simp

set_option maxRecDepth 20000 in
/-- The part just reset; the same after a soft reset, with a BAD page and the lock indication lost; and with a programmed flash: a
header that is newer than the other, a slot of format 1 and one of another, and a calibration table. -/
theorem witness_StartUpQueuesReady :
    ResetValues State.reset ∧ State.reset.lnk.heldInReset = false ∧ State.reset.lnk.resetCause = .power ∧
    State.reset.fec.lockPin = true ∧ readHeader (areaOf .headerA State.reset.sto.flash) = none ∧
    (let s := softReset { idle with mem := { idle.mem with bad := [3] }, fec := { idle.fec with lockPin := false } }
     ResetValues s ∧ s.lnk.heldInReset = false ∧ s.lnk.resetCause = .soft ∧ s.mem.bad = [3] ∧ s.fec.lockPin = false) ∧
    ResetValues programmed ∧ programmed.lnk.heldInReset = false ∧
    readHeader (areaOf .headerA programmed.sto.flash) = some ⟨1, 4294967295, .last, .replicate 10 false⟩ ∧
    readHeader (areaOf .headerB programmed.sto.flash) = some ⟨1, 1, .user 0, .replicate 10 true⟩ ∧
    (1 : Word32) = countAfter 4294967295 ∧ (4294967295 : Word32) ≠ countAfter 1 ∧
    readSlot programmed.sto.flash.slots[1] = (.valid, some (slotOfDefaults 1)) ∧ (slotOfDefaults 1).format = 1 ∧
    readSlot programmed.sto.flash.slots[0] = (.valid, some (slotOfDefaults 2)) ∧ (slotOfDefaults 2).format ≠ 1 ∧
    readCal programmed.sto.flash.calibration = (.valid, some (List.replicate 52 (-32))) := by
  refine ⟨⟨?_, ?_, ?_, ?_, ?_, ?_, ?_, ?_, ?_, ?_, rfl, rfl, rfl, rfl, conds⟩, rfl, rfl, rfl, rfl,
    ⟨⟨?_, ?_, ?_, ?_, ?_, ?_, ?_, ?_, ?_, ?_, rfl, rfl, rfl, rfl, conds⟩, rfl, rfl, rfl, rfl⟩,
    ⟨?_, ?_, ?_, ?_, ?_, ?_, ?_, ?_, ?_, ?_, rfl, rfl, rfl, rfl, conds⟩, rfl, ?_, ?_, ?_, ?_, ?_, ?_, ?_, ?_, ?_⟩
  all_goals decide +kernel

theorem witness_SentFrameJoinsTheInboundQueue :
    (List.replicate 1024 (0 : Byte)).length ≤ 1024 ∧ idle.lnk.heldInReset = false ∧ idle.lnk.inbound.length < 3 ∧
    (∀ k ∈ [2, 3, 4], ({ idle.lnk with inbound := List.replicate k ⟨0x10, 0, []⟩ } : Lnk).inbound.length = k) := by
  refine ⟨(List.length_replicate).le, rfl, by decide, by decide⟩

/-- Each cause of R207 at the edges of its row: LEN 1 and 1027; one byte, and one byte too few; one byte too many; a wrong CRC. -/
theorem witness_BadTransactionsLatchLinkError :
    idle.lnk.heldInReset = false ∧ (3 : Byte) ≠ 1 ∧ (3 : Byte) ≠ 2 ∧
    (ofBe (([0, 1] : List Byte).take 2) < 2) ∧ (1026 < ofBe (([4, 3] : List Byte).take 2)) ∧
    (([0] : List Byte).length < 2) ∧ (([0, 2, 0x10, 0, 0] : List Byte).length < ofBe (([0, 2, 0x10, 0, 0] : List Byte).take 2) + 4) ∧
    (ofBe (([0, 2, 0x10, 0, 0, 0, 0] : List Byte).take 2) + 4 < ([0, 2, 0x10, 0, 0, 0, 0] : List Byte).length) ∧
    (crcBytes ([0, 2, 0x10, 0] : List Byte) ≠ [0, 0]) := by decide +kernel

theorem witness_FetchTakesTheHeadRecord :
    idle.lnk.heldInReset = false ∧ idle.lnk.outbound = [] ∧
    (crowded 2 idle).lnk.outbound = .reply ⟨0, 0x10, .ok, .empty⟩ :: [.reply ⟨0, 0x10, .ok, .empty⟩] ∧
    (recordFrame (.reply ⟨0, 0x10, .ok, .empty⟩)).length = 8 ∧
    ({ idle with lnk := { idle.lnk with txn := some ⟨[0, 2], 1, true, true⟩ } } : State).lnk.txn = some ⟨[0, 2], 1, true, true⟩ := by
  decide +kernel

theorem witness_MalformedRequestsAreRefused :
    isRequestCode 0x14 = false ∧ isRequestCode 0xFF = false ∧ CanTake 0x14 7 [] (offered 0x14 7 [] idle) ∧
    ([0] : List Byte) ≠ [] ∧ (∀ type, CanTake type 7 [0] (offered type 7 [0] idle)) ∧ idle.cmp.showPending = false ∧
    idle.sto.autosavePending = false :=
  ⟨by decide, by decide, canTake_idle _ _ _, by decide, fun _ => canTake_idle _ _ _, rfl, rfl⟩

/-- STATUS with exactly two free entries. -/
theorem witness_StatusShowsTheConditionTable : CanTake 0x10 7 [] (offered 0x10 7 [] (crowded 62 idle)) :=
  canTake_offered _ _ _ _ rfl (by decide)

theorem witness_AckClearsInactiveConditions :
    (CanTake 0x11 7 [0] (offered 0x11 7 [0] idle) ∧ CanTake 0x11 7 [1, 14] (offered 0x11 7 [1, 14] idle) ∧ 13 < (14 : Byte).toNat) ∧
    (1 ≤ [Condition.linkError].length ∧ CanTake 0x11 7 [1, 5] (offered 0x11 7 [1, 5] idle)) ∧
    (allConditions.length = 14 ∧ CanTake 0x11 7 (14 :: allConditions.map (fun c => BitVec.ofNat 8 (condCode c).val))
      (offered 0x11 7 (14 :: allConditions.map (fun c => BitVec.ofNat 8 (condCode c).val)) idle)) :=
  ⟨⟨canTake_idle _ _ _, canTake_idle _ _ _, by decide⟩, ⟨by decide, canTake_idle _ _ _⟩, rfl, canTake_idle _ _ _⟩

theorem witness_RouteSetReplacesOneRoute :
    CanTake 0x12 7 [13, 1] (offered 0x12 7 [13, 1] idle) ∧ CanTake 0x12 7 [14, 1] (offered 0x12 7 [14, 1] idle) ∧
    13 < (14 : Byte).toNat ∧ 1 < (2 : Byte).toNat := ⟨canTake_idle _ _ _, canTake_idle _ _ _, by decide, by decide⟩

theorem witness_GetFieldsReadsTheRecord :
    CanTake 0x21 7 [0] (offered 0x21 7 [0] idle) ∧ CanTake 0x21 7 [2, 16, 15] (offered 0x21 7 [2, 16, 15] idle) ∧
    fieldIds.length = 83 ∧ (∀ i ∈ fieldIds, i < 256) := ⟨canTake_idle _ _ _, canTake_idle _ _ _, by decide, by decide⟩

/-- SEGMENT_LIST on two records from 0, from each, from between and from beyond; pages, samples and channels at the ends of their
ranges and one past them; a reference slot that holds a record, and an empty one. -/
theorem witness_QueriesAnswerAndChangeNothing :
    (∀ type p, CanTake type 7 p (offered type 7 p (withRecord record idle))) ∧
    (let first := { record with seq := 5 }
     let s := { idle with mem := { idle.mem with table := [first, record] } }
     (∀ type p, CanTake type 7 p (offered type 7 p s)) ∧ s.mem.table = [] ++ [first, record] ∧ s.mem.table = [first] ++ [record] ∧
     s.mem.table = [first, record] ++ [] ∧ (∀ r ∈ [first], r.seq ≠ 412) ∧ ([record] : List SegRec).head?.map (·.seq) = some 412 ∧
     (∀ r ∈ s.mem.table, r.seq ≠ 6) ∧ (∀ r ∈ [first], r.seq < 6) ∧ 6 < record.seq ∧
     (∀ r ∈ [first, record], r.seq < 500) ∧ ([] : List SegRec).head? = none) ∧
    ¬ (1 ≤ (0 : Byte).toNat ∧ (0 : Byte).toNat ≤ 24) ∧ (24 : Byte).toNat ≤ 24 ∧ ¬ (25 : Byte).toNat ≤ 24 ∧
    2047 < 2048 ∧ 2048 < 65536 ∧ ¬ (5 : Byte).toNat ≤ 4 ∧
    findSeg 412 (withRecord record idle) = some record ∧ record.state = .complete ∧ record.set[0] = true ∧ record.set[3] = false ∧
    record.pages[0][(0 : Nat)]? = some 5 ∧ record.pages[0].length ≤ 1 ∧ 1023 < record.n ∧ ¬ 1024 < record.n ∧
    (let s := withRef 3 ⟨.valid, some ⟨0, 412, 1024, 0, 9⟩, [9], false, false, none⟩ idle
     s.mem.refs[3].contents = some ⟨0, 412, 1024, 0, 9⟩ ∧ s.mem.refs[3].pages[(0 : Nat)]? = some 9 ∧ s.mem.refs[3].pages.length ≤ 1 ∧
     s.mem.refs[0].contents = none) ∧
    CanTake 0x51 7 [] (offered 0x51 7 [] idle) ∧ CanTake 0x74 7 [] (offered 0x74 7 [] idle) := by
  refine ⟨fun _ p => canTake_offered _ _ p _ rfl (by decide), ⟨fun _ p => canTake_offered _ _ p _ rfl (by decide), ?_⟩, ?_, ?_, ?_, ?_, ?_,
    ?_, ?_, ?_, ?_, ?_, ?_, ?_, ?_, ?_, ?_, canTake_idle _ _ _, canTake_idle _ _ _⟩
  all_goals decide +kernel

/-- Lists of one pair and of 16; none; an empty one, one of 17, one with an id twice and one with an unknown id; a change of a TRIGGER
field alone in PRE_FILL, in STOPPED and, with an allocation pending, in STARVED; and a DEFAULT_SETUP that the allowance just holds. -/
theorem witness_HostChangeSetsWriteTheRecord :
    parsePairs [5] = none ∧ parsePairs ([1, 99] ++ beInt 8 7) = some [(99, 7)] ∧ parsePairs [0] = some [] ∧
    (16 < ((List.range 17).map (fun i => (fieldIds[i]?.getD 0, (0 : Int)))).length) ∧
    (((List.range 16).map (fun i => (fieldIds[i]?.getD 0, (0 : Int)))).map (·.1)).Nodup ∧
    ¬ (([(99, (0 : Int)), (99, 1)] : List (Nat × Int)).map (·.1)).Nodup ∧ 15 ∉ fieldIds ∧ 99 ∈ fieldIds ∧
    (∀ st ∈ [AcqState.preFill, .stopped, .starved],
      let q : CaptureRequest := ⟨#v[true, false, false, false], 1024, 1, 512, .replicate 4 9, 0⟩
      let s := withAcq st none { idle with mem := { idle.mem with pendingAlloc := if st = .starved then some q else none } }
      let t := asked 0x20 .setFields ([1, 99] ++ beInt 8 7) s
      (∀ f ∈ fieldTable, f.cls = .capture ∨ f.id = 96 → t.setup.get f.id = s.setup.get f.id) ∧
      (∃ f ∈ fieldTable, f.cls = .trigger ∧ t.setup.get f.id ≠ s.setup.get f.id) ∧
      (s.mem.pendingAlloc = none ∨ (s.acq.state = .starved ∧ t.setup.get 112 = s.setup.get 112 ∧
        t.setup.get 113 = s.setup.get 113)) ∧ s.trg.changeHeld = false ∧ t.trg.changeHeld = decide (st = .preFill) ∧
      t.trg.held.level = if st = .preFill then 128 else 7) ∧
    captureAllowance { idle with mem := { idle.mem with bad := List.range 2044 } } = 4 ∧
    (∀ type p, CanTake type 7 p (offered type 7 p idle)) ∧
    CanTake 0x22 7 [] (offered 0x22 7 [] { idle with mem := { idle.mem with bad := List.range 2044 } }) := by
  refine ⟨?_, ?_, ?_, ?_, ?_, ?_, ?_, ?_, ?_, ?_, fun _ _ => canTake_idle _ _ _, rfl, rfl, ?_⟩
  all_goals decide +kernel

/-- A copy that waits for the setup. -/
def waitingCopy : RefSlot := ⟨.copying, none, [], false, false, some ⟨.waitSetup, ⟨0, 412, 1024, 0, 9⟩, 1, []⟩⟩

theorem witness_DeviceChangeSetsCorrectTheRecord :
    (let s := withFields [(112, 1), (113, 412)] { idle with fallbacks := [412, 5] }
     s.lnk.startUp = false ∧ s.fallbacks = 412 :: [5] ∧ s.setup.get 112 = 1 ∧ (s.setup.get 113).toNat = 412) ∧
    (idle.setup.get 112 ≠ 1) ∧
    (let s := withRef 3 waitingCopy idle
     s.lnk.startUp = false ∧ copyingSlot s = some 3 ∧ s.mem.refs[3].copy = waitingCopy.copy ∧
     waitingCopy.copy.map (·.phase) = some .waitSetup) := by decide +kernel

/-- Four channels of the largest record: 100 pages hold record_length 6 and not 7; 3 pages hold none. -/
theorem witness_ResolutionFitsTerminationAndMemory :
    let r := defaultSetup.setAll [(16, 1), (32, 1), (48, 1), (64, 1), (80, 10), (21, 1), (20, 1), (17, 12)]
    let pages (i : Nat) : Nat := (1024 * 2 ^ i + 4095) / 4096
    15 ∉ fieldIds ∧ (16 : Nat) ∈ fieldIds ∧ (∀ m : Channel, 80 ≠ chField m 4 ∧ 80 ≠ chField m 1) ∧
    r.isOhm50 0 = true ∧ r.isOhm50 3 = false ∧ r.pagesNeeded = 1024 ∧
    (100 < r.pagesNeeded ∧ r.enabledCount * pages 6 ≤ 100 ∧ ∀ j ∈ [7, 8, 9, 10], 100 < r.enabledCount * pages j) ∧
    (3 < r.pagesNeeded ∧ ∀ i ∈ List.range 11, 3 < r.enabledCount * pages i) := by decide +kernel

/-- CH1 and CH4 with the relay at OHM50. -/
def fifty (s : State) : State :=
  { s with fec := { s.fec with drive := (s.fec.drive.set 0 { driveReset with term := .ohm50 }).set 3 { driveReset with term := .ohm50 } } }

theorem witness_OverloadTripsTheChannel :
    (fifty idle).lnk.startUp = false ∧ (fifty idle).fec.drive[0].term = .ohm50 ∧ (fifty idle).fec.drive[3].term = .ohm50 ∧
    acqRunning (withAcq .settling none (fifty idle)).acq.state = true ∧ acqRunning (fifty idle).acq.state = false ∧
    State.reset.lnk.startUp = true ∧ idle.fec.drive[3].term = .meg1 := by decide +kernel

theorem witness_ClearProtectReleasesTheLatch :
    (∀ (s : State) p, s.lnk = idle.lnk → CanTake 0x35 7 p (offered 0x35 7 p s)) ∧ idle.fec.latch[3] = false ∧
    (∀ p ∈ [([] : List Byte), [0], [5], [1, 0]], ∀ ch : Channel, p ≠ [BitVec.ofNat 8 (ch.val + 1)]) ∧
    (let s := { idle with fec := { idle.fec with latch := idle.fec.latch.set 3 true, sense := idle.fec.sense.set 3 true } }
     s.fec.latch[3] = true ∧ s.fec.sense[3] = true) ∧
    (let s := { idle with fec := { idle.fec with latch := idle.fec.latch.set 3 true, calStep := some 7 } }
     s.fec.latch[3] = true ∧ s.fec.sense[3] = false ∧ s.fec.calStep.isSome = true ∧ idle.fec.calStep = none) := by
  refine ⟨fun s p h => canTake_offered _ _ p s (by rw [h]; rfl) (by unfold freeCount; rw [h]; decide), by decide, by decide, by decide,
    by decide⟩

theorem witness_ClockLossStopsAcquisition :
    idle.lnk.startUp = false ∧ idle.fec.locked = true ∧ (idle.acq.state = .calibrating → idle.fec.calStep.isSome = true) ∧
    (let s := withAcq .calibrating none { idle with fec := { idle.fec with calStep := some 0 } }
     s.acq.state = .calibrating ∧ s.fec.calStep.isSome = true) ∧
    ({ idle with fec := { idle.fec with locked := false } } : State).fec.locked = false := by decide +kernel

theorem witness_CalibrateStartsFromStopped :
    CanTake 0x34 7 [] (offered 0x34 7 [] idle) ∧ idle.acq.state = .stopped ∧ idle.fec.locked = true ∧
    (withAcq .calibrating none idle).acq.state = .calibrating ∧ (withAcq .settling none idle).acq.state ≠ .stopped ∧
    ({ idle with fec := { idle.fec with locked := false } } : State).fec.locked = false :=
  ⟨canTake_idle _ _ _, rfl, rfl, rfl, by decide, rfl⟩

/-- A step before its 256 codes and at them; steps 0, 50 and 51; the sums at which the value is 40 and 41. -/
theorem witness_CalStepWritesOrFails :
    (∀ (k : Fin 52) (sum codes : Nat),
      let s := withAcq .calibrating none { idle with fec := { idle.fec with calStep := some k, calSum := sum, calCodes := codes } }
      s.lnk.startUp = false ∧ s.acq.state = .calibrating ∧ s.acq.ctx = none ∧ s.fec.calStep = some k ∧ s.fec.calSum = sum ∧
      s.fec.calCodes = codes ∧ s.fec.settle = none) ∧
    ((128 : Int) - ((22400 : Nat) + 128 : Int) / 256).natAbs = 40 ∧ ((128 : Int) - ((22144 : Nat) + 128 : Int) / 256).natAbs = 41 ∧
    (50 : Fin 52).val + 1 < 52 ∧ (51 : Fin 52).val = 51 := by
  refine ⟨fun _ _ _ => ⟨rfl, rfl, rfl, rfl, rfl, rfl, rfl⟩, by decide, by decide, by decide, by decide⟩

/-- The comparator in STOPPED on CH1 and on EXT, with and without a pending seed; a holdoff that runs while settings are taken. -/
theorem witness_SampleCodeDrivesTheComparator :
    (-32 : Int) ≤ -32 ∧ (31 : Int) ≤ 31 ∧
    idle.lnk.startUp = false ∧ idle.acq.state = .stopped ∧ idle.acq.ctx = none ∧ idle.trg.held.pulse = false ∧
    idle.trg.held.source = .channel 0 ∧ idle.trg.seedPending = false ∧
    ({ idle with trg := { idle.trg with held := { idle.trg.held with source := .ext }, seedPending := true } } : State).trg.held.source
      = .ext ∧
    ({ idle with trg := { idle.trg with seedPending := true, holdoff := some 3 } } : State).trg.seedPending = true ∧
    ({ idle with trg := { idle.trg with holdoff := some 3 } } : State).trg.holdoff = some 3 := by decide +kernel

/-- A positive pulse of the default level 128 and hysteresis 4, opened 1000 ns ago, closed by code 124; the same in STOPPED, on a
channel and on EXT. -/
theorem witness_ClosingTransitionJudgesThePulse :
    (let s := { idle with now := 1000, trg := { idle.trg with
       held := { idle.trg.held with pulse := true }, high := true, qualifier := some ⟨true, 0⟩ } }
     s.trg.held.pulse = true ∧ s.trg.held.source = .channel 0 ∧ s.trg.seedPending = false ∧ s.trg.qualifier = some ⟨true, 0⟩ ∧
     s.trg.high = true ∧ s.trg.held.slope ≠ .fall ∧ 124 ≤ lowerOf s.trg.held ∧ s.trg.held.pulseLimit = 1000) ∧
    ∀ source ∈ [TrigSource.channel 0, .ext],
      let s := { idle with trg := { idle.trg with held := { idle.trg.held with pulse := true, source := source } } }
      s.lnk.startUp = false ∧ s.acq.state = .stopped ∧ s.acq.ctx = none ∧ s.fec.calStep = none ∧ s.trg.held.pulse = true ∧
      s.trg.seedPending = false ∧ s.trg.held.source = source := by decide +kernel

theorem witness_TimersEndAtTheirDeadlines :
    idle.lnk.startUp = false ∧ idle.acq.state ≠ .settling ∧
    (let s := { idle with fec := { idle.fec with settle := some 5 },
                          trg := { idle.trg with holdoff := some 1, pulse := some 2, indication := some 3 },
                          pnl := { idle.pnl with beeper := some ⟨2000, 4, false⟩ } }
     s.fec.settle = some 5 ∧ s.trg.holdoff = some 1 ∧ s.trg.pulse = some 2 ∧ s.trg.indication = some 3 ∧
     s.pnl.beeper = some ⟨2000, 4, false⟩) := by decide +kernel

theorem witness_GateEndLatchesTheCount :
    idle.lnk.startUp = false ∧ CanTake 0x36 7 [] (offered 0x36 7 [] idle) ∧ idle.trg.result.valid = false ∧
    ({ idle with trg := { idle.trg with result := ⟨true, 9, true, false, false⟩ } } : State).trg.result.read = false :=
  ⟨rfl, canTake_idle _ _ _, rfl, rfl⟩

/-- FORCE in READY with P below N and with P = N, in PRE_FILL and elsewhere; an auto-wait deadline. -/
theorem witness_ForcedTriggersEnterPostFill :
    (∀ s : State, s.lnk = idle.lnk → CanTake 0x33 7 [] (offered 0x33 7 [] s)) ∧
    (capture 0).p + (capture 0).post < (capture 0).n ∧ (withAcq .ready (some (capture 0)) idle).acq.ctx = some (capture 0) ∧
    (withAcq .preFill none idle).acq.state = .preFill ∧ idle.acq.state ≠ .ready ∧ idle.acq.state ≠ .preFill ∧
    (let c : Capture := { capture 0 with p := 1024 }
     let s := withAcq .ready (some c) (withRecord filling { idle with acq := { idle.acq with singlePending := true, runStart := some 0 } })
     s.acq.ctx = some c ∧ findSeg c.seq s = some filling ∧ c.n ≤ c.p + c.post ∧ s.acq.singlePending = true ∧
     s.acq.runStart = some 0 ∧ s.mem.pendingAlloc = none) ∧
    (let s := withAcq .ready (some (capture 0)) { idle with trg := { idle.trg with autoWait := some 40000000 } }
     s.lnk.startUp = false ∧ s.trg.autoWait = some 40000000 ∧ s.acq.state = .ready) := by
  refine ⟨fun s h => canTake_offered _ _ _ s (by rw [h]; rfl) (by unfold freeCount; rw [h]; decide), ?_⟩
  decide +kernel

theorem witness_RunStartsFromStopped :
    CanTake 0x30 7 [] (offered 0x30 7 [] idle) ∧ CanTake 0x32 7 [] (offered 0x32 7 [] idle) ∧
    (withAcq .calibrating none idle).acq.state = .calibrating ∧ acqRunning (withAcq .postFill none idle).acq.state = true ∧
    idle.acq.state = .stopped ∧ idle.fec.locked = true ∧ idle.mem.pendingAlloc = none ∧
    ((withRecord record idle).mem.table.map (·.seq)).Nodup ∧
    ({ idle with fec := { idle.fec with locked := false } } : State).fec.locked = false :=
  ⟨canTake_idle _ _ _, canTake_idle _ _ _, rfl, rfl, rfl, rfl, rfl, by decide, rfl⟩

theorem witness_StopEndsTheRun :
    CanTake 0x31 7 [] (offered 0x31 7 [] idle) ∧ idle.acq.state = .stopped ∧
    (∀ st ∈ [AcqState.calibrating, .settling, .starved, .preFill, .ready, .postFill],
      (withAcq st none idle).acq.state ≠ .stopped) :=
  ⟨canTake_idle _ _ _, rfl, by decide⟩

/-- CH1 captured in page 5 with P = 512: POST_FILL at a group start and between two; PRE_FILL before the last ring write; READY with
the holdoff counter running, without an event and with P = 0; the last ring write, with and without a pending force. In READY, events
of type EDGE and PULSE, from CH1 and from EXT, rising and falling, with P below N and with P = N: SAMPLE_CODE with 128 and EXT high
rises, and with 124 and EXT low falls. -/
theorem witness_PostFillStoresEachGroup :
    (∀ st ∈ [AcqState.postFill, .preFill, .ready], ∀ c ∈ [capture 0, capture 510, { capture 0 with d := 2, phase := 1 },
        { capture 0 with ring := 510 }, { capture 0 with ring := 511 }, { capture 0 with p := 0 }],
      let s := withAcq st (some c) (withRecord filling { idle with acq := { idle.acq with forcePending := true } })
      s.lnk.startUp = false ∧ s.acq.state = st ∧ s.acq.ctx = some c ∧ findSeg c.seq s = some filling ∧ Store.wf s.mem.dram = true ∧
      s.acq.forcePending = true ∧ c.p + c.post < c.n) ∧
    (capture 0).p + (capture 510).post + 1 < (capture 510).n ∧ (capture 0).phase = 0 ∧
    ({ capture 0 with d := 2, phase := 1 } : Capture).phase ≠ 0 ∧ ({ capture 0 with ring := 510 } : Capture).ring + 1 < (capture 0).p ∧
    ({ capture 0 with ring := 511 } : Capture).ring + 1 = (capture 0).p ∧
    (withAcq .ready (some (capture 0)) { idle with trg := { idle.trg with holdoff := some 5 } }).trg.holdoff.isSome = true ∧
    (∀ n : Channel, n ≠ 0 → (capture 0).set[n] = false) ∧ (capture 0).set[0] = true ∧
    positionAddr filling.pages[0] 512 = some (5 * 4096 + 512) ∧
    (∀ source ∈ [TrigSource.channel 0, .ext], ∀ pulse high : Bool, ∀ p ∈ [512, 1024],
      let c : Capture := { capture 0 with p := p }
      let s := withAcq .ready (some c) (withRecord filling { idle with
        now := 2000, acq := { idle.acq with singlePending := true, runStart := some 0 },
        trg := { idle.trg with held := { idle.trg.held with source := source, pulse := pulse, slope := .either, greater := true }
                               high := high
                               qualifier := if pulse then some ⟨high, 0⟩ else none } })
      s.acq.state = .ready ∧ s.trg.holdoff = none ∧ s.trg.held.pulse = pulse ∧ s.trg.held.source = source ∧
      s.trg.seedPending = false ∧ s.trg.high = high ∧ upperOf s.trg.held ≤ (correctCode 128 (liveCal 0 s)).toNat ∧
      (correctCode 124 (liveCal 0 s)).toNat ≤ lowerOf s.trg.held ∧
      (pulse = true → s.trg.qualifier = some ⟨high, 0⟩ ∧ s.trg.held.pulseLimit < min (s.now - 0) 4294967295) ∧
      s.acq.singlePending = true ∧ s.acq.runStart = some 0 ∧ s.mem.pendingAlloc = none ∧ c.post = 0 ∧ c.n = 1024) := by
  decide +kernel

/-- The last write of a single run, of a run that has reached stop_after, and of a run that goes on, with the settle timer running and
with room for a new segment. -/
theorem witness_LastPostWriteCompletesTheSegment :
    (∀ single : Bool,
      let s := withFields [(84, 1)] (withAcq .postFill (some (capture 511)) (withRecord filling { idle with acq := { idle.acq with
        singlePending := single, runStart := some 0 } }))
      s.lnk.startUp = false ∧ s.acq.state = .postFill ∧ s.acq.ctx = some (capture 511) ∧ findSeg (capture 511).seq s = some filling ∧
      (capture 511).phase = 0 ∧ (capture 511).p + (capture 511).post + 1 = (capture 511).n ∧ s.acq.singlePending = single ∧
      s.acq.runStart = some 0 ∧ s.mem.pendingAlloc = none ∧ 0 < s.setup.get 84 ∧
      s.setup.get 84 ≤ (min (s.acq.runCount + 1) 4294967295 : Nat) ∧ 2 ≤ freeCount s ∧ s.lnk.outbound = []) ∧
    (∀ settle ∈ [some 5, none],
      let s := withAcq .postFill (some (capture 511)) (withRecord filling { idle with
        fec := { idle.fec with settle := settle }, mem := { idle.mem with pool := [1, 2, 3, 4] } })
      s.setup.get 84 = 0 ∧ s.acq.singlePending = false ∧ s.fec.settle = settle ∧ s.trg.changeHeld = false ∧
      s.setup.pagesNeeded ≤ s.mem.pool.length ∧ s.mem.table.length < 1024) := by
  decide +kernel

/-- The default setup needs 4 pages: the pool holds exactly 4, and the table 1023 records; the pool holds 3 and the oldest record one
more; the pool holds 3 and no record is to be reclaimed. A pending allocation, retried by CLEAR_REF with room and without. -/
theorem witness_SettledFrontEndAllocatesASegment :
    (let s := withAcq .settling none { idle with fec := { idle.fec with settle := some 5 },
                                                 mem := { idle.mem with pool := [7, 1, 9, 2], table := List.replicate 1023 record } }
     s.lnk.startUp = false ∧ s.fec.settle = some 5 ∧ s.acq.state = .settling ∧ s.setup.pagesNeeded = 4 ∧ s.mem.pool.length = 4 ∧
     s.mem.table.length < 1024 ∧ s.setup.p ≠ 0) ∧
    (let s := withAcq .settling none (withRecord record { idle with fec := { idle.fec with settle := some 5 },
                                                                    mem := { idle.mem with pool := [7, 1, 9] } })
     s.mem.table = [] ++ record :: [] ∧ record.state = .complete ∧ unpinned record = true ∧ s.mem.pool.length < s.setup.pagesNeeded ∧
     s.mem.table.length ≤ 1024 ∧ s.setup.pagesNeeded ≤ s.mem.pool.length + (segPages record).length) ∧
    (let s := withAcq .settling none { idle with fec := { idle.fec with settle := some 5 }, mem := { idle.mem with pool := [7, 1, 9] } }
     s.mem.pool.length < s.setup.pagesNeeded ∧ ∀ x ∈ s.mem.table, x.state = .complete → unpinned x = false) ∧
    (∀ n ∈ [1024, 1048576],
      let q : CaptureRequest := ⟨#v[true, false, false, false], n, 1, 512, .replicate 4 9, 0⟩
      let s := withAcq .starved none (withRef 3 ⟨.valid, some ⟨0, 412, 1024, 0, 9⟩, [9], false, false, none⟩ { idle with
        mem := { idle.mem with pendingAlloc := some q }
        rnd := { idle.rnd with pass := some ⟨.redraw, none, .replicate 4 none, defaultSetup⟩ } })
      s.acq.state = .starved ∧ s.mem.pendingAlloc = some q ∧ s.mem.refs[3].state = .valid ∧ s.mem.refs[3].pinRender = false ∧
      s.mem.refs[3].pinTransfer = false ∧ s.mem.refs[3].pages ≠ [] ∧ s.rnd.pass.isSome = true ∧ q.p ≠ 0 ∧
      (n = 1024 → (channels.filter (fun c => q.set[c])).length * pagesOf q.n ≤ (s.mem.pool ++ sortAsc s.mem.refs[3].pages).length) ∧
      (n = 1048576 → (s.mem.pool ++ sortAsc s.mem.refs[3].pages).length < (channels.filter (fun c => q.set[c])).length * pagesOf q.n) ∧
      s.mem.table.length < 1024 ∧ ∀ x ∈ s.mem.table, x.state = .complete → unpinned x = false) ∧
    (∀ s : State, s.lnk = idle.lnk → CanTake 0x41 7 [4] (offered 0x41 7 [4] s)) := by
  refine ⟨⟨rfl, rfl, rfl, by decide +kernel, rfl, ?_, by decide +kernel⟩, by decide +kernel, by decide +kernel, by decide +kernel,
    fun s h => canTake_offered _ _ _ s (by rw [h]; rfl) (by unfold freeCount; rw [h]; decide)⟩
  exact lt_of_eq_of_lt (List.length_replicate (n := 1023) (a := record)) (by decide)

/-- SAVE_REF: each refusal, the copy that waits for the setup, that takes its pages at once, and that ends with NO_ROOM; CLEAR_REF in
each state of the slot, pinned and not, with a pass running and without. -/
theorem witness_ReferenceSlotsAreFilledAndCleared :
    (∀ (s : State) type p, s.lnk = idle.lnk → CanTake type 7 p (offered type 7 p s)) ∧
    ¬ ((0 : Byte).toNat ≥ 1) ∧ ¬ ((5 : Byte).toNat ≤ 4) ∧ (4 : Byte).toNat = (3 : Fin 4).val + 1 ∧
    (let s := withRef 3 waitingCopy idle
     s.mem.refs[3].state = .copying ∧ s.mem.refs[0].state ≠ .copying) ∧
    (let s := withRef 0 ⟨.empty, none, [9], true, false, none⟩ idle
     (∀ m : Fin 4, s.mem.refs[m].state ≠ .copying) ∧ s.mem.refs[0].state = .empty ∧ s.mem.refs[0].pages ≠ []) ∧
    ((∀ r ∈ idle.mem.table, r.state ≠ .complete) ∧ ∀ r, findSeg 413 (withRecord record idle) = some r → r.state ≠ .complete) ∧
    (∀ pool ∈ [[7], []],
      let s := withRecord record { idle with mem := { idle.mem with pool := pool } }
      (∀ m : Fin 4, s.mem.refs[m].state ≠ .copying) ∧ (s.mem.refs[0].state = .empty → s.mem.refs[0].pages = []) ∧
      findSeg record.seq s = some record ∧ record.state = .complete ∧ s.mem.table = [] ++ record :: [] ∧ record.set[0] = true ∧
      record.set[1] = false ∧ ceilDiv record.n 4096 = 1 ∧ s.setup.pagesNeeded = 4 ∧ s.mem.bad.length = 0 ∧
      (channels.map (fun m : Channel => if m = 0 ∨ s.mem.refs[m].state = .empty then 0 else s.mem.refs[m].pages.length)).sum = 0 ∧
      s.mem.refs[0].pages.length = 0 ∧ s.mem.pendingAlloc = none ∧
      (∀ x ∈ s.mem.table, x.seq ≠ record.seq → x.state = .complete → unpinned x = false)) ∧
    (let s := withRef 0 ⟨.valid, some ⟨0, 412, 1024, 0, 9⟩, [9], false, false, none⟩ (withRecord record { idle with
        mem := { idle.mem with bad := List.range 2043 } })
     let s' : State := { s with mem := { s.mem with bad := List.range 2044 } }
     2048 - s.mem.bad.length = 5 ∧ ¬ 5 - 0 < 1 + s.setup.pagesNeeded ∧ 5 - (0 + (1 + 1)) < s.setup.pagesNeeded ∧
     2048 - s'.mem.bad.length - 0 < 1 + s'.setup.pagesNeeded) ∧
    idle.mem.refs[(0 : Fin 4)].state = .empty ∧
    (∀ pinned : Bool, ∀ pass ∈ [none, some ⟨.redraw, none, .replicate 4 none, defaultSetup⟩],
      let s := withRef 0 ⟨.valid, some ⟨0, 412, 1024, 0, 9⟩, [9], pinned, false, none⟩ { idle with rnd := { idle.rnd with pass := pass } }
      s.mem.refs[(0 : Fin 4)].state = .valid ∧ s.mem.pendingAlloc = none ∧ s.mem.refs[(0 : Fin 4)].pinRender = pinned ∧
      s.rnd.pass = pass) := by
  refine ⟨fun s _ p h => canTake_offered _ _ p s (by rw [h]; rfl) (by unfold freeCount; rw [h]; decide), ?_, ?_, ?_, ?_, ?_, ?_, ?_, ?_,
    ?_, ?_⟩
  case refine_6 => exact ⟨by decide, fun r h => by cases h⟩
  all_goals decide +kernel

/-- A copy of one page from page 5 to page 9. -/
def movingCopy : RefCopy := ⟨.move, ⟨0, 412, 1024, 0, 9⟩, 1, [9]⟩

/-- A copy of one page that moves, of an unpinned slot and of a pinned one; a copy that waits for the TRANSFER pin of its slot, with
the transfer ending. -/
theorem witness_CopyEndFillsTheSlot :
    (∀ pinned : Bool,
      let s := withRecord record (withRef 0 ⟨.copying, none, [], pinned, false, some movingCopy⟩ idle)
      s.lnk.startUp = false ∧ copyingSlot s = some 0 ∧ s.mem.refs[(0 : Fin 4)].copy = some movingCopy ∧ movingCopy.phase = .move ∧
      findSeg movingCopy.contents.seq s = some record ∧ Store.wf s.mem.dram = true ∧ movingCopy.pages.Nodup ∧
      movingCopy.contents.n ≤ 4096 * movingCopy.pages.length ∧
      (∀ p ∈ movingCopy.pages, p ∉ record.pages[movingCopy.contents.channel]) ∧ 1 ≤ freeCount s ∧ s.mem.pendingAlloc = none) ∧
    (let c : RefCopy := { movingCopy with phase := .waitUnpin }
     let x : XferContext := ⟨7, .reference 3, 1024, 0, 10, 0, 0, true, false⟩
     let s := withRef 3 ⟨.copying, some ⟨0, 400, 1024, 0, 9⟩, [8], false, true, some c⟩ { idle with xfr := ⟨.reading, 7, some x, none⟩ }
     s.lnk.startUp = false ∧ s.xfr.state = .reading ∧ s.xfr.ctx = some x ∧ x.source = .reference 3 ∧ x.abortPending = true ∧
     s.mem.refs[3].pinTransfer = true ∧ s.mem.refs[3].pinRender = false ∧ s.mem.refs[3].state = .copying ∧
     s.mem.refs[3].copy = some c ∧ c.phase = .waitUnpin ∧ s.mem.pendingAlloc = none ∧ s.rnd.pass = none) := by
  decide +kernel

/-- Windows of 700 samples, of the longest record, of 699, of 70 and of one; rows at the ends of the codes; entries above, below and
beside the one before. -/
theorem witness_CompressedColumnsCoverTheWindow :
    700 ≤ windowSpan 700 1024 ∧ 700 ≤ windowSpan 1048576 1048576 ∧ ¬ 700 ≤ windowSpan 699 1024 ∧ 1 ≤ windowSpan 70 1024 ∧
    1 ≤ windowSpan 1 1024 ∧ (0 : Nat) ≤ 255 ∧ (255 : Nat) ≤ 255 ∧
    (let a := columnEntry 140 143 80 (-30) false
     let b := columnEntry 149 151 80 (-30) false
     b.rhi < a.rlo ∧ a.rlo ≤ a.rhi ∧ b.rlo ≤ b.rhi ∧ a.rlo ≤ a.rhi) := by decide +kernel

/-- A running REDRAW pass that draws one record. -/
def redrawing : Pass := ⟨.redraw, some record, .replicate 4 none, defaultSetup⟩

/-- A running REDRAW pass that draws one record, and a running SEGMENT pass. -/
theorem witness_RedrawCommitsTheDrawnSpans :
    ∀ kind ∈ [PassKind.redraw, .segment],
      let p : Pass := { redrawing with kind := kind }
      let s := withRecord record { idle with rnd := { idle.rnd with pass := some p } }
      s.lnk.startUp = false ∧ s.rnd.pass = some p ∧ p.kind = kind ∧ s.rnd.decayPending = false ∧
      ∀ k : Trace, Store.wf s.rnd.work[k] = true := by decide +kernel

theorem witness_ClearPersistOwesARedraw :
    CanTake 0x50 7 [] (offered 0x50 7 [] idle) ∧ idle.rnd.pass = none ∧
    ({ idle with rnd := { idle.rnd with pass := some redrawing } } : State).rnd.pass.isSome = true :=
  ⟨canTake_idle _ _ _, rfl, rfl⟩

/-- A decay that is due while a pass runs, and while none does. -/
theorem witness_DecayLowersEveryCell :
    ∀ pass ∈ [none, some redrawing],
      let s := { idle with rnd := { idle.rnd with decay := some 5, work := idle.rnd.work.set 0 [(3, 200)], pass := pass } }
      s.lnk.startUp = false ∧ s.rnd.decay = some 5 ∧ s.rnd.pass = pass ∧
      (∀ k : Trace, Store.wf s.rnd.work[k] = true ∧ Store.wf s.rnd.shown[k] = true) := by decide +kernel

/-- A rectangle that is cut at the left edge; the colours 15 and 16. -/
theorem witness_FillAndClearWriteTheDrawBuffer :
    idle.cmp.showPending = false ∧ Store.wf idle.cmp.draw = true ∧ (∀ p, CanTake 0x52 7 p (offered 0x52 7 p idle)) ∧
    CanTake 0x54 7 [15] (offered 0x54 7 [15] idle) ∧ (-32768 : Int) ≤ -1 ∧ (15 : Byte).toNat ≤ 15 ∧ 15 < (16 : Byte).toNat :=
  ⟨rfl, rfl, fun p => canTake_idle _ _ p, canTake_idle _ _ _, by decide, by decide, by decide⟩

theorem witness_TextDrawsGlyphsFromTheTable :
    idle.cmp.showPending = false ∧ Store.wf idle.cmp.draw = true ∧ (∀ p, CanTake 0x53 7 p (offered 0x53 7 p idle)) ∧
    (List.replicate 64 127).length ≤ 64 ∧ (∀ c ∈ List.replicate 64 127, c ≤ 127) ∧ 64 < (List.replicate 65 127).length ∧
    (∃ c ∈ [128], 127 < c) :=
  ⟨rfl, rfl, fun p => canTake_idle _ _ p, by decide +kernel, by decide +kernel, by decide +kernel, by decide⟩

/-- GLYPH_LOAD of 8 glyphs up to code 127; palette entries 1, 15 and 0. -/
theorem witness_GlyphsAndPaletteAreReplaced :
    idle.cmp.showPending = false ∧ Store.wf idle.cmp.glyphs = true ∧ (∀ p, CanTake 0x56 7 p (offered 0x56 7 p idle)) ∧
    (120 : Byte).toNat + (8 : Byte).toNat - 1 ≤ 127 ∧ (List.replicate 128 (0 : Byte)).length = 16 * (8 : Byte).toNat ∧
    (∀ p, CanTake 0x57 7 p (offered 0x57 7 p idle)) :=
  ⟨rfl, rfl, fun p => canTake_idle _ _ p, by decide, by decide +kernel, fun p => canTake_idle _ _ p⟩

/-- An OV_SHOW pending with 7 and with 8 requests held; the same with a show among those held; one held fill; the corner pixels. -/
theorem witness_OverlayIsShownAtTheFrameStart :
    CanTake 0x55 7 [] (offered 0x55 7 [] idle) ∧ idle.cmp.showPending = false ∧ idle.cmp.hold = [] ∧ idle.lnk.startUp = false ∧
    (∀ k ∈ [0, 7, 8], ∀ p,
      let s := { idle with cmp := { idle.cmp with showPending := true, hold := List.replicate k ⟨.fill, 1, []⟩ } }
      s.cmp.showPending = true ∧ s.cmp.hold.length = k ∧ CanTake 0x52 7 p (offered 0x52 7 p s)) ∧
    (let first : List OverlayRequest := [⟨.fill, 1, []⟩, ⟨.present, 2, [0]⟩]
     let behind : List OverlayRequest := [⟨.present, 3, []⟩, ⟨.clear, 4, [0]⟩]
     let s := { idle with cmp := { idle.cmp with showPending := true, hold := first ++ behind } }
     s.lnk.startUp = false ∧ s.cmp.showPending = true ∧ s.cmp.hold = first ++ behind ∧
     (∀ q ∈ first, q.kind = .present → q.payload ≠ []) ∧ behind.head?.map (·.kind) = some .present ∧
     behind.head?.map (·.payload) = some []) ∧
    (let s := { idle with cmp := { idle.cmp with showPending := true, hold := [⟨.clear, 7, [3]⟩] },
                          lnk := { idle.lnk with reservations := 62 } }
     s.cmp.hold = [⟨.clear, 7, [3]⟩] ∧ s.lnk.reservations ≤ 62) ∧
    (let f : Frame := ⟨frameContext idle, none, [(0, 15)], idle.rnd.shown⟩
     (storeRead f.overlay (800 * 0 + 0)).toNat ≤ 15 ∧ (storeRead f.overlay (800 * 479 + 799)).toNat ≤ 15) := by
  refine ⟨canTake_idle _ _ _, rfl, rfl, rfl, fun k _ p => ⟨rfl, List.length_replicate, canTake_offered _ _ p _ rfl ?_⟩, ?_, ?_, ?_⟩
  · change 2 ≤ freeCount idle
    decide
  all_goals decide +kernel

/-- Each request with a payload of its forms at the ends of their ranges, and with payloads that are none of its forms. -/
theorem witness_PanelRequestsReplaceTheirEntry :
    (∀ type p, CanTake type 7 p (offered type 7 p idle)) ∧ (99 : Byte).toNat ∈ fieldIds ∧ (15 : Byte).toNat ∉ fieldIds ∧
    (11 : Byte).toNat < 12 ∧ ¬ (12 : Byte).toNat < 12 ∧ (65535 : Nat) < 65536 ∧
    (∀ k : Fin 64, BitVec.ofNat 8 k.val ≠ (64 : Byte)) ∧ ([] : List Byte).length ≠ 4 ∧
    ¬ (([11, 2, 0, 0, 1, 0] : List Byte).length = 6 ∧ ([11, 2, 0, 0, 1, 0] : List Byte)[1]? = some 1) ∧
    ¬ (([11, 1, 0, 0, 1, 0, 0] : List Byte).length = 7 ∧ ([11, 1, 0, 0, 1, 0, 0] : List Byte)[1]? = some 0) ∧
    (∀ b ∈ [([0] : List Byte), [1], [2]], b ≠ [3]) ∧ (∀ b ∈ [([0] : List Byte), [1]], b ≠ [2]) := by
  refine ⟨fun _ _ => canTake_idle _ _ _, ?_⟩
  decide +kernel

/-- A slot that waits, one that does not and one on a blanked panel at the instant of a sample. A key of row 0 after two disagreeing
scans, alone in its row and behind another, on a blanked panel, with no binding, under each lock, forwarded, and with each local
action; a turned encoder whose lines wait for the slot; a hold deadline at the slot's instant; ACQ in the states that RUN_STOP, SINGLE
and FORCE tell apart. -/
theorem witness_RowSlotDebouncesTheRow :
    (idle.lnk.startUp = false ∧ idle.pnl.contacts = none ∧ idle.pnl.encNext = idle.pnl.rowNext ∧ idle.pnl.blanked = false) ∧
    (let s := { idle with pnl := { idle.pnl with blanked := true } }
     let t := after (.rowSlot 3) s
     s.pnl.blanked = true ∧ t.pnl.contacts = some 3 ∧ t.pnl.rowNext = s.pnl.rowNext) ∧
    (let due : KeyState := ⟨true, 0, some idle.pnl.rowNext, false, some .forwarded⟩
     let s := { idle with pnl := { idle.pnl with keys := (idle.pnl.keys.set 7 ⟨false, 2, none, false, none⟩).set 9 due } }
     (7 : Fin 64).val / 8 = s.pnl.row.val ∧ (0x80 : Byte).getLsbD 7 ≠ s.pnl.keys[7].down ∧
     2 ≤ s.pnl.keys[7].disagree ∧ (8 : Fin 64).val / 8 ≠ s.pnl.row.val ∧ s.pnl.keys[9].hold = some s.pnl.rowNext ∧
     freeCount (crowded 61 s) < 4) ∧
    (∀ b ∈ [KeyBinding.none, .forward, .action .runStop, .action .single, .action .force, .action .clearPersist,
        .action (.channelToggle 3), .action (.fieldDefault 11), .action .localRelease, .action .defaultSetup],
      ∀ lock ∈ [PanelLock.unlocked, .remote, .lockout], ∀ blanked : Bool, ∀ first ∈ [(0 : Nat), 2],
        let s := { idle with pnl := { idle.pnl with
          keys := (idle.pnl.keys.set 7 ⟨false, 2, none, false, none⟩).set 3 ⟨false, first, none, false, none⟩
          bindings := idle.pnl.bindings.set 7 b, lock := lock, blanked := blanked } }
        s.pnl.lines = none ∧ s.pnl.keys[7].down = false ∧ 2 ≤ s.pnl.keys[7].disagree ∧ (0x88 : Byte).getLsbD 7 = true ∧
        s.pnl.bindings[7] = b ∧ s.pnl.lock = lock ∧ s.pnl.blanked = blanked ∧ s.fec.locked = true ∧
        s.pnl.keys[3].disagree = first ∧ (0x88 : Byte).getLsbD 3 = true ∧
        ∀ m : Fin 64, 7 < m → m.val / 8 ≠ s.pnl.row.val) ∧
    (let s := { idle with pnl := { idle.pnl with blanked := true, lines := some (0, 0), encs :=
        (idle.pnl.encs.set 1 ⟨some (false, true), 3, none, 0, 0, 0⟩).set 4 ⟨some (false, true), 3, none, 0, 0, 0⟩ } }
     s.pnl.lines = some (0, 0) ∧ s.pnl.blanked = true ∧
     s.pnl.encs[(1 : Fin 12)].last.map (fun _ => s.pnl.encs[(1 : Fin 12)].quarter + 1) = some 4 ∧ s.pnl.encs[(0 : Fin 12)].last = none ∧
     (∀ k : Fin 64, s.pnl.keys[k].disagree < 2 ∧ s.pnl.keys[k].hold ≠ some s.pnl.rowNext) ∧ s.pnl.events.length < 32) ∧
    idle.acq.state = .stopped ∧ (withAcq .calibrating none idle).acq.state = .calibrating ∧
    acqRunning (withAcq .settling none idle).acq.state = true ∧ (withAcq .preFill none idle).acq.state = .preFill ∧
    (withAcq .ready (some (capture 0)) idle).acq.ctx = some (capture 0) ∧ (capture 0).p + (capture 0).post < (capture 0).n := by
  decide +kernel

/-- A key held down whose deadline falls at the next row slot, alone, and together with a lower key's; 31 and 32 events waiting; 4
and 3 entries free. -/
theorem witness_HoldEventsAreQueuedAndReported :
    (∀ d ∈ [idle.pnl.rowNext, 800000001],
      let s := { idle with pnl := { idle.pnl with keys := idle.pnl.keys.set 63 ⟨true, 0, some d, false, some .forwarded⟩ } }
      s.lnk.startUp = false ∧ s.pnl.keys[63].hold = some d ∧ (∀ m : Fin 64, m < 63 → s.pnl.keys[m].hold ≠ some d) ∧
      s.pnl.keys[63].down = true ∧ s.pnl.keys[63].disposition = some .forwarded ∧ s.pnl.events = [] ∧
      (∀ e : Fin 12, s.pnl.encs[e].sum = 0) ∧ freeCount (crowded 60 s) = 4 ∧ freeCount (crowded 61 s) = 3) ∧
    800000001 ≠ idle.pnl.rowNext ∧
    (let due : KeyState := ⟨true, 0, some 800000001, false, some .forwarded⟩
     let s : State := { idle with pnl := { idle.pnl with keys := (idle.pnl.keys.set 63 due).set 3 due } }
     s.pnl.events.length + ((List.finRange 64).filter (fun m : Fin 64 => decide (m ≤ 63 ∧ s.pnl.keys[m].hold = some 800000001))).length ≤ 32 ∧
     s.pnl.keys[3].hold = some 800000001) ∧
    (List.replicate 31 (⟨0, .press, .forwarded, 0, 0⟩ : KeyEvent)).length < 32 ∧
    32 ≤ (List.replicate 32 (⟨0, .press, .forwarded, 0, 0⟩ : KeyEvent)).length := by decide +kernel

/-- A sample between the slots, at a slot's instant with the panel shown, blanked, and with the slot waiting, and one that follows
lines left waiting. An encoder sampled for the first time; one a quarter step before a detent, alone, on a blanked panel, under each
lock, without a target, with one, and forwarding with its record unsent and not. -/
theorem witness_EncoderSampleCountsQuarterSteps :
    (∀ (blanked : Bool) (contacts : Option Byte) (lines : Option (BitVec 12 × BitVec 12)) (at_ : Instant),
      let s := { idle with pnl := { idle.pnl with blanked := blanked, contacts := contacts, lines := lines, encNext := at_ } }
      s.lnk.startUp = false ∧ s.pnl.blanked = blanked ∧ s.pnl.contacts = contacts ∧ s.pnl.lines = lines ∧
      s.pnl.encNext = at_ ∧ s.pnl.rowNext = 0) ∧
    idle.pnl.encs[(11 : Fin 12)].last = none ∧
    (∀ blanked : Bool, ∀ lock ∈ [PanelLock.unlocked, .remote, .lockout],
      ∀ b ∈ [(⟨none, true, 1, false⟩ : EncBinding), ⟨some 99, true, 1000, true⟩, ⟨some 99, false, 5, true⟩],
        let s := { idle with pnl := { idle.pnl with encs := idle.pnl.encs.set 11 ⟨some (false, true), 3, none, 0, 0, 0⟩
                                                    encBindings := idle.pnl.encBindings.set 11 b, lock := lock, blanked := blanked } }
        s.pnl.encs[(11 : Fin 12)].last = some (false, true) ∧ s.pnl.encs[(11 : Fin 12)].quarter + 1 = 4 ∧
        (((false, true), ((0 : BitVec 12).getLsbD 11, (0 : BitVec 12).getLsbD 11)) : (Bool × Bool) × (Bool × Bool)) ∈
          [((false, false), (true, false)), ((true, false), (true, true)), ((true, true), (false, true)),
            ((false, true), (false, false))] ∧
        (∀ f : Fin 12, f ≠ 11 → s.pnl.encs[f].last = none) ∧ s.pnl.encBindings[(11 : Fin 12)] = b ∧ s.pnl.lock = lock ∧
        s.pnl.blanked = blanked ∧ s.pnl.events = [] ∧ (∀ f : Fin 12, s.pnl.encs[f].sum = 0) ∧ 4 ≤ freeCount s ∧
        freeCount (crowded 61 s) < 4) ∧
    (fieldTable.any (fun f => f.id == 99) = true) ∧
    ({ idle with lnk := { idle.lnk with outbound := [.report (.encoder 11 3 0)] } } : State).lnk.outbound =
      [] ++ .report (.encoder 11 3 0) :: [] ∧
    (14999999 < 15000000 ∧ ¬ 15000000 < 15000000 ∧ 39999999 < 40000000) := by
  refine ⟨fun _ _ _ _ => ⟨rfl, rfl, rfl, rfl, rfl, rfl⟩, ?_⟩
  decide +kernel

/-- The engine IDLE, BUSY, and IDLE with an autosave pending; arguments at the ends of their ranges and one past them; slots
protected and not; a table that is valid and one that is not. -/
theorem witness_StoreRequestsStartTheEngine :
    (∀ (s : State) type p, s.lnk = idle.lnk → CanTake type 7 p (offered type 7 p s)) ∧ idle.sto.engine = none ∧
    idle.sto.autosavePending = false ∧ ({ idle with sto := { idle.sto with autosavePending := true } } : State).sto.engine = none ∧
    (List.replicate 16 (126 : Byte)).length ≤ 16 ∧ (∀ c ∈ List.replicate 16 (126 : Byte), 32 ≤ c.toNat ∧ c.toNat ≤ 126) ∧
    ¬ (List.replicate 17 (126 : Byte)).length ≤ 16 ∧ ¬ (∀ c ∈ [(31 : Byte)], 32 ≤ c.toNat) ∧ ¬ (1 ≤ (0 : Byte).toNat) ∧
    (10 : Byte).toNat = (9 : Fin 10).val + 1 ∧ (10 : Byte).toNat = (10 : Fin 11).val ∧ 10 < (11 : Byte).toNat ∧ ¬ (2 : Byte).toNat ≤ 1 ∧
    idle.sto.header.protects[9] = false ∧ idle.sto.dir[(10 : Fin 11)].state ≠ .valid ∧
    (let s := { idle with sto := { idle.sto with dir := idle.sto.dir.set 10 ⟨.valid, 1, [], 4294967294⟩ } }
     s.sto.dir[(10 : Fin 11)].state = .valid ∧ s.sto.dir[(10 : Fin 11)].saveCount ≠ 4294967295#32) ∧
    ({ idle with sto := { idle.sto with engine := some ⟨.recall 0, .read, 0⟩ } } : State).sto.engine.isSome = true ∧
    ({ idle with sto := { idle.sto with header := { headerNone with protects := .replicate 10 true } } } : State).sto.header.protects[9]
      = true ∧
    idle.fec.tableValid = false ∧ ({ idle with fec := { idle.fec with tableValid := true } } : State).fec.tableValid = true := by
  refine ⟨fun s _ p h => canTake_offered _ _ p s (by rw [h]; rfl) (by unfold freeCount; rw [h]; decide), ?_⟩
  decide +kernel

/-- The engine BUSY with a job at a step. -/
def busyWith (j : StoreJob) (st : StoreStep) : State := { idle with sto := { idle.sto with engine := some ⟨j, st, 0⟩ } }

/-- The engine at each step of each job, with an autosave pending and not, and a store request waiting at the head of the inbound
queue, and none. -/
theorem witness_WriteProcedureRunsItsSteps :
    (∀ j st, (busyWith j st).lnk.startUp = false ∧ (busyWith j st).sto.engine = some ⟨j, st, 0⟩ ∧
      (busyWith j st).sto.autosavePending = false) ∧
    (∀ j st pending,
      let s : State := { busyWith j st with sto := { (busyWith j st).sto with autosavePending := pending } }
      s.lnk.startUp = false ∧ s.sto.engine = some ⟨j, st, 0⟩ ∧ s.sto.autosavePending = pending) ∧
    4 ≤ freeCount idle ∧ (offered 0x70 7 [] idle).lnk.inbound.head? = some ⟨0x70, 7, []⟩ ∧ idle.lnk.inbound.head? = none ∧
    (0x70 : Byte) ∈ [0x70#8, 0x71#8, 0x72#8, 0x73#8, 0x75#8, 0x76#8] ∧
    jobArea (.erase 10) idle.sto.header = .slot 10 ∧ jobArea (.powerOn ⟨1, 1, .last, .replicate 10 false⟩) idle.sto.header = .headerA ∧
    ({ idle with sto := { idle.sto with autosave := some 2000000000 } } : State).sto.autosave = some 2000000000 :=
  ⟨fun _ _ => ⟨rfl, rfl, rfl⟩, fun _ _ _ => ⟨rfl, rfl, rfl⟩, by decide, rfl, rfl, by decide, rfl, by decide, rfl⟩

set_option maxRecDepth 20000 in
/-- A recall of an erased slot, of bytes that do not check, of a record of another format and of one of format 1; with an autosave
pending and not; a timeout; and an autosave that is due with the engine IDLE. -/
theorem witness_RecallTakesTheImageAndTimeoutsFail :
    (∀ n : Fin 11, ∀ pending : Bool, ∀ bytes,
      let s : State := { busyWith (.recall n) .read with sto := { (busyWith (.recall n) .read).sto with
        autosavePending := pending, flash := { idle.sto.flash with slots := idle.sto.flash.slots.set n bytes } } }
      s.lnk.startUp = false ∧ s.sto.engine = some ⟨.recall n, .read, 0⟩ ∧ s.sto.autosavePending = pending ∧ 1 ≤ freeCount s ∧
      s.sto.flash.slots[n] = bytes) ∧
    (readSlot (some [1, 2, 3])).2 = none ∧
    readSlot (some (slotBytes (slotOfDefaults 1))) = (.valid, some (slotOfDefaults 1)) ∧ (slotOfDefaults 1).format = 1 ∧
    readSlot (some (slotBytes (slotOfDefaults 2))) = (.valid, some (slotOfDefaults 2)) ∧ (slotOfDefaults 2).format ≠ 1 ∧
    (jobOp (.protect 9 ⟨1, 1, .last, .replicate 10 false⟩) = .protect) ∧ idle.sto.engine = none ∧
    ({ idle with sto := { idle.sto with autosave := some 5 } } : State).sto.autosave = some 5 ∧ idle.lnk.inbound.head? = none := by
  refine ⟨fun n _ bytes => ⟨rfl, rfl, rfl, by change 1 ≤ freeCount idle; decide, ?_⟩, ?_, ?_, ?_, ?_, ?_, ?_, ?_, ?_, ?_⟩
  case refine_1 => exact Vector.getElem_set_self (hi := n.isLt)
  all_goals decide +kernel

theorem witness_FlashRecordsReadBack :
    (List.replicate 16 (65 : Byte)).length ≤ 16 ∧ (List.replicate 83 (-9223372036854775808 : Int)).length = 83 ∧
    (∀ v ∈ List.replicate 83 (9223372036854775807 : Int), -9223372036854775808 ≤ v ∧ v ≤ 9223372036854775807) ∧
    (List.replicate 52 (-32 : Int)).length = 52 ∧ (∀ v ∈ ([-32, 31] : List Int), -32 ≤ v ∧ v ≤ 31) := by decide +kernel

/-- Forms and ranges of XFER_START at their ends and one past them: numbers 0, 4 and 5, a count of 0, the last sample of a record and
the first past its end, of a segment and of a reference; and the engine in each of its states. -/
theorem witness_TransfersStartAndAbort :
    (∀ p, CanTake 0x78 7 p (offered 0x78 7 p (withRecord record idle))) ∧ (∀ p, CanTake 0x79 7 p (offered 0x79 7 p idle)) ∧
    ¬ 1 ≤ (0 : Byte).toNat ∧ (4 : Byte).toNat = (3 : Fin 4).val + 1 ∧ ¬ (5 : Byte).toNat ≤ 4 ∧ (4294967295 : Nat) < 4294967296 ∧
    findSeg 412 (withRecord record idle) = some record ∧ (withRecord record idle).mem.table = [] ++ record :: [] ∧
    record.state = .complete ∧ record.set[0] = true ∧ record.set[3] = false ∧ 1023 < record.n ∧ record.n ≤ 1024 ∧
    idle.xfr.state = .idle ∧ (∀ r ∈ idle.mem.table, r.state ≠ .complete) ∧ findSeg 413 (withRecord record idle) = none ∧
    (withRef 3 ⟨.valid, some ⟨0, 412, 1024, 0, 9⟩, [9], false, false, none⟩ idle).mem.refs[3].contents = some ⟨0, 412, 1024, 0, 9⟩ ∧
    idle.mem.refs[(3 : Fin 4)].contents = none ∧
    (∀ st, ({ idle with xfr := ⟨st, 7, some ⟨7, .segment 412 0, 1024, 0, 1024, 0, 0, false, false⟩, none⟩ } : State).xfr.state = st) ∧
    (let s := withRecord { record with state := .stale, pins := ⟨false, false, true, false⟩ } idle
     s.mem.pendingAlloc = none ∧ (findSeg 412 s).map (·.pins.transfer) = some true ∧ (s.mem.table.map (·.seq)).Nodup) ∧
    (∀ state ∈ [RefState.valid, .empty],
      let s := withRef 3 ⟨state, none, [9], false, true, none⟩ idle
      s.mem.refs[(3 : Fin 4)].pinTransfer = true ∧ s.mem.refs[(3 : Fin 4)].pinRender = false ∧ s.mem.refs[(3 : Fin 4)].state = state) := by
  refine ⟨fun p => canTake_offered _ _ p _ rfl (by decide), fun p => canTake_idle _ _ p, by decide, by decide, by decide, by decide,
    rfl, rfl, rfl, rfl, rfl, by decide, by decide, rfl, by decide, rfl, rfl, rfl, fun _ => rfl, by decide, by decide +kernel⟩

/-- A chunk that is not the last, one that is, and the free counts 8 and 7. -/
theorem witness_TransferSendsItsChunks :
    let c : XferContext := ⟨7, .segment 412 0, 1024, 0, 1024, 0, 0, false, false⟩
    let s (st : XferState) (c : XferContext) (k : Option Chunk) : State := { idle with xfr := ⟨st, 7, some c, k⟩ }
    (s .reading c none).lnk.startUp = false ∧ (s .reading c none).xfr.ctx = some c ∧ c.abortPending = false ∧
    ({ c with abortPending := true } : XferContext).abortPending = true ∧
    (s .waiting c (some ⟨0, List.replicate 512 0⟩)).xfr.chunk = some ⟨0, List.replicate 512 0⟩ ∧
    c.queued + (List.replicate 512 (0 : Byte)).length < c.count ∧
    c.count ≤ ({ c with queued := 512 } : XferContext).queued + (List.replicate 512 (0 : Byte)).length ∧
    freeCount (crowded 56 (s .ending c none)) = 8 ∧ freeCount (crowded 57 (s .ending c none)) = 7 := by
  refine ⟨rfl, rfl, rfl, rfl, rfl, ?_, ?_, rfl, rfl⟩ <;> decide +kernel

/-! For the laws that every step keeps: a lawful state in which something stands, and a command waiting. -/

theorem witness_StepKeepsStoresCanonical :
    let s := waiting { idle with mem := { idle.mem with dram := [(3, 1), (7, 255)] }, rnd := { idle.rnd with
      work := idle.rnd.work.set 7 [(0, 9)] }, cmp := { idle.cmp with draw := [(383999, 15)] } }
    StoresCanonical s ∧ step s = .next (after (.overloadSenseInactive 3) { s with pending := [] }) := by
  refine ⟨⟨by decide, by decide, by decide, by decide, by decide, ?_⟩, rfl⟩
  intro f h
  cases h

/-- A part that is up, with page 0 in a FILLING record, page 1 BAD and the rest FREE, while ACQ fills that record. -/
theorem witness_StepKeepsPagesPartitioned :
    let s := waiting (withAcq .preFill (some (capture 0)) (withRecord { filling with pages := #v[[0], [], [], []] } { idle with
      mem := { idle.mem with pool := (List.range 2048).drop 2, bad := [1] } }))
    PagesPartitioned s ∧ HistoryLaw s ∧ step s = .next (after (.overloadSenseInactive 3) { s with pending := [] }) := by
  refine ⟨⟨by decide, by decide, fun _ => ?_, fun h => absurd h (by decide), ?_⟩, ⟨?_, ?_, by unfold TransferLaw; decide⟩, rfl⟩
  · have pages : List.range Config.pageCount = [0, 1] ++ (List.range 2048).drop 2 := by decide +kernel
    rw [pages]
    refine (List.Perm.of_eq ?_).trans (List.perm_append_comm (l₁ := (List.range 2048).drop 2) (l₂ := [0, 1]))
    decide +kernel
  · intro n
    refine ⟨⟨fun h => ?_, fun h => ?_⟩, fun c h => ?_⟩ <;> revert h <;> fin_cases n <;>
      simp [waiting, withAcq, withRecord, idle, State.reset, memReset, refEmpty]
  · refine ⟨by decide, by decide, by decide, fun c h => ?_, by decide, by decide⟩
    cases h
    rfl
  · refine ⟨?_, ?_, by decide, by decide, ?_, ?_, ?_⟩
    · intro r h
      cases List.mem_singleton.mp h
      refine ⟨by decide, by decide, by decide, ⟨fun h => absurd h (by decide), ?_⟩, by decide, by decide⟩
      rintro ⟨n, c, h, -⟩
      revert h
      fin_cases n <;> simp [waiting, withAcq, withRecord, idle, State.reset, memReset, refEmpty]
    · intro n
      refine ⟨⟨fun h => ?_, fun h => ?_⟩, by revert n; decide, by revert n; decide⟩
      · exact absurd h (by revert n; decide)
      · obtain ⟨p, h, -⟩ := h
        cases h
    · intro q h
      cases h
    · rintro q (h | h) <;> cases h
    · rintro q (h | ⟨ch, h⟩ | ⟨n, c, h, -⟩)
      · cases h
      · cases h
      · revert h
        fin_cases n <;> simp [waiting, withAcq, withRecord, idle, State.reset, memReset, refEmpty]

theorem witness_StepKeepsOutboundLaw :
    let s := waiting { idle with
      lnk := { idle.lnk with outbound := [.report (.encoder 0 3 0), .report (.encoder 1 3 0)], reservations := 2 }
      cmp := { idle.cmp with showPending := true, hold := [⟨.fill, 1, []⟩] } }
    OutboundLaw s ∧ step s = .next (after (.overloadSenseInactive 3) { s with pending := [] }) := by
  refine ⟨⟨rfl, ?_, ?_, fun h => absurd h (by decide)⟩, rfl⟩
  · change 4 ≤ 64
    decide
  · refine List.pairwise_pair.mpr (fun r h => ?_)
    cases h
    rfl

/-- The bounded queues full, an OV_SHOW pending with requests held, and a transfer in each of its states. -/
theorem witness_StepKeepsQueuesBounded :
    let s := waiting { idle with
      lnk := { idle.lnk with inbound := List.replicate 4 ⟨0x10, 0, []⟩ }
      cmp := { idle.cmp with showPending := true, hold := List.replicate 8 ⟨.fill, 1, []⟩ }
      rnd := { idle.rnd with queue := List.replicate 8 412 } }
    QueuesBounded s ∧ HoldLaw s ∧ HoldLaw (waiting idle) ∧
    (∀ x ∈ [(.idle, none, none), (.reading, some ⟨7, .segment 412 0, 1024, 0, 1024, 0, 0, false, false⟩, none),
        (.waiting, some ⟨7, .segment 412 0, 1024, 0, 1024, 0, 0, false, false⟩, some ⟨0, [1]⟩)],
      TransferLaw { s with xfr := ⟨x.1, 7, x.2.1, x.2.2⟩ }) ∧
    step s = .next (after (.overloadSenseInactive 3) { s with pending := [] }) := by
  refine ⟨⟨by decide, by decide, by decide, by decide⟩, fun h => absurd h (by decide), fun _ => rfl, ?_, rfl⟩
  unfold TransferLaw
  decide

/-- An OHM50 channel at scale index 9, its widest; a reference slot that holds a page, in a part whose good pages just hold the
setup's need beside it. -/
theorem witness_StepKeepsSetupLawful :
    (let s := waiting (withFields [(21, 1), (17, 9)] idle)
     SetupLawful s.setup ∧ step s = .next (after (.overloadSenseInactive 3) { s with pending := [] })) ∧
    (let s := waiting (withRef 0 ⟨.valid, some ⟨0, 412, 1024, 0, 9⟩, [2047], false, false, none⟩ { idle with
       mem := { idle.mem with bad := List.range 2043 } })
     ReferencesFit s ∧ s.lnk.startUp = false ∧ step s = .next (after (.overloadSenseInactive 3) { s with pending := [] })) := by
  refine ⟨⟨⟨?_, ?_, ?_, ?_⟩, rfl⟩, ⟨fun h => absurd h (by decide), fun n c h => ?_, fun _ => ?_⟩, rfl, rfl⟩
  case refine_5 => revert h; fin_cases n <;> simp [waiting, withRef, idle, State.reset, memReset, refEmpty]
  all_goals decide +kernel

/-- An erase of an unprotected slot, beside a protected one whose area holds a byte. -/
theorem witness_StepKeepsProtectedSlotsUntouched :
    let s := waiting { idle with sto := { idle.sto with
      header := { headerNone with protects := (Vector.replicate 10 false).set 4 true }
      flash := { idle.sto.flash with slots := idle.sto.flash.slots.set 5 (some [1]) }
      engine := some ⟨.erase 4, .erase, 0⟩ } }
    ProtectedUntouched s ∧ isProtected 5 s = true ∧ areaOf (.slot 5) s.sto.flash = some [1] ∧
    step s = .next (after (.overloadSenseInactive 3) { s with pending := [] }) := by
  refine ⟨⟨fun h => absurd h (by decide), ?_⟩, rfl, rfl, rfl⟩
  intro e h
  cases h
  rfl

theorem witness_StepKeepsLatchedChannelsAtMeg1 :
    let s := waiting { idle with fec := { idle.fec with latch := idle.fec.latch.set 2 true } }
    LatchedAtMeg1 s ∧ s.fec.latch[2] = true ∧ step s = .next (after (.overloadSenseInactive 3) { s with pending := [] }) := by
  refine ⟨?_, rfl, rfl⟩
  unfold LatchedAtMeg1
  decide +kernel

end Sys2Proof.Tests
end

section
/-! PROOF. The condition table under latches and offers: which entries each can touch. -/

namespace Sys2Proof.Machine

/-! ### The condition table -/

/-- R213: a condition stands in the table of all conditions at the place of its code. -/
theorem allConditions_at_condCode (c : Condition) : allConditions[(condCode c).val]? = some c := by
  cases c with
  | protect n => fin_cases n <;> rfl
  | _ => rfl

/-- R213: the conditions have distinct codes. -/
theorem condCode_inj {c d : Condition} (h : condCode c = condCode d) : c = d :=
  Option.some.inj (by rw [← allConditions_at_condCode c, h, allConditions_at_condCode d])

/-- R213: a latch sets its own entry. -/
theorem condEntry_setLatched_self (c : Condition) (d : CauseDetail) (s : State) :
    condEntry c (setLatched c d s) = { condEntry c s with latched := true, cause := d } := by
  simp [condEntry, vmod]

/-- R213: a latch leaves every other entry. -/
theorem condEntry_setLatched_ne {c c' : Condition} (h : c ≠ c') (d : CauseDetail) (s : State) :
    condEntry c (setLatched c' d s) = condEntry c s := by
  have hv : (condCode c').val ≠ (condCode c).val := fun e => h (condCode_inj (Fin.ext e.symm))
  simp [condEntry, vmod, hv]

/-- A condition's entry is read off LNK's table alone. -/
theorem condEntry_congr {s t : State} (h : t.lnk.conds = s.lnk.conds) (c : Condition) : condEntry c t = condEntry c s := by
  simp [condEntry, h]

/-- R210: an offer can latch REPORT_LOSS and no other condition. -/
theorem condEntry_offer {c : Condition} (h : c ≠ .reportLoss) (r : Report) (s : State) :
    condEntry c (offer r s) = condEntry c s := by
  unfold offer
  split
  · exact condEntry_congr (by simp) c
  · unfold offerNew
    split
    · exact condEntry_congr (by simp) c
    · unfold dropReport
      split
      · rfl
      · exact condEntry_setLatched_ne h _ s

/-- R213: latching one condition leaves the others, but for a REPORT_LOSS of its report. -/
theorem condEntry_latchCondition {c c' : Condition} (h : c ≠ c') (hloss : c ≠ .reportLoss) (d : CauseDetail) (s : State) :
    condEntry c (latchCondition c' d s) = condEntry c s := by
  unfold latchCondition
  split
  · rfl
  · dsimp only
    split
    · exact condEntry_setLatched_ne h d s
    · rw [condEntry_offer hloss, condEntry_setLatched_ne h]

/-- R213: a latch asked for is in force, with the cause detail of the request that set it. -/
theorem latchedNow_latchCondition {c : Condition} (hloss : c ≠ .reportLoss) (d : CauseDetail) (s : State) :
    LatchedNow c d s (latchCondition c d s) := by
  have self := condEntry_setLatched_self c d s
  unfold LatchedNow latchCondition
  split
  · rename_i h; exact ⟨h, rfl⟩
  · dsimp only
    split
    · exact ⟨congrArg CondEntry.latched self, congrArg CondEntry.cause self⟩
    · rw [condEntry_offer hloss, self]; exact ⟨rfl, rfl⟩

/-- A condition latched by a step on the way stays so while its entry stands, and started where the entry was. -/
theorem LatchedNow.of_entries {c : Condition} {d : CauseDetail} {s s' t t' : State} (h : LatchedNow c d s t)
    (hs : condEntry c s = condEntry c s') (ht : condEntry c t' = condEntry c t) : LatchedNow c d s' t' := by
  unfold LatchedNow at *
  rwa [ht, ← hs]

/-! ### Reports that join the queue -/

/-- R211: the reports of ACQ, of calibration and of the condition table update no unsent record. -/
def alwaysNew (r : Report) : Prop := ∀ x : Record, updates r x = false

theorem alwaysNew_acqState (a b : AcqState) (c : AcqCause) (n q : Nat) : alwaysNew (.acqState a b c n q) := fun _ => rfl
theorem alwaysNew_condition (c : Condition) (d : CauseDetail) (b : Bool) : alwaysNew (.condition c d b) := fun _ => rfl
theorem alwaysNew_calDone (o : CalOutcome) (f : Option CalFailure) : alwaysNew (.calDone o f) := fun _ => rfl

/-- R210: such a report joins the tail while a place is free. -/
theorem offer_outbound_of_room {r : Report} (hr : alwaysNew r) {s : State} (h : 1 ≤ freeCount s) :
    (offer r s).lnk.outbound = s.lnk.outbound ++ [.report r] := by
  have hnone : replaceFirst (updates r) (fun _ => Record.report r) s.lnk.outbound = none :=
    (replaceFirst_none _ _ _).2 (fun x _ => hr x)
  simp [offer, hnone, offerNew, h]

/-- R210: such a report leaves the records before it as they are. -/
theorem outbound_prefix_offer {r : Report} (hr : alwaysNew r) (s : State) : s.lnk.outbound <+: (offer r s).lnk.outbound := by
  rcases offer_outbound r s with ⟨q, hq, _⟩ | ⟨_, _, e⟩ | ⟨_, _, e, _⟩
  · have hnone : replaceFirst (updates r) (fun _ => Record.report r) s.lnk.outbound = none :=
      (replaceFirst_none _ _ _).2 (fun x _ => hr x)
    rw [hnone] at hq; cases hq
  · rw [e]; exact List.prefix_append _ _
  · rw [e]

/-- R213: a latch leaves the records of the outbound queue before what it adds. -/
theorem outbound_prefix_latchCondition (c : Condition) (d : CauseDetail) (s : State) :
    s.lnk.outbound <+: (latchCondition c d s).lnk.outbound := by
  unfold latchCondition
  split
  · exact List.prefix_rfl
  · dsimp only
    split
    · exact List.prefix_rfl
    · exact outbound_prefix_offer (alwaysNew_condition _ _ _) (setLatched c d s)

end Sys2Proof.Machine
end

section
/-! PROOF. What the releases of pages and pins, and the arming and the ends of runs that follow them, leave of the rest of the
state: one relation, and one lemma for each function. -/

namespace Sys2Proof.Machine

/-! ### The relation -/

/-- R46, R47: TRG's held settings stand, or a held change has been taken. -/
def HeldOrTaken (s t : State) : Prop :=
  (t.trg.held = s.trg.held ∧ t.trg.changeHeld = s.trg.changeHeld) ∨
  (s.trg.changeHeld = true ∧ t.trg.held = settingsOf s.setup ∧ t.trg.changeHeld = false)

/-- What a release, an arming or the end of a run keeps (R26, R28, R73, R95, R98): of FEC only the drive states and the settle timer
move, each relay stands or goes to its effective termination, and a running settle timer is at most extended; the setup, the instant,
PNL, the run count and the last seq stand, TRG at most takes a held change, and no condition but STARVED and REPORT_LOSS is latched. -/
structure Rederives (s t : State) : Prop where
  setup : t.setup = s.setup
  now : t.now = s.now
  pnl : t.pnl = s.pnl
  fec : t.fec = { s.fec with drive := t.fec.drive, settle := t.fec.settle }
  term : ∀ n : Channel, t.fec.drive[n].term = s.fec.drive[n].term ∨ t.fec.drive[n].term = effectiveTerm n s
  settle : ∀ d, s.fec.settle = some d → ∃ e, t.fec.settle = some e ∧ d ≤ e
  runCount : t.acq.runCount = s.acq.runCount
  lastSeq : t.acq.lastSeq = s.acq.lastSeq
  held : HeldOrTaken s t
  conds : ∀ c : Condition, c ≠ .reportLoss → c ≠ .starved → condEntry c t = condEntry c s

/-- The parts of the state that the relation speaks of. -/
def keptParts (s : State) : Setup × Instant × Pnl × Fec × TrigSettings × Bool × Nat × Nat × Vector CondEntry 14 :=
  (s.setup, s.now, s.pnl, s.fec, s.trg.held, s.trg.changeHeld, s.acq.runCount, s.acq.lastSeq, s.lnk.conds)

namespace Rederives

/-- A step that leaves what the relation speaks of. -/
theorem of_kept {s t : State} (h : keptParts t = keptParts s) : Rederives s t := by
  simp only [keptParts, Prod.mk.injEq] at h
  obtain ⟨hs, hn, hp, hf, hh, hc, hr, hl, hconds⟩ := h
  exact {
    setup := hs, now := hn, pnl := hp, runCount := hr, lastSeq := hl, held := .inl ⟨hh, hc⟩
    fec := by rw [hf]
    term := fun n => .inl (by rw [hf])
    settle := fun d hd => ⟨d, by rw [hf]; exact hd, le_refl d⟩
    conds := fun c _ _ => condEntry_congr hconds c }

theorem refl (s : State) : Rederives s s := of_kept rfl

/-- The protect latches stand. -/
theorem latch {s t : State} (h : Rederives s t) : t.fec.latch = s.fec.latch := by rw [h.fec]

/-- The effective terminations stand: they follow the setup and the latches. -/
theorem effectiveTerm_eq {s t : State} (h : Rederives s t) (n : Channel) : effectiveTerm n t = effectiveTerm n s := by
  simp [effectiveTerm, h.setup, h.latch]

theorem trans {s t u : State} (h : Rederives s t) (k : Rederives t u) : Rederives s u where
  setup := k.setup.trans h.setup
  now := k.now.trans h.now
  pnl := k.pnl.trans h.pnl
  fec := by rw [k.fec, h.fec]
  term n := by
    rcases k.term n with e | e
    · rcases h.term n with e' | e'
      · exact .inl (e.trans e')
      · exact .inr (e.trans e')
    · exact .inr (e.trans (h.effectiveTerm_eq n))
  settle d hd := by
    obtain ⟨e, he, hde⟩ := h.settle d hd
    obtain ⟨f, hf, hef⟩ := k.settle e he
    exact ⟨f, hf, le_trans hde hef⟩
  runCount := k.runCount.trans h.runCount
  lastSeq := k.lastSeq.trans h.lastSeq
  held := by
    rcases k.held with ⟨e1, e2⟩ | ⟨e1, e2, e3⟩
    · rcases h.held with ⟨f1, f2⟩ | ⟨f1, f2, f3⟩
      · exact .inl ⟨e1.trans f1, e2.trans f2⟩
      · exact .inr ⟨f1, e1.trans f2, e2.trans f3⟩
    · rcases h.held with ⟨_, f2⟩ | ⟨_, _, f3⟩
      · exact .inr ⟨f2 ▸ e1, h.setup ▸ e2, e3⟩
      · rw [f3] at e1; cases e1
  conds c h1 h2 := (k.conds c h1 h2).trans (h.conds c h1 h2)

/-- A step that leaves what the relation speaks of may go before. -/
theorem after {s t u : State} (k : Rederives t u) (h : keptParts t = keptParts s) : Rederives s u := (of_kept h).trans k

/-- A fold of steps that keep the relation keeps it. -/
theorem foldl {α : Type} {f : State → α → State} (hf : ∀ s x, Rederives s (f s x)) (xs : List α) (s : State) :
    Rederives s (xs.foldl f s) := by
  induction xs generalizing s with
  | nil => exact refl s
  | cons x rest ih => exact (hf s x).trans (ih (f s x))

/-- R40: latched channels stay at MEG1, where the effective termination of a latched channel is. -/
theorem latchedAtMeg1 {s t : State} (h : Rederives s t) (hs : LatchedAtMeg1 s) : LatchedAtMeg1 t := by
  intro n hn
  rw [h.latch] at hn
  rcases h.term n with e | e
  · rw [e]; exact hs n hn
  · rw [e]; simp [effectiveTerm, hn]

/-- A settle deadline that is ahead stays ahead. -/
theorem settle_ge {s t : State} (h : Rederives s t) {x : Nat} (hs : ∃ d, s.fec.settle = some d ∧ x ≤ d) :
    ∃ d, t.fec.settle = some d ∧ x ≤ d := by
  obtain ⟨d, hd, hx⟩ := hs
  obtain ⟨e, he, hde⟩ := h.settle d hd
  exact ⟨e, he, le_trans hx hde⟩

/-- A relay at its effective termination stays there. -/
theorem term_of_effective {s t : State} (h : Rederives s t) {n : Channel} (hs : s.fec.drive[n].term = effectiveTerm n s) :
    t.fec.drive[n].term = effectiveTerm n s := by
  rcases h.term n with e | e
  · exact e.trans hs
  · exact e

end Rederives

/-! ### FEC -/

/-- R29: a settle timer that is extended runs at least as long as before and as the duration asks. -/
theorem extendSettle_settle (dur : Nat) (s : State) :
    (extendSettle dur s).fec = { s.fec with settle :=
      if dur = 0 then s.fec.settle else some (max (s.fec.settle.getD 0) (s.now + dur)) } := by
  unfold extendSettle; split <;> rfl

/-- R29: the settle timer is FEC's alone. -/
theorem extendSettle_only (dur : Nat) (s : State) : extendSettle dur s = { s with fec := (extendSettle dur s).fec } := by
  unfold extendSettle; split <;> rfl

theorem extendSettle_rederives (dur : Nat) (s : State) : Rederives s (extendSettle dur s) := by
  have hf := extendSettle_settle dur s
  rw [extendSettle_only]
  exact {
    setup := rfl, now := rfl, pnl := rfl, runCount := rfl, lastSeq := rfl, held := .inl ⟨rfl, rfl⟩, conds := fun _ _ _ => rfl
    fec := by rw [hf]
    term := fun n => .inl (by rw [hf])
    settle := fun d hd => by
      rw [hf]
      by_cases h : dur = 0
      · exact ⟨d, by simp [h, hd], le_refl d⟩
      · exact ⟨max d (s.now + dur), by simp [h, hd], le_max_left _ _⟩ }

/-- R29: after a settle time of `dur` has been asked for, the timer runs at least as long. -/
theorem extendSettle_ge {dur : Nat} (hdur : dur ≠ 0) (s : State) :
    ∃ d, (extendSettle dur s).fec.settle = some d ∧ s.now + dur ≤ d :=
  ⟨max (s.fec.settle.getD 0) (s.now + dur), by rw [extendSettle_settle]; simp [hdur], le_max_right _ _⟩

/-- R28: new drive states: they are in force, and the settle timer is at most extended. -/
theorem applyDrives_drive (new : Vector Drive 4) (s : State) : (applyDrives new s).fec.drive = new := by
  unfold applyDrives; rw [extendSettle_settle]

/-- R28: new drive states are FEC's alone. -/
theorem applyDrives_only (new : Vector Drive 4) (s : State) : applyDrives new s = { s with fec := (applyDrives new s).fec } := by
  unfold applyDrives; rw [extendSettle_only]

/-- R28: of FEC, new drive states move the drive states and the settle timer. -/
theorem applyDrives_fec (new : Vector Drive 4) (s : State) :
    (applyDrives new s).fec = { s.fec with drive := new, settle := (applyDrives new s).fec.settle } := by
  unfold applyDrives; rw [extendSettle_settle]

/-- R28: drive states whose relays are at the effective terminations. -/
theorem applyDrives_rederives {new : Vector Drive 4} {s : State} (h : ∀ n : Channel, new[n].term = effectiveTerm n s) :
    Rederives s (applyDrives new s) := by
  have k := extendSettle_rederives ((channels.map (fun c => settleDuration s.fec.drive[c] new[c])).foldl max 0)
    { s with fec := { s.fec with drive := new } }
  exact {
    setup := k.setup, now := k.now, pnl := k.pnl, runCount := k.runCount, lastSeq := k.lastSeq, held := k.held, conds := k.conds
    fec := by rw [applyDrives_fec]
    term := fun n => .inr (by rw [applyDrives_drive]; exact h n)
    settle := k.settle }

theorem targetDrive_term (n : Channel) (s : State) : (targetDrive n s).term = effectiveTerm n s := rfl

/-- R26: deriving the drive states drives each relay to its effective termination, or leaves all during calibration. -/
theorem deriveDrives_rederives (s : State) : Rederives s (deriveDrives s) := by
  unfold deriveDrives
  split
  · exact .refl s
  · exact applyDrives_rederives (fun n => by simp [targetDrive_term])

/-- R26: outside calibration each relay is then at its effective termination. -/
theorem deriveDrives_term {s : State} (h : s.fec.calStep = none) (n : Channel) :
    (deriveDrives s).fec.drive[n].term = effectiveTerm n s := by
  simp [deriveDrives, h, applyDrives_drive, targetDrive_term]

/-- R28: deriving the drive states touches FEC alone. -/
theorem deriveDrives_only (s : State) : deriveDrives s = { s with fec := (deriveDrives s).fec } := by
  unfold deriveDrives
  split
  · rfl
  · exact applyDrives_only _ s

/-! ### TRG -/

/-- R47: TRG after the taking of the record's settings. -/
def takenTrg (s : State) : Trg :=
  let old := s.trg.held
  let new := settingsOf s.setup
  let restarts : Bool := decide (old.source ≠ new.source) || old.pulse != new.pulse || decide (old.slope ≠ new.slope) ||
    old.gate1000 != new.gate1000
  { s.trg with
    held := new
    seedPending := s.trg.seedPending || decide (old.source ≠ new.source)
    dac := dacAfterTaking old new s.trg.high s.trg.dac
    qualifier := if decide (old.source ≠ new.source) || old.pulse != new.pulse || thresholdsDiffer old new then none
      else s.trg.qualifier
    holdoff := holdoffAfterTaking old new s.now s.trg.holdoff
    gateStart := if restarts then s.now else s.trg.gateStart
    count := if restarts then 0 else s.trg.count }

/-- R47: the taking of settings is TRG's, and a new source has the drive states derived again (R27). -/
theorem takeSettings_eq (s : State) : takeSettings s =
    if s.trg.held.source ≠ (settingsOf s.setup).source then deriveDrives { s with trg := takenTrg s }
    else { s with trg := takenTrg s } := by
  have gate : ∀ (c : Bool) (t : State), (if c = true then restartGate t else t) =
      { t with trg := { t.trg with gateStart := if c = true then t.now else t.trg.gateStart,
                                   count := if c = true then 0 else t.trg.count } } := by
    intro c t; cases c <;> rfl
  unfold takeSettings
  simp only [gate, decide_eq_true_eq]
  rfl

/-- R47: of TRG, the taking of settings leaves `takenTrg`. -/
theorem takeSettings_trg (s : State) : (takeSettings s).trg = takenTrg s := by
  rw [takeSettings_eq]
  split
  · rw [deriveDrives_only]
  · rfl

/-- R47: the taking of settings touches TRG and, through the drive states, FEC. -/
theorem takeSettings_only (s : State) : takeSettings s = { s with trg := (takeSettings s).trg, fec := (takeSettings s).fec } := by
  rw [takeSettings_eq]
  split
  · rw [deriveDrives_only]
  · rfl

/-- R47: what the taking of settings does to FEC is a derivation of the drive states. -/
theorem takeSettings_rederives (s : State) : Rederives { s with trg := takenTrg s } (takeSettings s) := by
  rw [takeSettings_eq]
  split
  · exact deriveDrives_rederives _
  · exact .refl _

/-- R46: the leaving of a phase takes a held change. -/
theorem leavePhase_rederives (s : State) : Rederives s (leavePhase s) := by
  unfold leavePhase
  split
  · rename_i hc
    have taken := takeSettings_rederives { s with trg := { s.trg with changeHeld := false } }
    refine Rederives.trans (t := { s with trg := takenTrg { s with trg := { s.trg with changeHeld := false } } }) ?_ taken
    exact { Rederives.refl s with held := .inr ⟨hc, rfl, rfl⟩ }
  · exact .refl s

/-- R46: when a phase has been left, no change is held. -/
theorem leavePhase_changeHeld (s : State) : (leavePhase s).trg.changeHeld = false := by
  unfold leavePhase
  split
  · rw [takeSettings_trg]; rfl
  · rename_i hc; simpa using hc

/-- R46: the leaving of a phase touches TRG and FEC. -/
theorem leavePhase_only (s : State) : leavePhase s = { s with trg := (leavePhase s).trg, fec := (leavePhase s).fec } := by
  unfold leavePhase
  split
  · rw [takeSettings_only]
  · rfl

/-! ### Reports -/

theorem offer_rederives (r : Report) (s : State) : Rederives s (offer r s) :=
  { Rederives.refl s with
    setup := by simp, now := by simp, pnl := by simp, fec := by simp, term := fun n => .inl (by simp)
    settle := fun d hd => ⟨d, by simpa using hd, le_refl d⟩, runCount := by simp, lastSeq := by simp
    held := .inl (by simp), conds := fun _ h _ => condEntry_offer h r s }

theorem reportAcq_rederives (left : AcqState) (cause : AcqCause) (s : State) : Rederives s (reportAcq left cause s) :=
  offer_rederives _ s

/-- R73: the latch of STARVED is the one latch of an arming. -/
theorem latchStarved_rederives (d : CauseDetail) (s : State) : Rederives s (latchCondition .starved d s) :=
  { Rederives.refl s with
    setup := by simp, now := by simp, pnl := by simp, fec := by simp, term := fun n => .inl (by simp)
    settle := fun d hd => ⟨d, by simpa using hd, le_refl d⟩, runCount := by simp, lastSeq := by simp
    held := .inl (by simp), conds := fun _ h1 h2 => condEntry_latchCondition h2 h1 d s }

/-! ### MEM -/

/-- R76: a dropped record touches MEM alone. -/
theorem dropSegment_only (seq : Nat) (s : State) : dropSegment seq s = { s with mem := (dropSegment seq s).mem } := by
  unfold dropSegment; split <;> rfl

/-- R72: reclaiming touches MEM alone. -/
theorem reclaim_only (fuel k : Nat) (s : State) : reclaim fuel k s = { s with mem := (reclaim fuel k s).mem } := by
  induction fuel generalizing s with
  | zero => rfl
  | succ f ih =>
    unfold reclaim
    split
    · split
      · rfl
      · rename_i r _; rw [ih (dropSegment r.seq s), dropSegment_only]
    · rfl

/-- R72: an allocation touches MEM alone. -/
theorem allocate_only (q : CaptureRequest) (s : State) : (allocate q s).1 = { s with mem := (allocate q s).1.mem } := by
  unfold allocate
  dsimp only
  split
  · exact reclaim_only _ _ s
  · dsimp only; rw [reclaim_only]

/-- R78: a pin request touches MEM alone. -/
theorem pinSegment_only (h : Holder) (seq : Nat) (s : State) : (pinSegment h seq s).1 = { s with mem := (pinSegment h seq s).1.mem } := by
  unfold pinSegment
  split
  · rfl
  · split <;> rfl

/-- R85: a pin request on a slot touches MEM alone. -/
theorem pinRef_only (b : Bool) (n : Fin 4) (s : State) : (pinRef b n s).1 = { s with mem := (pinRef b n s).1.mem } := by
  unfold pinRef; split <;> rfl

/-! ### Releases and the retry -/

/-- R103: the entry to READY. -/
theorem enterReady_rederives (s : State) : Rederives s (enterReady s) := by
  have ready : Rederives s (leavePhase (setAcq .ready s)) := (leavePhase_rederives _).after rfl
  unfold enterReady
  generalize leavePhase (setAcq .ready s) = s1 at *
  have wait : Rederives s1 (if s1.setup.get 83 = 0 then startAutoWait s1 else s1) := by
    split
    · exact .of_kept rfl
    · exact .refl s1
  dsimp only
  generalize (if s1.setup.get 83 = 0 then startAutoWait s1 else s1) = s2 at *
  refine ready.trans (wait.trans ?_)
  split
  · exact .of_kept rfl
  · exact .refl s2

/-- R102: the entry to PRE_FILL. -/
theorem enterPreFill_rederives (q : CaptureRequest) (seq : Nat) (s : State) : Rederives s (enterPreFill q seq s) := by
  unfold enterPreFill
  dsimp only
  split
  · exact (enterReady_rederives _).after rfl
  · exact .of_kept rfl

/-- R73: the retry of a pending allocation. -/
theorem retryPending_rederives (s : State) : Rederives s (retryPending s) := by
  unfold retryPending
  split
  · exact .refl s
  · rename_i q _
    have alloc : Rederives s (allocate q s).1 := by rw [allocate_only]; exact .of_kept rfl
    split
    · rename_i h; rw [h] at alloc; exact alloc
    · rename_i h; rw [h] at alloc
      exact alloc.trans ((enterPreFill_rederives q _ _).after rfl)

/-- R67: a release of pages. -/
theorem releasePages_rederives (ps : List Nat) (s : State) : Rederives s (releasePages ps s) :=
  (retryPending_rederives (freePages ps s)).after rfl

/-- R76: the removal of a record. -/
theorem removeSegment_rederives (seq : Nat) (s : State) : Rederives s (removeSegment seq s) := by
  have drop : Rederives s (dropSegment seq s) := by rw [dropSegment_only]; exact .of_kept rfl
  exact drop.trans (retryPending_rederives _)

/-- R78: the release of a pin on a segment. -/
theorem releaseSegPin_rederives (h : Holder) (seq : Nat) (s : State) : Rederives s (releaseSegPin h seq s) := by
  unfold releaseSegPin
  split
  · exact .refl s
  · split
    · dsimp only
      split
      · exact (removeSegment_rederives seq _).after rfl
      · exact (retryPending_rederives _).after rfl
    · exact .refl s

/-! ### Arming and the ends of runs -/

/-- R98, R72, R73: a capture allocation that ACQ asks for. -/
theorem requestAllocation_rederives (s : State) : Rederives s (requestAllocation s) := by
  have alloc : Rederives s (allocate (captureRequest s) s).1 := by rw [allocate_only]; exact .of_kept rfl
  unfold requestAllocation
  dsimp only
  split
  · rename_i h; rw [h] at alloc; exact alloc.trans (enterPreFill_rederives _ _ _)
  · rename_i h; rw [h] at alloc
    exact alloc.trans ((latchStarved_rederives _ _).after rfl)

/-- R98: the arming. -/
theorem arming_rederives (s : State) : Rederives s (arm s) := by
  unfold arm
  split
  · exact .of_kept rfl
  · exact requestAllocation_rederives s

/-- R109: the discard of the FILLING segment. -/
theorem discard_rederives (s : State) : Rederives s (discard s) := by
  unfold discard
  have removed : Rederives s (match s.acq.ctx with | some c => removeSegment c.seq s | none => s) := by
    split
    · exact removeSegment_rederives _ s
    · exact .refl s
  exact removed.trans ((leavePhase_rederives _).trans (.of_kept rfl))

/-- R73: the withdrawal of a pending allocation. -/
theorem withdraw_rederives (s : State) : Rederives s (withdraw s) := .of_kept rfl

/-- R95, R107: the entry to STOPPED. -/
theorem enterStopped_rederives (cause : AcqCause) (s : State) : Rederives s (enterStopped cause s) :=
  (reportAcq_rederives _ _ _).after rfl

/-- R95, R111, R112: the end of a run. -/
theorem endRun_rederives (cause : AcqCause) (s : State) : Rederives s (endRun cause s) := by
  have discarded := (discard_rederives s).trans (enterStopped_rederives cause _)
  unfold endRun
  split
  · exact .refl s
  · exact .refl s
  · exact enterStopped_rederives cause s
  · exact (withdraw_rederives s).trans (enterStopped_rederives cause _)
  · exact discarded
  · exact discarded
  · exact discarded

/-- R110: a capture change. -/
theorem captureChange_rederives (s : State) : Rederives s (captureChange s) := by
  have discarded := (discard_rederives s).trans (arming_rederives _)
  unfold captureChange
  split
  · exact .refl s
  · exact .refl s
  · exact .refl s
  · exact (withdraw_rederives s).trans (arming_rederives _)
  · exact discarded
  · exact discarded
  · exact discarded

/-- R111: where a trip does not stop the run, ACQ takes it as a capture change. -/
theorem acqTrip_eq (s : State) : acqTrip s = if s.setup.get 85 = 1 then endRun .protect s else captureChange s := rfl

/-- R111: what ACQ makes of a trip. -/
theorem acqTrip_rederives (s : State) : Rederives s (acqTrip s) := by
  rw [acqTrip_eq]
  split
  · exact endRun_rederives _ s
  · exact captureChange_rederives s

end Sys2Proof.Machine
end

section
/-! PROOF. The releases of RND, of the reference slots and of the copy engine keep the same relation. -/

namespace Sys2Proof.Machine

/-! ### The render queue and the passes -/

/-- R78: a pin request on a segment. -/
theorem pinSegment_rederives (h : Holder) (seq : Nat) (s : State) : Rederives s (pinSegment h seq s).1 := by
  rw [pinSegment_only]; exact .of_kept rfl

/-- R118: the emptying of the render queue. -/
theorem emptyQueue_rederives (keep : Option Nat) (s : State) : Rederives s (emptyQueue keep s) :=
  (Rederives.foldl (fun t q => releaseSegPin_rederives .render q t) _ { s with rnd := { s.rnd with queue := [] } }).after rfl

/-- R122 step 2: the pin on the viewed segment. -/
theorem pinViewed_rederives (s : State) : Rederives s (pinViewed s).1 := by
  unfold pinViewed
  split
  · exact .refl s
  · split
    · exact pinSegment_rederives _ _ s
    · exact .refl s

/-- R122 step 4: the pins on the visible references. -/
theorem pinVisibleRefs_rederives (s : State) : Rederives s (pinVisibleRefs s) := by
  refine Rederives.foldl (fun t n => ?_) channels s
  split
  · rw [pinRef_only]; exact .of_kept rfl
  · exact .refl t

/-- R122: the start of a REDRAW pass. -/
theorem startRedraw_rederives (s : State) : Rederives s (startRedraw s) := by
  have pinned : Rederives s (pinViewed { s with rnd := { s.rnd with redraw := false } }).1 := (pinViewed_rederives _).after rfl
  unfold startRedraw
  dsimp only
  generalize pinViewed { s with rnd := { s.rnd with redraw := false } } = pv at *
  refine Rederives.trans ((pinned.trans (emptyQueue_rederives pv.2 pv.1)).trans (pinVisibleRefs_rederives _)) ?_
  generalize pinVisibleRefs (emptyQueue pv.2 pv.1) = s1
  exact .of_kept rfl

/-- R121: the selection of a pass. -/
theorem selectPass_rederives (s : State) : Rederives s (selectPass s) := by
  unfold selectPass
  split
  · exact .refl s
  · split
    · exact startRedraw_rederives s
    · split
      · exact .refl s
      · exact .of_kept rfl

/-- R119: a redraw that is set pending. -/
theorem setRedraw_rederives (s : State) : Rederives s (setRedraw s) := (selectPass_rederives _).after rfl

/-- R117 step 2: a full queue drops its oldest entry. -/
theorem dropOldestEntry_rederives (s : State) : Rederives s (dropOldestEntry s) := by
  unfold dropOldestEntry
  split
  · exact .refl s
  · split
    · exact (releaseSegPin_rederives _ _ _).after rfl
    · exact .refl s

/-- R117: the arrival of a completed segment. -/
theorem renderArrival_rederives (seq : Nat) (s : State) : Rederives s (renderArrival seq s) := by
  unfold renderArrival
  split
  · exact (pinSegment_rederives .render seq s).trans
      ((dropOldestEntry_rederives _).trans ((selectPass_rederives _).after rfl))
  · exact .refl s

/-! ### The reference slots -/

/-- R83: the swap. -/
theorem swapRef_rederives (n : Fin 4) (s : State) : Rederives s (swapRef n s) := by
  unfold swapRef
  split
  · exact .refl s
  · dsimp only
    refine Rederives.trans ?_ (offer_rederives _ _)
    refine Rederives.trans ?_ (setRedraw_rederives _)
    split
    · exact .of_kept rfl
    · exact (releasePages_rederives _ _).after rfl

/-- R85: the last pin on a slot has gone. -/
theorem refUnpinned_rederives (n : Fin 4) (s : State) : Rederives s (refUnpinned n s) := by
  unfold refUnpinned
  split
  · exact .refl s
  · split
    · split
      · exact swapRef_rederives n s
      · exact .refl s
    · exact .refl s
  · split
    · exact .refl s
    · exact (releasePages_rederives _ _).after rfl

/-- R85: the release of a pin on a slot. -/
theorem releaseRefPin_rederives (b : Bool) (n : Fin 4) (s : State) : Rederives s (releaseRefPin b n s) := by
  unfold releaseRefPin
  dsimp only
  generalize (if b = true then s.mem.refs[n].pinTransfer else s.mem.refs[n].pinRender) = held
  cases held with
  | false => exact .refl s
  | true =>
    have unpinned : ∀ t : State, keptParts t = keptParts s →
        Rederives s (if t.mem.refs[n].pinRender || t.mem.refs[n].pinTransfer then t else refUnpinned n t) := by
      intro t ht
      split
      · exact .of_kept ht
      · exact (refUnpinned_rederives n t).after ht
    exact unpinned _ rfl

/-- R124 step 2: the release of the pins of a pass. -/
theorem releasePassPins_rederives (p : Pass) (s : State) : Rederives s (releasePassPins p s) := by
  have segment : Rederives s (match p.seg with | some r => releaseSegPin .render r.seq s | none => s) := by
    split
    · exact releaseSegPin_rederives _ _ s
    · exact .refl s
  unfold releasePassPins
  refine segment.trans (Rederives.foldl (f := fun t n => if (p.refs[n]).isSome then releaseRefPin false n t else t) ?_ channels _)
  intro t n
  split
  · exact releaseRefPin_rederives _ _ t
  · exact .refl t

/-- R122, R123: the drawing of a pass. -/
theorem drawPass_rederives (p : Pass) (s : State) : Rederives s (drawPass p s) := by
  have drawn : ∀ (trace : Channel → Trace) (clear : Channel → State → Bool) (tab : Channel → State → List ColEntry) (t : State),
      Rederives t (channels.foldl (fun t n => drawTrace (trace n) (clear n t) (tab n t) p t) t) :=
    fun trace clear tab t => Rederives.foldl (f := fun t n => drawTrace (trace n) (clear n t) (tab n t) p t)
      (fun _ _ => .of_kept rfl) channels t
  have onChannels := drawn chTrace
    (fun n t => decide (p.kind = .redraw) || (channelTable n p t.mem.dram).isEmpty || p.setup.get 116 == 0)
    (fun n t => channelTable n p t.mem.dram) s
  unfold drawPass
  dsimp only
  split
  · exact onChannels
  · exact onChannels.trans (drawn refTrace (fun _ _ => true) (fun n t => refTable n p t.mem.dram) _)

/-- R124 steps 3 and 4: a pending decay and the next pass. -/
theorem finishPass_rederives (s : State) : Rederives s (finishPass s) := by
  unfold finishPass
  refine (selectPass_rederives _).after ?_
  split <;> rfl

/-- R124: the end of a pass. -/
theorem passEnds_rederives (s : State) : Rederives s (passEnds s) := by
  unfold passEnds
  split
  · exact .refl s
  · rename_i p _
    refine Rederives.trans ?_ (finishPass_rederives _)
    refine Rederives.trans ?_ (releasePassPins_rederives p _)
    exact (drawPass_rederives p s).trans (.of_kept rfl)

/-! ### The copy engine -/

/-- R82: reclaiming for a copy. -/
theorem reclaimForCopy_rederives (fuel need : Nat) (s : State) : Rederives s (reclaimForCopy fuel need s) := by
  induction fuel generalizing s with
  | zero => exact .refl s
  | succ f ih =>
    unfold reclaimForCopy
    split
    · split
      · exact .refl s
      · exact (removeSegment_rederives _ s).trans (ih _)
    · exact .refl s

/-- R82, R83: the passage of a copy to MOVE, or its end with NO_ROOM. -/
theorem startMove_rederives (n : Fin 4) (s : State) : Rederives s (startMove n s) := by
  unfold startMove
  split
  · exact .refl s
  · dsimp only
    rename_i c _
    have reclaimed := (reclaimForCopy_rederives s.mem.table.length c.need
      (modRef n (fun r => { r with copy := some { c with phase := .move } }) s)).after (s := s) rfl
    refine reclaimed.trans ?_
    split
    · exact (releaseSegPin_rederives _ _ _).trans ((offer_rederives _ _).after rfl)
    · exact .of_kept rfl

/-- R83: the end of a copy's move. -/
theorem copyEnds_rederives (s : State) : Rederives s (copyEnds s) := by
  unfold copyEnds
  split
  · exact .refl s
  · split
    · exact .refl s
    · rename_i c _
      split
      · have written : Rederives s (copyWritten c s) := by
          unfold copyWritten
          split
          · exact .refl s
          · exact .of_kept rfl
        dsimp only
        refine (written.trans (releaseSegPin_rederives .copy c.contents.seq _)).trans ?_
        split
        · exact .of_kept rfl
        · exact swapRef_rederives _ _
      · exact .refl s

/-- R84: the emptying of a VALID slot. -/
theorem clearRefSlot_rederives (n : Fin 4) (s : State) : Rederives s (clearRefSlot n s) := by
  unfold clearRefSlot
  dsimp only
  refine Rederives.trans ?_ (setRedraw_rederives _)
  split
  · exact .of_kept rfl
  · exact (refUnpinned_rederives _ _).after rfl

/-! ### The transfer engine and the view -/

/-- R200: the release of the TRANSFER pin. -/
theorem enterEnding_rederives (c : XferContext) (aborted : Bool) (s : State) : Rederives s (enterEnding c aborted s) := by
  unfold enterEnding unpinSource
  split
  · exact (releaseSegPin_rederives _ _ _).after rfl
  · exact (releaseRefPin_rederives _ _ _).after rfl

/-- R127: a VIEW_LOST report. -/
theorem viewLost_rederives (cause : ViewLostCause) (seq : Nat) (s : State) : Rederives s (viewLost cause seq s) :=
  (offer_rederives (.viewLost seq cause) s).trans (.of_kept rfl)

/-- R126: the VIEW pin follows the view fields. -/
theorem moveViewPin_rederives (s : State) : Rederives s (moveViewPin s) := by
  have release : ∀ t : State, Rederives t (match s.rnd.viewPin with | some y => releaseSegPin .view y t | none => t) := by
    intro t
    split
    · exact releaseSegPin_rederives _ _ t
    · exact .refl t
  unfold moveViewPin
  dsimp only
  split
  · split
    · exact .refl s
    · have pinned := pinSegment_rederives .view s.setup.viewSeq s
      split
      · rename_i h; rw [h] at pinned
        exact pinned.trans ((release _).after rfl)
      · rename_i h; rw [h] at pinned
        refine Rederives.trans ?_ (viewLost_rederives _ _ _)
        exact pinned.trans ((release _).after rfl)
  · exact (release _).after rfl

/-- R77: the run restart. -/
theorem runRestart_rederives (s : State) : Rederives s (runRestart s) := by
  refine Rederives.foldl (fun t q => ?_) _ s
  unfold restartSegment
  split
  · exact .refl t
  · split
    · exact .refl t
    · split
      · exact removeSegment_rederives _ t
      · dsimp only
        split
        · refine Rederives.trans ?_ (viewLost_rederives _ _ _)
          exact (releaseSegPin_rederives _ _ _).after rfl
        · exact .of_kept rfl

end Sys2Proof.Machine
end

section
/-! PROOF. R40: every command leaves each latched channel at MEG1. First what each block's functions leave of FEC, then the few
functions that move a latch or a relay, then the commands in the order of `exec`. -/

namespace Sys2Proof.Machine

/-! ### The law and what keeps it -/

/-- The law speaks of FEC alone. -/
theorem LatchedAtMeg1.of_fec {s t : State} (h : LatchedAtMeg1 s) (e : t.fec = s.fec) : LatchedAtMeg1 t := by
  unfold LatchedAtMeg1 at *; rwa [e]

/-- The law stands where no latch is set newly and no relay moves. -/
theorem LatchedAtMeg1.of_fewer {s t : State} (h : LatchedAtMeg1 s)
    (hl : ∀ n : Channel, t.fec.latch[n] = true → s.fec.latch[n] = true)
    (hd : ∀ n : Channel, t.fec.drive[n].term = s.fec.drive[n].term) : LatchedAtMeg1 t :=
  fun n hn => (hd n).trans (h n (hl n hn))

/-- R40: an effect that leaves each latched channel at MEG1. -/
def KeepsLatched (f : State → State) : Prop := ∀ s, LatchedAtMeg1 s → LatchedAtMeg1 (f s)

theorem KeepsLatched.of_fec {f : State → State} (h : ∀ s, (f s).fec = s.fec) : KeepsLatched f := fun s hs => hs.of_fec (h s)

theorem KeepsLatched.of_rederives {f : State → State} (h : ∀ s, Rederives s (f s)) : KeepsLatched f :=
  fun s hs => (h s).latchedAtMeg1 hs

/-- A fold of such effects. -/
theorem KeepsLatched.foldl {α : Type} {f : State → α → State} (hf : ∀ x, KeepsLatched (fun s => f s x)) (xs : List α) :
    KeepsLatched (fun s => xs.foldl f s) := by
  intro s hs
  induction xs generalizing s with
  | nil => exact hs
  | cons x rest ih => exact ih (f s x) (hf x s hs)

/-! ### Requests that only answer -/

theorem statusOf_fec (tag : Byte) (p : List Byte) (s : State) : (statusOf tag p s).fec = s.fec := by
  unfold statusOf; split <;> rfl

theorem ackCondition_fec (c : Condition) (s : State) : (ackCondition c s).fec = s.fec := by
  unfold ackCondition; split <;> rfl

theorem foldl_ackCondition_fec (cs : List Condition) (s : State) :
    (cs.foldl (fun s c => ackCondition c s) s).fec = s.fec := by
  induction cs generalizing s with
  | nil => rfl
  | cons c rest ih => rw [List.foldl_cons, ih, ackCondition_fec]

theorem ackConditionsOf_fec (tag : Byte) (p : List Byte) (s : State) : (ackConditionsOf tag p s).fec = s.fec := by
  unfold ackConditionsOf
  split
  · rfl
  · split
    · rfl
    · exact foldl_ackCondition_fec _ s

theorem routeSetOf_fec (tag : Byte) (p : List Byte) (s : State) : (routeSetOf tag p s).fec = s.fec := by
  unfold routeSetOf; split <;> rfl

theorem getFieldsOf_fec (tag : Byte) (p : List Byte) (s : State) : (getFieldsOf tag p s).fec = s.fec := by
  unfold getFieldsOf
  split
  · rfl
  · split <;> rfl

theorem counterReadOf_fec (tag : Byte) (p : List Byte) (s : State) : (counterReadOf tag p s).fec = s.fec := by
  unfold counterReadOf; split <;> rfl

theorem segmentListOf_fec (tag : Byte) (p : List Byte) (s : State) : (segmentListOf tag p s).fec = s.fec := by
  unfold segmentListOf
  split
  · rfl
  · split <;> rfl

theorem pageQueryOf_fec (tag : Byte) (p : List Byte) (s : State) : (pageQueryOf tag p s).fec = s.fec := by
  unfold pageQueryOf; split <;> rfl

theorem peekOf_fec (tag : Byte) (p : List Byte) (s : State) : (peekOf tag p s).fec = s.fec := by
  unfold peekOf; split <;> rfl

theorem cursorReadOf_fec (tag : Byte) (p : List Byte) (s : State) : (cursorReadOf tag p s).fec = s.fec := by
  unfold cursorReadOf; split <;> rfl

theorem keyBindOf_fec (tag : Byte) (p : List Byte) (s : State) : (keyBindOf tag p s).fec = s.fec := by
  unfold keyBindOf; split <;> rfl

theorem encBindOf_fec (tag : Byte) (p : List Byte) (s : State) : (encBindOf tag p s).fec = s.fec := by
  unfold encBindOf
  split
  · rfl
  · split
    · split <;> rfl
    · rfl

theorem ledSetOf_fec (tag : Byte) (p : List Byte) (s : State) : (ledSetOf tag p s).fec = s.fec := by
  unfold ledSetOf; split <;> rfl

theorem panelLockOf_fec (tag : Byte) (p : List Byte) (s : State) : (panelLockOf tag p s).fec = s.fec := by
  unfold panelLockOf; split <;> rfl

theorem panelBlankOf_fec (tag : Byte) (p : List Byte) (s : State) : (panelBlankOf tag p s).fec = s.fec := by
  unfold panelBlankOf; split <;> rfl

theorem beepOf_fec (tag : Byte) (p : List Byte) (s : State) : (beepOf tag p s).fec = s.fec := by
  unfold beepOf; split <;> rfl

theorem startTransfer_fec (tag : Byte) (r : Resolved) (first count : Nat) (s : State) :
    (startTransfer tag r first count s).fec = s.fec := by
  have pinned : (pinSource r.source s).fec = s.fec := by
    unfold pinSource
    split
    · rw [pinSegment_only]
    · rw [pinRef_only]
  exact pinned

theorem xferStartOf_fec (tag : Byte) (p : List Byte) (s : State) : (xferStartOf tag p s).fec = s.fec := by
  unfold xferStartOf
  split
  · rfl
  · split
    · rfl
    · split
      · rfl
      · split
        · rfl
        · split
          · rfl
          · split
            · exact startTransfer_fec _ _ _ _ s
            · rfl

/-! ### The compositor -/

theorem executeOverlay_fec (r : OverlayRequest) (s : State) : (executeOverlay r s).fec = s.fec := by
  unfold executeOverlay
  split
  · rfl
  · split <;> rfl

theorem takeOverlay_fec (r : OverlayRequest) (s : State) : (takeOverlay r s).fec = s.fec := by
  unfold takeOverlay
  split
  · split <;> rfl
  · exact executeOverlay_fec r s

theorem drainHold_fec (rs : List OverlayRequest) (s : State) : (drainHold rs s).fec = s.fec := by
  induction rs generalizing s with
  | nil => rfl
  | cons r rest ih =>
    unfold drainHold
    dsimp only
    split
    · exact executeOverlay_fec r s
    · rw [ih, executeOverlay_fec]

theorem frameStarts_fec (s : State) : (frameStarts s).fec = s.fec := by
  have copied : ∀ t : State, (overlayCopy t).fec = t.fec := by
    intro t
    unfold overlayCopy
    split
    · exact drainHold_fec _ _
    · rfl
  unfold frameStarts
  dsimp only
  rw [copied]
  rfl

/-! ### Timers and indications -/

theorem holdoffEnds_fec (s : State) : (holdoffEnds s).fec = s.fec := by unfold holdoffEnds; split <;> rfl
theorem triggerPulseEnds_fec (s : State) : (triggerPulseEnds s).fec = s.fec := by unfold triggerPulseEnds; split <;> rfl
theorem indicationEnds_fec (s : State) : (indicationEnds s).fec = s.fec := by unfold indicationEnds; split <;> rfl
theorem beeperEnds_fec (s : State) : (beeperEnds s).fec = s.fec := by unfold beeperEnds; split <;> rfl

theorem gateEnds_fec (s : State) : (gateEnds s).fec = s.fec := by
  unfold gateEnds
  dsimp only
  split
  · rw [latchCondition_fec]; rfl
  · rfl

theorem decayExpires_fec (s : State) : (decayExpires s).fec = s.fec := by
  unfold decayExpires
  split
  · rfl
  · dsimp only
    split <;> rfl

/-! ### The link -/

theorem joinInbound_fec (f : LinkFrame) (s : State) : (joinInbound f s).fec = s.fec := by
  unfold joinInbound
  split
  · dsimp only
    split
    · rw [latchCondition_fec]
    · rfl
  · rw [latchCondition_fec]

theorem sendEnds_fec (bs : List Byte) (s : State) : (sendEnds bs s).fec = s.fec := by
  unfold sendEnds
  dsimp only
  split
  · rw [latchCondition_fec, beginTxn_fec]
  · rw [joinInbound_fec, beginTxn_fec]

theorem fetchClock_fec (n : Nat) (s : State) : (fetchClock n s).fec = s.fec := by unfold fetchClock; split <;> rfl

theorem fetchEvent_fec (e : FetchEvent) (s : State) : (fetchEvent e s).fec = s.fec := by
  cases e with
  | transaction n => exact fetchClock_fec n (fetchSelect s)
  | select => rfl
  | clock n => exact fetchClock_fec n s
  | csRise => rfl

/-! ### The setup store -/

theorem startPendingAutosave_fec (s : State) : (startPendingAutosave s).fec = s.fec := by
  unfold startPendingAutosave; split <;> rfl

theorem engineIdle_fec (s : State) : (engineIdle s).fec = s.fec := by
  unfold engineIdle
  split
  · rfl
  · exact startPendingAutosave_fec s

theorem endJob_fec (j : StoreJob) (o : StoreOutcome) (gen : Option Word32) (s : State) : (endJob j o gen s).fec = s.fec := by
  unfold endJob; rw [offer_fec]

theorem endWell_fec (j : StoreJob) (o : StoreOutcome) (gen : Option Word32) (s : State) : (endWell j o gen s).fec = s.fec := by
  unfold endWell; rw [endJob_fec]

theorem failJob_fec (j : StoreJob) (cause : StoreCause) (s : State) : (failJob j cause s).fec = s.fec := by
  have spoiled : (spoilArea j s).fec = s.fec := by cases j <;> rfl
  have marked : ∀ t : State, (markFailed j t).fec = t.fec := by intro t; unfold markFailed; split <;> rfl
  unfold failJob
  dsimp only
  rw [endJob_fec, latchCondition_fec]
  exact (marked _).trans spoiled

theorem verified_fec (j : StoreJob) (s : State) : (verified j s).fec = s.fec := by cases j <;> rfl

theorem eraseEnds_fec (s : State) : (eraseEnds s).fec = s.fec := by
  unfold eraseEnds
  split
  · rfl
  · split
    · dsimp only
      split <;> split <;> rfl
    · rfl

theorem programEnds_fec (s : State) : (programEnds s).fec = s.fec := by
  unfold programEnds
  split
  · rfl
  · split <;> rfl

theorem verifyEnds_fec (agrees : Bool) (s : State) : (verifyEnds agrees s).fec = s.fec := by
  unfold verifyEnds
  split
  · rfl
  · split
    · rw [engineIdle_fec]
      split
      · rw [endWell_fec, verified_fec]
      · exact failJob_fec _ _ s
    · rfl

theorem stepTimesOut_fec (s : State) : (stepTimesOut s).fec = s.fec := by
  unfold stepTimesOut
  split
  · rfl
  · rw [engineIdle_fec, failJob_fec, reach_fec]

theorem autosaveExpires_fec (s : State) : (autosaveExpires s).fec = s.fec := by
  unfold autosaveExpires
  split
  · rfl
  · dsimp only
    split <;> rfl

/-- R183: a store request that starts the engine as its `start` does. -/
theorem storeRequest_fec {start : State → State} (h : ∀ t, (start t).fec = t.fec) (code tag : Byte) (refusal : Option Status)
    (s : State) : (storeRequest code tag refusal start s).fec = s.fec := by
  unfold storeRequest
  split
  · rfl
  · split
    · rfl
    · rw [h]; rfl

theorem startSave_fec (n : Fin 11) (label : List Byte) (s : State) : (startSave n label s).fec = s.fec := rfl

theorem storeSaveOf_fec (tag : Byte) (p : List Byte) (s : State) : (storeSaveOf tag p s).fec = s.fec := by
  unfold storeSaveOf
  split
  · rfl
  · split
    · rfl
    · split
      · exact storeRequest_fec (startSave_fec _ _) _ _ _ s
      · rfl

theorem storeRecallOf_fec (tag : Byte) (p : List Byte) (s : State) : (storeRecallOf tag p s).fec = s.fec := by
  unfold storeRecallOf
  split
  · rfl
  · exact storeRequest_fec (startJob_fec _) _ _ _ s

theorem storeEraseOf_fec (tag : Byte) (p : List Byte) (s : State) : (storeEraseOf tag p s).fec = s.fec := by
  unfold storeEraseOf
  split
  · rfl
  · exact storeRequest_fec (startJob_fec _) _ _ _ s

theorem storeProtectOf_fec (tag : Byte) (p : List Byte) (s : State) : (storeProtectOf tag p s).fec = s.fec := by
  unfold storeProtectOf
  split
  · rfl
  · split
    · rfl
    · exact storeRequest_fec (startJob_fec _) _ _ _ s

theorem storePowerOnOf_fec (tag : Byte) (p : List Byte) (s : State) : (storePowerOnOf tag p s).fec = s.fec := by
  unfold storePowerOnOf
  split
  · rfl
  · exact storeRequest_fec (startJob_fec _) _ _ _ s

theorem calSaveOf_fec (tag : Byte) (p : List Byte) (s : State) : (calSaveOf tag p s).fec = s.fec := by
  unfold calSaveOf
  split
  · rfl
  · exact storeRequest_fec (startJob_fec _) _ _ _ s

theorem storeListOf_fec (tag : Byte) (p : List Byte) (s : State) : (storeListOf tag p s).fec = s.fec := by
  unfold storeListOf; split <;> rfl

/-- R190: an owner of a store request keeps FEC where its request does. -/
theorem storeOwner_fec {owner : State → State} (h : ∀ t, (owner t).fec = t.fec) (s : State) : (storeOwner owner s).fec = s.fec := by
  unfold storeOwner; rw [startPendingAutosave_fec, h]

/-! ### The panel's reports -/

theorem offerItem_fec (i : PanelItem) (s : State) : (offerItem i s).fec = s.fec := by
  unfold offerItem; split <;> rw [offer_fec]

theorem offerOldest_fec (s : State) : (offerOldest s).fec = s.fec := by
  unfold offerOldest
  split
  · split
    · rfl
    · exact offerItem_fec _ s
  · rfl

theorem offerWaiting_fec (fuel : Nat) (s : State) : (offerWaiting fuel s).fec = s.fec := by
  induction fuel generalizing s with
  | zero => rfl
  | succ f ih => unfold offerWaiting; rw [ih, offerOldest_fec]

theorem drainPanel_fec (s : State) : (drainPanel s).fec = s.fec := offerWaiting_fec _ s

theorem pushEvent_fec (key : Nat) (kind : KeyKind) (d : Disposition) (s : State) : (pushEvent key kind d s).fec = s.fec := by
  unfold pushEvent
  split
  · rw [drainPanel_fec]
  · rw [latchCondition_fec]

theorem keyClick_fec (s : State) : (keyClick s).fec = s.fec := by
  unfold keyClick
  split
  · split
    · rfl
    · split <;> rfl
  · rfl

theorem laterEvent_fec (k : Fin 64) (kind : KeyKind) (s : State) : (laterEvent k kind s).fec = s.fec := by
  unfold laterEvent
  split
  · rfl
  · exact pushEvent_fec _ _ _ s

theorem makeHold_fec (k : Fin 64) (s : State) : (makeHold k s).fec = s.fec := by
  unfold makeHold
  split
  · rw [laterEvent_fec]; rfl
  · rfl

theorem forwardDetent_fec (e : Fin 12) (v : Int) (s : State) : (forwardDetent e v s).fec = s.fec := by
  unfold forwardDetent
  dsimp only
  split
  · rw [noteUpdate_fec]
  · rw [drainPanel_fec]

theorem foldl_makeHold_fec (ks : List (Fin 64)) (s : State) : (ks.foldl (fun s m => makeHold m s) s).fec = s.fec := by
  induction ks generalizing s with
  | nil => rfl
  | cons k rest ih => rw [List.foldl_cons, ih, makeHold_fec]

theorem holdReached_fec (k : Fin 64) (s : State) : (holdReached k s).fec = s.fec := by
  unfold holdReached
  split
  · rfl
  · split
    · rfl
    · rw [foldl_makeHold_fec, reach_fec]

/-! ### Latches and relays -/

/-- R41: a trip latches its channel and drives its relay to MEG1. -/
theorem setProtect_keepsLatched (ch : Channel) : KeepsLatched (setProtect ch) := by
  intro s hs n hn
  by_cases h : n = ch
  · subst h; simp [setProtect, vmod]
  · have hv : ch.val ≠ n.val := fun e => h (Fin.ext e.symm)
    simp only [setProtect, vmod, Fin.getElem_fin, Vector.getElem_set_ne _ _ hv] at hn ⊢
    exact hs n hn

/-- R41 steps 1 to 3. -/
theorem tripProtect_keepsLatched (ch : Channel) : KeepsLatched (tripProtect ch) := by
  intro s hs
  have protect := setProtect_keepsLatched ch s hs
  have settled := (extendSettle_rederives (5 * oneMs) (setProtect ch s)).latchedAtMeg1 protect
  exact settled.of_fec (by simp [tripProtect])

/-- R41: a trip of a channel. -/
theorem tripChannel_keepsLatched (ch : Channel) : KeepsLatched (tripChannel ch) := by
  intro s hs
  have tripped := tripProtect_keepsLatched ch s hs
  unfold tripChannel
  dsimp only
  refine (acqTrip_rederives _).latchedAtMeg1 (tripped.of_fec ?_)
  split <;> rfl

/-- R41: the trips after a derivation of the drive states. -/
theorem checkTrips_keepsLatched : KeepsLatched checkTrips := by
  refine KeepsLatched.foldl (fun n s hs => ?_) channels
  dsimp only
  split
  · exact tripChannel_keepsLatched n s hs
  · exact hs

/-- R41: an overload sense that becomes active. -/
theorem senseActive_keepsLatched (ch : Channel) : KeepsLatched (senseActive ch) := by
  intro s hs
  have sensed : LatchedAtMeg1 { s with fec := { s.fec with sense := s.fec.sense.set ch true } } := hs
  unfold senseActive
  dsimp only
  split
  · exact tripChannel_keepsLatched ch _ sensed
  · exact sensed

/-- R42, R43: a latch that is cleared. -/
theorem clearLatch_keepsLatched (ch : Channel) : KeepsLatched (clearLatch ch) := by
  intro s hs
  refine hs.of_fewer (fun n hn => ?_) (fun _ => rfl)
  by_cases h : n = ch
  · subst h; simp at hn
  · have hv : ch.val ≠ n.val := fun e => h (Fin.ext e.symm)
    simpa [Vector.getElem_set_ne _ _ hv] using hn

/-- R43: the latches that a change set clears. -/
theorem clearWrittenLatches_keepsLatched (written : List Nat) : KeepsLatched (clearWrittenLatches written) := by
  refine KeepsLatched.foldl (fun n s hs => ?_) channels
  dsimp only
  split
  · exact clearLatch_keepsLatched n s hs
  · exact hs

/-- R42: CLEAR_PROTECT on a channel. -/
theorem clearProtectChannel_keepsLatched (ch : Channel) : KeepsLatched (clearProtectChannel ch) := by
  intro s hs
  have cleared := clearLatch_keepsLatched ch s hs
  unfold clearProtectChannel
  dsimp only
  split
  · exact cleared
  · exact ((deriveDrives_rederives _).trans ((extendSettle_rederives _ _).trans (captureChange_rederives _))).latchedAtMeg1 cleared

/-- R34: calibration drives every relay to MEG1. -/
theorem calStarts_keepsLatched : KeepsLatched calStarts := by
  intro s _ n _
  unfold calStarts reportAcq
  dsimp only
  rw [offer_fec, setAcq_fec, applyDrives_drive]
  simp [calDrive]

/-- R39: the end of the procedure. -/
theorem calEnds_keepsLatched (o : CalOutcome) (f : Option CalFailure) (cause : AcqCause) : KeepsLatched (calEnds o f cause) := by
  intro s hs
  have idle : LatchedAtMeg1 { s with fec := { s.fec with calStep := none, calSum := 0, calCodes := 0 } } := hs
  exact checkTrips_keepsLatched _
    (((deriveDrives_rederives _).trans ((offer_rederives _ _).trans (enterStopped_rederives cause _))).latchedAtMeg1 idle)

/-- R35: a step of calibration moves no relay. -/
theorem setCalScale_keepsLatched (k : Fin 52) : KeepsLatched (setCalScale k) := by
  intro s hs
  unfold setCalScale
  refine hs.of_fewer (fun n hn => ?_) (fun n => ?_)
  · rwa [applyDrives_fec] at hn
  · rw [applyDrives_drive]
    simp only [vmod, Fin.getElem_fin, Vector.getElem_set]
    split
    · rename_i h; simp [h]
    · rfl

/-- R35 to R37: the end of a calibration step. -/
theorem calStepEnds_keepsLatched (sum : Nat) : KeepsLatched (calStepEnds sum) := by
  intro s hs
  unfold calStepEnds
  split
  · exact hs
  · dsimp only
    split
    · exact hs
    · split
      · exact calEnds_keepsLatched _ _ _ s hs
      · split
        · exact setCalScale_keepsLatched _ _ hs
        · exact calEnds_keepsLatched _ _ _ _ hs

/-- R44: the loss of the sample clock. -/
theorem lockLost_keepsLatched : KeepsLatched lockLost := by
  intro s hs
  have latched : LatchedAtMeg1
      (latchCondition .clockFault (.acqState s.acq.state) { s with fec := { s.fec with locked := false } }) := by
    refine LatchedAtMeg1.of_fec (s := { s with fec := { s.fec with locked := false } }) hs ?_
    rw [latchCondition_fec]
  unfold lockLost
  refine (endRun_rederives _ _).latchedAtMeg1 ?_
  dsimp only
  split
  · exact calEnds_keepsLatched _ _ _ _ latched
  · exact latched

/-! ### TRG and ACQ -/

/-- R47: the taking of settings. -/
theorem takeSettings_keepsLatched : KeepsLatched takeSettings :=
  fun s hs => (takeSettings_rederives s).latchedAtMeg1 (hs.of_fec rfl)

/-- R106, R107: the completion of a segment. -/
theorem complete_keepsLatched (c : Capture) : KeepsLatched (complete c) := by
  intro s hs
  have recorded : LatchedAtMeg1 (recordCompletion c s) := by
    unfold recordCompletion
    refine LatchedAtMeg1.of_fec (s := leavePhase _) ?_ rfl
    exact (leavePhase_rederives _).latchedAtMeg1 (hs.of_fec rfl)
  have queued : LatchedAtMeg1 (queueForRender c.seq (recordCompletion c s)) := by
    unfold queueForRender
    split
    · exact recorded
    · exact (renderArrival_rederives _ _).latchedAtMeg1 recorded
  have notified : LatchedAtMeg1 (notifySegment c (queueForRender c.seq (recordCompletion c s))) := by
    unfold notifySegment
    split
    · exact queued.of_fec (offer_fec _ _)
    · exact queued
  unfold complete endOrRearm
  split
  · exact (enterStopped_rederives _ _).latchedAtMeg1 notified
  · split
    · exact (enterStopped_rederives _ _).latchedAtMeg1 notified
    · exact (arming_rederives _).latchedAtMeg1 notified

theorem completeIfFull_keepsLatched : KeepsLatched completeIfFull := by
  intro s hs
  unfold completeIfFull
  split
  · split
    · exact complete_keepsLatched _ s hs
    · exact hs
  · exact hs

/-- R59: a forced trigger. -/
theorem forceTrigger_fec (s : State) : (forceTrigger s).fec = s.fec := rfl

/-- R54: an accepted trigger. -/
theorem acceptTrigger_fec (s : State) : (acceptTrigger s).fec = s.fec := by
  have holdoff : (startHoldoff (stopAutoWait s)).fec = s.fec := by unfold startHoldoff; split <;> rfl
  exact holdoff

theorem readyIfFilled_keepsLatched : KeepsLatched readyIfFilled := by
  intro s hs
  unfold readyIfFilled
  split
  · split
    · exact completeIfFull_keepsLatched _ ((enterReady_rederives s).latchedAtMeg1 hs)
    · exact hs
  · exact hs

theorem storeCodes_fec (c : Capture) (q : Nat) (codes : Vector Byte 4) (s : State) : (storeCodes c q codes s).fec = s.fec := by
  unfold storeCodes; split <;> rfl

/-- R101 to R105: ACQ's part of a sample-clock instant. -/
theorem acqInstant_keepsLatched (codes : Vector Byte 4) : KeepsLatched (acqInstant codes) := by
  intro s hs
  unfold acqInstant
  split
  · exact hs
  · split
    · split
      · exact hs.of_fec rfl
      · exact completeIfFull_keepsLatched _ (readyIfFilled_keepsLatched _ (hs.of_fec (storeCodes_fec _ _ _ s)))
    · exact hs.of_fec rfl

theorem acqInstants_keepsLatched (codes : Vector Byte 4) : KeepsLatched (acqInstants codes) := by
  intro s hs
  have first := acqInstant_keepsLatched codes s hs
  unfold acqInstants
  dsimp only
  split
  · exact acqInstant_keepsLatched codes _ first
  · exact first

/-- R48 to R53: the comparator is TRG's. -/
theorem comparatorStep_only (code : Nat) (ext : Bool) (s : State) :
    (comparatorStep code ext s).1 = { s with trg := (comparatorStep code ext s).1.trg } := by
  unfold comparatorStep
  dsimp only
  split
  · rfl
  · split <;> rfl

/-- R35: a calibration step sums codes and nothing else. -/
theorem sumCodes_latched {s : State} (hs : LatchedAtMeg1 s) (raw : Vector Byte 4) : LatchedAtMeg1 (sumCodes raw s) := by
  unfold sumCodes
  split
  · exact hs
  · split
    · exact hs
    · exact hs

/-- R48 to R54, R101 to R106: one sample-clock instant. -/
theorem sampleInstant_keepsLatched (raw : Vector Byte 4) (ext : Bool) : KeepsLatched (sampleInstant raw ext) := by
  intro s hs
  unfold sampleInstant
  dsimp only
  refine acqInstants_keepsLatched _ _ ?_
  have compared : LatchedAtMeg1 (comparatorStep (sourceCode (correctedCodes raw s) s) ext (sumCodes raw s)).1 := by
    rw [comparatorStep_only]; exact sumCodes_latched hs raw
  unfold offerEvent
  split
  · exact completeIfFull_keepsLatched _ (compared.of_fec (acceptTrigger_fec _))
  · exact compared

theorem autoWaitExpires_keepsLatched : KeepsLatched autoWaitExpires := by
  intro s hs
  unfold autoWaitExpires
  split
  · exact hs
  · dsimp only
    split
    · exact completeIfFull_keepsLatched _ (hs.of_fec rfl)
    · exact hs

theorem settleExpires_keepsLatched : KeepsLatched settleExpires := by
  intro s hs
  unfold settleExpires
  split
  · exact hs
  · dsimp only
    split
    · exact (requestAllocation_rederives _).latchedAtMeg1 hs
    · exact hs

/-- R92: the start of a run. -/
theorem runStarts_keepsLatched (single : Bool) : KeepsLatched (runStarts single) := by
  intro s hs
  unfold runStarts
  dsimp only
  refine (reportAcq_rederives _ _ _).latchedAtMeg1 ((arming_rederives _).latchedAtMeg1 ?_)
  exact ((emptyQueue_rederives none _).trans (runRestart_rederives _)).latchedAtMeg1 (hs.of_fec rfl)

theorem takeRun_keepsLatched : KeepsLatched (fun s => (takeRun s).1) := by
  intro s hs
  show LatchedAtMeg1 (takeRun s).1
  unfold takeRun
  split
  · split
    · exact runStarts_keepsLatched _ s hs
    · exact hs
  · exact hs
  · exact hs

theorem takeSingle_keepsLatched : KeepsLatched (fun s => (takeSingle s).1) := by
  intro s hs
  show LatchedAtMeg1 (takeSingle s).1
  unfold takeSingle
  split
  · split
    · exact runStarts_keepsLatched _ s hs
    · exact hs
  · exact hs
  · exact hs

theorem takeStop_keepsLatched : KeepsLatched takeStop := by
  intro s hs
  unfold takeStop
  split
  · exact calEnds_keepsLatched _ _ _ s hs
  · exact (endRun_rederives _ s).latchedAtMeg1 hs

theorem takeForce_keepsLatched : KeepsLatched (fun s => (takeForce s).1) := by
  intro s hs
  show LatchedAtMeg1 (takeForce s).1
  unfold takeForce
  split
  · exact completeIfFull_keepsLatched _ (hs.of_fec (forceTrigger_fec s))
  · exact hs
  · exact hs

/-- A request without arguments keeps what its effect keeps. -/
theorem plainRequest_keepsLatched {f : State → State × Status} (h : KeepsLatched (fun s => (f s).1)) (code tag : Byte)
    (p : List Byte) : KeepsLatched (plainRequest code tag p f) := by
  intro s hs
  unfold plainRequest
  split
  · exact hs
  · exact (h s hs).of_fec rfl

/-! ### Change sets -/

theorem triggerChange_keepsLatched : KeepsLatched triggerChange := by
  intro s hs
  unfold triggerChange
  split
  · exact hs
  · exact hs
  · exact takeSettings_keepsLatched s hs

/-- R28, R43, R41: what FEC makes of a change set. -/
theorem fecChange_keepsLatched (written : List Nat) : KeepsLatched (fecChange written) :=
  fun s hs => checkTrips_keepsLatched _
    ((deriveDrives_rederives _).latchedAtMeg1 (clearWrittenLatches_keepsLatched written s hs))

theorem decayChange_fec (ids : List Nat) (s : State) : (decayChange ids s).fec = s.fec := by
  unfold decayChange
  dsimp only
  split
  · split <;> rfl
  · split <;> rfl

/-- An effect that is taken in one case alone. -/
theorem KeepsLatched.ite {f : State → State} (h : KeepsLatched f) (b : Bool) : KeepsLatched (fun s => if b = true then f s else s) := by
  intro s hs
  cases b with
  | false => exact hs
  | true => exact h s hs

/-- R7 step 1: the handing over of changed fields. -/
theorem handOver_keepsLatched (written ids : List Nat) : KeepsLatched (handOver written ids) := by
  intro s hs
  have fec := (fecChange_keepsLatched written).ite (changesClass .capture ids || ids.contains 96) s hs
  have trigger := triggerChange_keepsLatched.ite (changesClass .trigger ids) _ fec
  have aux := (KeepsLatched.of_fec auxChange_fec).ite (ids.contains 106) _ trigger
  have capture := (KeepsLatched.of_rederives captureChange_rederives).ite (changesClass .capture ids) _ aux
  have decay := KeepsLatched.of_fec (decayChange_fec ids) _ capture
  exact (KeepsLatched.of_rederives setRedraw_rederives).ite (redrawCause ids) _ decay

theorem changeReports_fec (cs : ChangeSet) (ids : List Nat) (s : State) : (changeReports cs ids s).fec = s.fec := by
  unfold changeReports
  split
  · rfl
  · exact offerAll_fec _ s
  · exact offerAll_fec _ s
  · exact offer_fec _ s
  · exact offer_fec _ s

/-- R7: the taking of a change set. -/
theorem takeChangeSet_keepsLatched (cs : ChangeSet) : KeepsLatched (takeChangeSet cs) := by
  intro s hs
  unfold takeChangeSet
  dsimp only
  split
  · exact hs
  · refine LatchedAtMeg1.of_fec (handOver_keepsLatched _ _ _ ?_) (changeReports_fec cs _ _)
    split
    · exact (moveViewPin_rederives _).latchedAtMeg1 (hs.of_fec rfl)
    · exact hs

theorem setFieldsOf_keepsLatched (tag : Byte) (p : List Byte) : KeepsLatched (setFieldsOf tag p) := by
  intro s hs
  unfold setFieldsOf
  split
  · exact hs
  · split
    · exact hs
    · exact (takeChangeSet_keepsLatched _ s hs).of_fec rfl

theorem defaultSetupOf_keepsLatched (tag : Byte) (p : List Byte) : KeepsLatched (defaultSetupOf tag p) := by
  intro s hs
  unfold defaultSetupOf
  split
  · exact hs
  · exact (takeChangeSet_keepsLatched _ s hs).of_fec rfl

theorem takeViewFallback_keepsLatched : KeepsLatched takeViewFallback := by
  intro s hs
  unfold takeViewFallback
  split
  · exact hs
  · dsimp only
    split
    · exact takeChangeSet_keepsLatched _ _ hs
    · exact hs

theorem takeMemoryCorrection_keepsLatched : KeepsLatched takeMemoryCorrection := by
  intro s hs
  unfold takeMemoryCorrection
  split
  · exact hs
  · split
    · exact hs
    · split
      · exact (startMove_rederives _ _).latchedAtMeg1 (takeChangeSet_keepsLatched _ s hs)
      · exact hs

theorem takeRelativeEdit_keepsLatched (id : Nat) (up : Bool) (m : Nat) : KeepsLatched (takeRelativeEdit id up m) := by
  intro s hs
  unfold takeRelativeEdit
  split
  · exact takeChangeSet_keepsLatched _ s hs
  · exact hs

/-- R185: what a recall makes of its image. -/
theorem readEnds_keepsLatched : KeepsLatched readEnds := by
  intro s hs
  have recalled : ∀ n, LatchedAtMeg1 (recallRead n s) := by
    intro n
    unfold recallRead
    dsimp only
    split
    · split
      · exact (takeChangeSet_keepsLatched _ _ (hs.of_fec (setDir_fec _ _ s))).of_fec (endWell_fec _ _ _ _)
      · exact hs.of_fec (endWell_fec _ _ _ _)
    · exact hs.of_fec (endWell_fec _ _ _ _)
    · exact hs.of_fec (endWell_fec _ _ _ _)
  unfold readEnds
  split
  · exact hs
  · split
    · exact (recalled _).of_fec (engineIdle_fec _)
    · exact hs

/-! ### The panel's actions -/

theorem localAction_keepsLatched (a : LocalAction) : KeepsLatched (localAction a) := by
  intro s hs
  cases a with
  | runStop =>
    show LatchedAtMeg1 (runStopKey s)
    unfold runStopKey
    split
    · exact takeRun_keepsLatched s hs
    · exact takeStop_keepsLatched s hs
  | single => exact takeSingle_keepsLatched s hs
  | force => exact takeForce_keepsLatched s hs
  | clearPersist => exact (setRedraw_rederives s).latchedAtMeg1 hs
  | channelToggle n => exact takeChangeSet_keepsLatched _ s hs
  | fieldDefault e =>
    unfold localAction
    dsimp only
    split
    · exact takeChangeSet_keepsLatched _ s hs
    · exact hs
  | localRelease =>
    unfold localAction
    dsimp only
    split <;> exact hs
  | defaultSetup => exact takeChangeSet_keepsLatched _ s hs

theorem pressAction_keepsLatched (d : Disposition) (b : KeyBinding) : KeepsLatched (pressAction d b) := by
  intro s hs
  have clicked : LatchedAtMeg1 (keyClick s) := hs.of_fec (keyClick_fec s)
  unfold pressAction
  split
  · exact hs
  · exact clicked
  · exact clicked
  · split
    · exact localAction_keepsLatched _ _ clicked
    · exact clicked

theorem keyPressed_keepsLatched (k : Fin 64) : KeepsLatched (keyPressed k) := by
  intro s hs
  unfold keyPressed
  dsimp only
  split
  · exact hs.of_fec rfl
  · refine LatchedAtMeg1.of_fec ?_ (pushEvent_fec _ _ _ _)
    exact pressAction_keepsLatched _ _ _ (hs.of_fec rfl)

theorem keyReleased_fec (k : Fin 64) (s : State) : (keyReleased k s).fec = s.fec := by
  unfold keyReleased; rw [laterEvent_fec, clearHold_fec]

theorem scanKey_keepsLatched (k : Fin 64) (down : Bool) : KeepsLatched (scanKey k down) := by
  intro s hs
  unfold scanKey
  dsimp only
  split
  · exact hs.of_fec rfl
  · split
    · exact hs.of_fec rfl
    · split
      · exact keyPressed_keepsLatched k _ (hs.of_fec rfl)
      · exact hs.of_fec (keyReleased_fec k _)

theorem makeHold_keepsLatched (k : Fin 64) : KeepsLatched (makeHold k) := .of_fec (makeHold_fec k)

theorem slotKey_keepsLatched (t : Instant) (r : Fin 8) (contacts : Byte) (k : Fin 64) : KeepsLatched (slotKey t r contacts k) := by
  intro s hs
  have taken : LatchedAtMeg1 (if s.pnl.keys[k].hold = some t ∧ s.pnl.keys[k].holdTaken = true then makeHold k s else s) := by
    split
    · exact makeHold_keepsLatched k s hs
    · exact hs
  have scanned : ∀ u, LatchedAtMeg1 u →
      LatchedAtMeg1 (if rowOfKey k = r then scanKey k (contacts.getLsbD (k.val % 8)) u else u) := by
    intro u hu
    split
    · exact scanKey_keepsLatched k _ u hu
    · exact hu
  have left : ∀ u, LatchedAtMeg1 u → LatchedAtMeg1 (if u.pnl.keys[k].hold = some t then makeHold k u else u) := by
    intro u hu
    split
    · exact makeHold_keepsLatched k u hu
    · exact hu
  exact left _ (scanned _ taken)

theorem detent_keepsLatched (e : Fin 12) (up : Bool) : KeepsLatched (detent e up) := by
  intro s hs
  unfold detent
  dsimp only
  split
  · exact hs.of_fec (pushEvent_fec _ _ _ _)
  · split
    · exact hs
    · split
      · split
        · exact hs
        · exact takeRelativeEdit_keepsLatched _ _ _ _ hs
      · exact hs.of_fec (forwardDetent_fec _ _ _)

theorem sampleEncoder_keepsLatched (e : Fin 12) (pair : Bool × Bool) : KeepsLatched (sampleEncoder e pair) := by
  intro s hs
  unfold sampleEncoder
  dsimp only
  split
  · exact hs
  · split
    · exact detent_keepsLatched _ _ _ hs
    · split
      · exact detent_keepsLatched _ _ _ hs
      · exact hs

theorem turnAt_keepsLatched (lines : Option (BitVec 12 × BitVec 12)) (k : Fin 64) : KeepsLatched (turnAt lines k) := by
  intro s hs
  unfold turnAt
  split
  · exact hs
  · split
    · exact sampleEncoder_keepsLatched _ _ s hs
    · exact hs

theorem runSlot_keepsLatched (contacts : Byte) : KeepsLatched (runSlot contacts) := by
  intro s hs
  have keys : LatchedAtMeg1 (slotKeys s.pnl.rowNext s.pnl.row contacts s.pnl.lines (reach s.pnl.rowNext s)) :=
    KeepsLatched.foldl (f := fun s k => turnAt _ k (slotKey _ _ contacts k s))
      (fun k t ht => turnAt_keepsLatched _ k _ (slotKey_keepsLatched _ _ contacts k t ht)) allKeys _ (hs.of_fec rfl)
  exact keys.of_fec rfl

theorem settleSlot_keepsLatched : KeepsLatched settleSlot := by
  intro s hs
  unfold settleSlot
  split
  · exact hs
  · exact runSlot_keepsLatched _ _ hs

theorem rowSlot_keepsLatched (contacts : Byte) : KeepsLatched (rowSlot contacts) := by
  intro s hs
  have settled := settleSlot_keepsLatched s hs
  unfold rowSlot
  dsimp only
  split
  · exact settled
  · exact runSlot_keepsLatched _ _ settled

theorem sampleAll_keepsLatched (a b : BitVec 12) : KeepsLatched (sampleAll a b) :=
  KeepsLatched.foldl (f := fun s e => sampleEncoder e (a.getLsbD e.val, b.getLsbD e.val) s)
    (fun e => sampleEncoder_keepsLatched e _) encoders

theorem settleLines_keepsLatched : KeepsLatched settleLines := by
  intro s hs
  unfold settleLines
  split
  · exact hs
  · exact sampleAll_keepsLatched _ _ _ hs

theorem encoderSamples_keepsLatched (a b : BitVec 12) : KeepsLatched (encoderSamples a b) := by
  intro s hs
  have next : LatchedAtMeg1 (nextSample (settleLines s)) := (settleLines_keepsLatched s hs).of_fec rfl
  unfold encoderSamples
  dsimp only
  split
  · exact settleSlot_keepsLatched _ next
  · exact sampleAll_keepsLatched _ _ _ next

/-! ### Requests that move relays -/

theorem calibrateOf_keepsLatched (tag : Byte) (p : List Byte) : KeepsLatched (calibrateOf tag p) := by
  intro s hs
  unfold calibrateOf
  split
  · exact hs
  · split
    · exact hs
    · split
      · exact hs
      · split
        · exact calStarts_keepsLatched _ hs
        · exact hs

theorem clearProtectOf_keepsLatched (tag : Byte) (p : List Byte) : KeepsLatched (clearProtectOf tag p) := by
  intro s hs
  unfold clearProtectOf
  split
  · exact hs
  · split
    · exact hs
    · split
      · split
        · exact hs
        · exact (clearProtectChannel_keepsLatched _ s hs).of_fec rfl
      · exact hs

theorem saveRefAccepted_keepsLatched (tag : Byte) (n : Fin 4) (ch : Channel) (r : SegRec) :
    KeepsLatched (saveRefAccepted tag n ch r) := by
  intro s hs
  have pinned := (pinSegment_rederives .copy r.seq s).latchedAtMeg1 hs
  unfold saveRefAccepted
  dsimp only
  split
  · exact pinned
  · exact (startMove_rederives _ _).latchedAtMeg1 pinned

theorem saveRefOf_keepsLatched (tag : Byte) (p : List Byte) : KeepsLatched (saveRefOf tag p) := by
  intro s hs
  unfold saveRefOf
  split
  · exact hs
  · split
    · split
      · exact hs
      · split
        · exact hs
        · split
          · exact hs
          · split
            · exact hs
            · split
              · exact hs
              · split
                · exact hs
                · exact saveRefAccepted_keepsLatched _ _ _ _ s hs
    · exact hs

theorem clearRefOf_keepsLatched (tag : Byte) (p : List Byte) : KeepsLatched (clearRefOf tag p) := by
  intro s hs
  unfold clearRefOf
  split
  · exact hs
  · split
    · exact hs
    · split
      · exact hs
      · exact hs
      · exact ((clearRefSlot_rederives _ s).latchedAtMeg1 hs).of_fec rfl

theorem clearPersistOf_keepsLatched (tag : Byte) (p : List Byte) : KeepsLatched (clearPersistOf tag p) := by
  intro s hs
  unfold clearPersistOf
  split
  · exact hs
  · exact ((setRedraw_rederives s).latchedAtMeg1 hs).of_fec rfl

/-! ### The transfer engine -/

theorem xferAbortOf_keepsLatched (tag : Byte) (p : List Byte) : KeepsLatched (xferAbortOf tag p) := by
  intro s hs
  unfold xferAbortOf
  split
  · exact hs
  · split
    · exact hs
    · exact hs
    · split
      · unfold abortTransfer
        split
        · exact hs
        · exact (enterEnding_rederives _ _ _).latchedAtMeg1 hs
        · exact hs
        · exact hs
      · exact hs

theorem chunkReadEnds_keepsLatched : KeepsLatched chunkReadEnds := by
  intro s hs
  unfold chunkReadEnds
  split
  · split
    · exact (enterEnding_rederives _ _ _).latchedAtMeg1 hs
    · exact hs
  · exact hs

theorem dataOffered_keepsLatched : KeepsLatched dataOffered := by
  intro s hs
  unfold dataOffered
  split
  · split
    · rename_i c k _ _ _ _
      have queued : LatchedAtMeg1 (offer (.data c.id k.offset k.samples) { s with xfr := { s.xfr with
          chunk := none
          ctx := some { c with queued := c.queued + k.samples.length, next := k.offset + k.samples.length } } }) :=
        hs.of_fec (offer_fec _ _)
      unfold chunkQueued
      dsimp only
      split
      · exact (enterEnding_rederives _ _ _).latchedAtMeg1 queued
      · exact queued.of_fec rfl
    · exact hs
  · exact hs

theorem xferEnds_fec (s : State) : (xferEnds s).fec = s.fec := by
  unfold xferEnds
  split
  · split
    · rw [offer_fec]
    · rfl
  · rfl

/-! ### Resets and start-up -/

/-- R45, R217: a reset clears every latch. -/
theorem resetAll_latched (cause : ResetCause) (held : Bool) (txn : Option FetchTxn) (miso : List Byte) (s : State) :
    LatchedAtMeg1 (resetAll cause held txn miso s) := by
  intro n hn
  simp [resetAll, fecReset] at hn

theorem noteUnanswered_fec (a : FlashArea) (un : List FlashArea) (s : State) : (noteUnanswered a un s).fec = s.fec := by
  unfold noteUnanswered; split <;> rfl

theorem startCal_keepsLatched (un : List FlashArea) : KeepsLatched (startCal un) := by
  intro s hs
  unfold startCal
  dsimp only
  split
  · refine hs.of_fewer (fun n hn => ?_) (fun n => ?_) <;> simp_all [noteUnanswered_fec]
  · refine hs.of_fewer (fun n hn => ?_) (fun n => ?_) <;> simp_all [noteUnanswered_fec]

theorem startStore_fec (un : List FlashArea) (s : State) : (startStore un s).fec = s.fec := by
  unfold startStore
  dsimp only
  rw [noteUnanswered_fec, noteUnanswered_fec]

theorem startSetup_fec (img : Option (Fin 11 × List Int)) (s : State) : (startSetup img s).fec = s.fec := by
  unfold startSetup; split <;> rfl

theorem startMonitor_keepsLatched : KeepsLatched startMonitor := by
  intro s hs
  unfold startMonitor
  dsimp only
  split
  · exact hs
  · exact LatchedAtMeg1.of_fec (s := { s with fec := { s.fec with locked := s.fec.lockPin } }) hs (latchCondition_fec _ _ _)

/-- R45, R65: step 5 of start-up, with its trips. -/
theorem startFrontEnd_keepsLatched : KeepsLatched startFrontEnd := by
  intro s hs
  have monitored : LatchedAtMeg1 (startMonitor (startTrigger s)) := startMonitor_keepsLatched _ (hs.of_fec rfl)
  have trips : KeepsLatched startTrips := by
    refine KeepsLatched.foldl (fun n t ht => ?_) channels
    dsimp only
    split
    · exact tripProtect_keepsLatched n t ht
    · exact ht
  exact trips _ ((deriveDrives_rederives _).latchedAtMeg1 monitored)

theorem queueReady_fec (src : SetupSource) (s : State) : (queueReady src s).fec = s.fec := by
  unfold queueReady; rw [offerAll_fec]; rfl

theorem endLatches_fec (s : State) : (endLatches s).fec = s.fec := by
  have first : (if s.mem.bad.isEmpty then s else latchCondition .memReduced (.pages s.mem.bad.length) s).fec = s.fec := by
    split
    · rfl
    · exact latchCondition_fec _ _ s
  have second : ∀ t : State, (if t.fec.tableValid then t else latchCondition .calInvalid .startUp t).fec = t.fec := by
    intro t
    split
    · rfl
    · exact latchCondition_fec _ _ t
  have third : ∀ t : State, (if t.sto.fault then latchCondition .storeFault .storeStartUp t else t).fec = t.fec := by
    intro t
    split
    · exact latchCondition_fec _ _ t
    · rfl
  unfold endLatches
  dsimp only
  rw [third, second, first]

/-- R218: what start-up makes of the tables of the flash. -/
theorem startTables_keepsLatched (failing : List Nat) (un : List FlashArea) :
    KeepsLatched (fun s => startStore un (startCal un (startMem failing s))) := by
  intro s hs
  have cal : LatchedAtMeg1 (startCal un (startMem failing s)) := startCal_keepsLatched un _ (hs.of_fec rfl)
  exact cal.of_fec (startStore_fec un _)

theorem startPanel_fec (s : State) : (startPanel s).fec = s.fec := rfl

theorem startDisplay_rederives (s : State) : Rederives s (startDisplay s) := (selectPass_rederives _).after rfl

/-- R218: start-up. -/
theorem startsUp_keepsLatched (failing : List Nat) (un : List FlashArea) : KeepsLatched (startsUp failing un) := by
  intro s hs
  have tables := startTables_keepsLatched failing un s hs
  unfold startsUp
  dsimp only at tables ⊢
  generalize startStore un (startCal un (startMem failing s)) = s1 at tables ⊢
  have front := startFrontEnd_keepsLatched _ (tables.of_fec (startSetup_fec (powerOnImage un s1) s1))
  have display := (startDisplay_rederives _).latchedAtMeg1 front
  exact display.of_fec ((endLatches_fec _).trans ((queueReady_fec _ _).trans (startPanel_fec _)))

/-! ### The commands -/

/-- R208: a request keeps the law where its owner does. -/
theorem request_latched {type tag : Byte} {p : List Byte} {owner : State → State} (ho : KeepsLatched owner) {s t : State}
    (hs : LatchedAtMeg1 s) (h : request type tag p owner s = .next t) : LatchedAtMeg1 t := by
  by_cases hc : CanTake type tag p s
  · rw [request_of_canTake type tag p owner s hc] at h
    cases h
    exact ho _ (hs.of_fec (handed_fec s))
  · rw [request_of_not_canTake type tag p owner s hc] at h
    cases h
    exact hs

/-- An event keeps the law where its effect does. -/
theorem whenUp_latched {f : State → State} (hf : KeepsLatched f) {s t : State} (hs : LatchedAtMeg1 s)
    (h : whenUp f s = .next t) : LatchedAtMeg1 t := by
  unfold whenUp at h
  split at h
  · cases h; exact hs
  · cases h; exact hf s hs

/-- The overlay requests are CMP's. -/
theorem takeOverlay_keepsLatched (r : OverlayRequest) : KeepsLatched (takeOverlay r) := .of_fec (takeOverlay_fec r)

/-- The store requests are STO's. -/
theorem storeOwner_keepsLatched {owner : State → State} (h : ∀ t, (owner t).fec = t.fec) : KeepsLatched (storeOwner owner) :=
  .of_fec (storeOwner_fec h)

theorem execUnknownType_latched (type tag : Byte) (p : List Byte) {s t : State} (hs : LatchedAtMeg1 s)
    (h : execUnknownType type tag p s = .next t) : LatchedAtMeg1 t := by
  unfold execUnknownType at h
  split at h
  · cases h; exact hs
  · exact request_latched (.of_fec (reply_fec type tag .unknownType .empty)) hs h

theorem execStartUp_latched (failing : List Nat) (un : List FlashArea) {s t : State} (hs : LatchedAtMeg1 s)
    (h : execStartUp failing un s = .next t) : LatchedAtMeg1 t := by
  unfold execStartUp at h
  split at h
  · cases h; exact hs
  · split at h
    · cases h; exact startsUp_keepsLatched _ _ s hs
    · cases h; exact hs

theorem execSend_latched (bytes : List Byte) {s t : State} (hs : LatchedAtMeg1 s) (h : execSend bytes s = .next t) :
    LatchedAtMeg1 t := by
  unfold execSend at h
  split at h
  · cases h; exact hs
  · cases h; exact hs.of_fec (sendEnds_fec bytes s)

theorem execFetch_latched (e : FetchEvent) {s t : State} (hs : LatchedAtMeg1 s) (h : execFetch e s = .next t) :
    LatchedAtMeg1 t := by
  unfold execFetch at h
  split at h
  · cases h; exact hs
  · cases h; exact hs.of_fec (fetchEvent_fec e s)

theorem execInvalidOpener_latched (mosi : List Byte) {s t : State} (hs : LatchedAtMeg1 s)
    (h : execInvalidOpener mosi s = .next t) : LatchedAtMeg1 t := by
  unfold execInvalidOpener at h
  split at h
  · cases h; exact hs
  · split at h
    · cases h; exact hs
    · cases h; exact hs.of_fec ((latchCondition_fec _ _ _).trans (beginTxn_fec _ s))

theorem execReset_latched (tag : Byte) (p : List Byte) {s t : State} (hs : LatchedAtMeg1 s) (h : execReset tag p s = .next t) :
    LatchedAtMeg1 t := by
  unfold execReset at h
  split at h
  · cases h; exact hs
  · cases h; exact resetAll_latched _ _ _ _ _

theorem execSampleCode_latched (c1 c2 c3 c4 : Byte) (ext : Bool) {s t : State} (hs : LatchedAtMeg1 s)
    (h : execSampleCode c1 c2 c3 c4 ext s = .next t) : LatchedAtMeg1 t := by
  unfold execSampleCode at h
  split at h
  · cases h; exact hs
  · cases h; exact (sampleInstant_keepsLatched _ _ s hs).of_fec rfl

theorem execClockLoss_latched {s t : State} (hs : LatchedAtMeg1 s) (h : execClockLoss s = .next t) : LatchedAtMeg1 t := by
  have lost : LatchedAtMeg1 { s with fec := { s.fec with lockPin := false } } := hs
  unfold execClockLoss at h
  dsimp only at h
  split at h
  · cases h; exact lost
  · cases h; exact lockLost_keepsLatched _ lost

/-- R40: no command leaves a latched channel elsewhere than at MEG1. -/
theorem exec_latched (i : Instr) {s t : State} (hs : LatchedAtMeg1 s) (h : exec i s = .next t) : LatchedAtMeg1 t := by
  cases i with
  | powerOnReset => cases h; exact resetAll_latched _ _ _ _ s
  | startUp failing un => exact execStartUp_latched failing un hs h
  | send bytes => exact execSend_latched bytes hs h
  | fetch e => exact execFetch_latched e hs h
  | invalidOpener mosi => exact execInvalidOpener_latched mosi hs h
  | unknownType type tag p => exact execUnknownType_latched type tag p hs h
  | status tag p => exact request_latched (.of_fec (statusOf_fec tag p)) hs h
  | ackConditions tag p => exact request_latched (.of_fec (ackConditionsOf_fec tag p)) hs h
  | routeSet tag p => exact request_latched (.of_fec (routeSetOf_fec tag p)) hs h
  | reset tag p => exact execReset_latched tag p hs h
  | setFields tag p => exact request_latched (setFieldsOf_keepsLatched tag p) hs h
  | getFields tag p => exact request_latched (.of_fec (getFieldsOf_fec tag p)) hs h
  | defaultSetup tag p => exact request_latched (defaultSetupOf_keepsLatched tag p) hs h
  | viewFallback => exact whenUp_latched takeViewFallback_keepsLatched hs h
  | memoryCorrection => exact whenUp_latched takeMemoryCorrection_keepsLatched hs h
  | run tag p => exact request_latched (plainRequest_keepsLatched takeRun_keepsLatched 0x30 tag p) hs h
  | stop tag p => exact request_latched (plainRequest_keepsLatched takeStop_keepsLatched 0x31 tag p) hs h
  | single tag p => exact request_latched (plainRequest_keepsLatched takeSingle_keepsLatched 0x32 tag p) hs h
  | force tag p => exact request_latched (plainRequest_keepsLatched takeForce_keepsLatched 0x33 tag p) hs h
  | calibrate tag p => exact request_latched (calibrateOf_keepsLatched tag p) hs h
  | clearProtect tag p => exact request_latched (clearProtectOf_keepsLatched tag p) hs h
  | counterRead tag p => exact request_latched (.of_fec (counterReadOf_fec tag p)) hs h
  | saveRef tag p => exact request_latched (saveRefOf_keepsLatched tag p) hs h
  | clearRef tag p => exact request_latched (clearRefOf_keepsLatched tag p) hs h
  | segmentList tag p => exact request_latched (.of_fec (segmentListOf_fec tag p)) hs h
  | pageQuery tag p => exact request_latched (.of_fec (pageQueryOf_fec tag p)) hs h
  | peek tag p => exact request_latched (.of_fec (peekOf_fec tag p)) hs h
  | clearPersist tag p => exact request_latched (clearPersistOf_keepsLatched tag p) hs h
  | cursorRead tag p => exact request_latched (.of_fec (cursorReadOf_fec tag p)) hs h
  | ovFill tag p => exact request_latched (takeOverlay_keepsLatched ⟨.fill, tag, p⟩) hs h
  | ovText tag p => exact request_latched (takeOverlay_keepsLatched ⟨.text, tag, p⟩) hs h
  | ovClear tag p => exact request_latched (takeOverlay_keepsLatched ⟨.clear, tag, p⟩) hs h
  | ovShow tag p => exact request_latched (takeOverlay_keepsLatched ⟨.present, tag, p⟩) hs h
  | glyphLoad tag p => exact request_latched (takeOverlay_keepsLatched ⟨.glyphs, tag, p⟩) hs h
  | paletteSet tag p => exact request_latched (takeOverlay_keepsLatched ⟨.palette, tag, p⟩) hs h
  | keyBind tag p => exact request_latched (.of_fec (keyBindOf_fec tag p)) hs h
  | encBind tag p => exact request_latched (.of_fec (encBindOf_fec tag p)) hs h
  | ledSet tag p => exact request_latched (.of_fec (ledSetOf_fec tag p)) hs h
  | panelLock tag p => exact request_latched (.of_fec (panelLockOf_fec tag p)) hs h
  | panelBlank tag p => exact request_latched (.of_fec (panelBlankOf_fec tag p)) hs h
  | beep tag p => exact request_latched (.of_fec (beepOf_fec tag p)) hs h
  | storeSave tag p => exact request_latched (storeOwner_keepsLatched (storeSaveOf_fec tag p)) hs h
  | storeRecall tag p => exact request_latched (storeOwner_keepsLatched (storeRecallOf_fec tag p)) hs h
  | storeErase tag p => exact request_latched (storeOwner_keepsLatched (storeEraseOf_fec tag p)) hs h
  | storeProtect tag p => exact request_latched (storeOwner_keepsLatched (storeProtectOf_fec tag p)) hs h
  | storeList tag p => exact request_latched (.of_fec (storeListOf_fec tag p)) hs h
  | storePowerOn tag p => exact request_latched (storeOwner_keepsLatched (storePowerOnOf_fec tag p)) hs h
  | calSave tag p => exact request_latched (storeOwner_keepsLatched (calSaveOf_fec tag p)) hs h
  | xferStart tag p => exact request_latched (.of_fec (xferStartOf_fec tag p)) hs h
  | xferAbort tag p => exact request_latched (xferAbortOf_keepsLatched tag p) hs h
  | trip ch => cases h; exact senseActive_keepsLatched ch s hs
  | overloadSenseInactive ch => cases h; exact hs
  | clockLoss => exact execClockLoss_latched hs h
  | clockLockReturn => cases h; exact hs
  | settleTimerExpiry => exact whenUp_latched settleExpires_keepsLatched hs h
  | calStep sum => exact whenUp_latched (calStepEnds_keepsLatched sum) hs h
  | sampleCode c1 c2 c3 c4 ext => exact execSampleCode_latched c1 c2 c3 c4 ext hs h
  | holdoffEnd => exact whenUp_latched (.of_fec holdoffEnds_fec) hs h
  | autoWaitExpiry => exact whenUp_latched autoWaitExpires_keepsLatched hs h
  | triggerPulseEnd => exact whenUp_latched (.of_fec triggerPulseEnds_fec) hs h
  | triggeredIndicationEnd => exact whenUp_latched (.of_fec indicationEnds_fec) hs h
  | gateEnd => exact whenUp_latched (.of_fec gateEnds_fec) hs h
  | auxSquareWaveToggle => exact whenUp_latched (f := squareWaveToggles) (.of_fec (fun _ => rfl)) hs h
  | copyEnd => exact whenUp_latched (.of_rederives copyEnds_rederives) hs h
  | renderPassEnd => exact whenUp_latched (.of_rederives passEnds_rederives) hs h
  | decayExpiry => exact whenUp_latched (.of_fec decayExpires_fec) hs h
  | frameStart => exact whenUp_latched (.of_fec frameStarts_fec) hs h
  | backlightPeriodStart => exact whenUp_latched (f := backlightStarts) (.of_fec (fun _ => rfl)) hs h
  | rowSlot contacts => exact whenUp_latched (rowSlot_keepsLatched contacts) hs h
  | holdDeadline key => exact whenUp_latched (.of_fec (holdReached_fec key)) hs h
  | encoderSample a b => exact whenUp_latched (encoderSamples_keepsLatched a b) hs h
  | panelReportOffer => exact whenUp_latched (.of_fec offerOldest_fec) hs h
  | blinkToggle => exact whenUp_latched (f := blinkToggles) (.of_fec (fun _ => rfl)) hs h
  | beeperEnd => exact whenUp_latched (.of_fec beeperEnds_fec) hs h
  | eraseStepEnd => exact whenUp_latched (.of_fec eraseEnds_fec) hs h
  | programStepEnd => exact whenUp_latched (.of_fec programEnds_fec) hs h
  | verifyStepEnd agrees => exact whenUp_latched (.of_fec (verifyEnds_fec agrees)) hs h
  | readStepEnd => exact whenUp_latched readEnds_keepsLatched hs h
  | stepTimeout => exact whenUp_latched (.of_fec stepTimesOut_fec) hs h
  | autosaveExpiry => exact whenUp_latched (.of_fec autosaveExpires_fec) hs h
  | chunkReadEnd => exact whenUp_latched chunkReadEnds_keepsLatched hs h
  | data => exact whenUp_latched dataOffered_keepsLatched hs h
  | xferEnd => exact whenUp_latched (.of_fec xferEnds_fec) hs h
  | overloadSenseActive ch => cases h; exact senseActive_keepsLatched ch s hs

/-- Settles O60: the step that idles, and the command at the front of the queue. -/
theorem stepKeepsLatchedChannelsAtMeg1 : Obligations.StepKeepsLatchedChannelsAtMeg1 := by
  intro s t hs h
  unfold step at h
  split at h
  · cases h; exact hs
  · rename_i rest _
    exact exec_latched _ (s := { s with pending := rest }) (hs.of_fec rfl) h

end Sys2Proof.Machine
end

section
/-! PROOF. Protection, the sample-clock monitor and the ends of a run: the spec of each shared operation, and the statements on TRIP,
CLEAR_PROTECT, CLOCK_LOSS and STOP. -/

namespace Sys2Proof.Machine

namespace Rederives

variable {s t : State} (h : Rederives s t)
include h

/-! What of FEC stands (the drive states and the settle timer move). -/

theorem sense : t.fec.sense = s.fec.sense := by rw [h.fec]
theorem live : t.fec.live = s.fec.live := by rw [h.fec]
theorem tableValid : t.fec.tableValid = s.fec.tableValid := by rw [h.fec]
theorem calStep : t.fec.calStep = s.fec.calStep := by rw [h.fec]
theorem lockPin : t.fec.lockPin = s.fec.lockPin := by rw [h.fec]
theorem locked : t.fec.locked = s.fec.locked := by rw [h.fec]

end Rederives

/-! ### The ends of a run -/

/-- R95, R107: what the entry to STOPPED makes of ACQ. -/
theorem enterStopped_acq (cause : AcqCause) (s : State) :
    (enterStopped cause s).acq = { s.acq with state := .stopped, singlePending := false, forcePending := false } := by
  unfold enterStopped reportAcq; rw [offer_acq]

theorem enterStopped_trg (cause : AcqCause) (s : State) : (enterStopped cause s).trg = s.trg := by
  unfold enterStopped reportAcq; rw [offer_trg]

theorem enterStopped_mem (cause : AcqCause) (s : State) : (enterStopped cause s).mem = s.mem := by
  unfold enterStopped reportAcq; rw [offer_mem]

/-- R95: a run that is ended by force ends in STOPPED with both pending flags clear. -/
theorem endRun_acq {cause : AcqCause} {s : State} (h1 : s.acq.state ≠ .stopped) (h2 : s.acq.state ≠ .calibrating) :
    ∃ u, endRun cause s = enterStopped cause u := by
  unfold endRun
  split
  · contradiction
  · contradiction
  · exact ⟨_, rfl⟩
  · exact ⟨_, rfl⟩
  · exact ⟨_, rfl⟩
  · exact ⟨_, rfl⟩
  · exact ⟨_, rfl⟩

/-- R95: in STOPPED there is nothing to end. -/
theorem endRun_of_stopped {cause : AcqCause} {s : State} (h : s.acq.state = .stopped) : endRun cause s = s := by
  unfold endRun; rw [h]

/-- R95, R112: unless a calibration runs, the end of a run leaves ACQ in STOPPED. -/
theorem endRun_stopped {cause : AcqCause} {s : State} (h : s.acq.state ≠ .calibrating) : (endRun cause s).acq.state = .stopped := by
  by_cases hs : s.acq.state = .stopped
  · rw [endRun_of_stopped hs, hs]
  · obtain ⟨u, hu⟩ := endRun_acq (cause := cause) hs h
    rw [hu, enterStopped_acq]

/-- R109: the discard leaves no capture context, no auto-wait timer and no held change. -/
theorem discard_cleared (s : State) :
    (discard s).acq.ctx = none ∧ (discard s).trg.autoWait = none ∧ (discard s).trg.changeHeld = false :=
  ⟨rfl, rfl, leavePhase_changeHeld _⟩

/-- R46: where no change is held any more, a held change has been taken. -/
theorem HeldOrTaken.resolved {s t : State} (h : HeldOrTaken s t) (hc : t.trg.changeHeld = false) :
    t.trg.held = if s.trg.changeHeld then settingsOf s.setup else s.trg.held := by
  rcases h with ⟨e1, e2⟩ | ⟨e1, e2, _⟩
  · rw [← e2, hc]; exact e1
  · rw [e1]; exact e2

/-- R98: ACQ that arms while the settle timer runs is in SETTLING. -/
theorem arming_settling {s : State} {x : Nat} (h : ∃ d, s.fec.settle = some d ∧ x ≤ d) : (arm s).acq.state = .settling := by
  obtain ⟨d, hd, _⟩ := h
  simp [arm, hd]

/-- R110: a capture change while the settle timer runs sends a run back to SETTLING. -/
theorem captureChange_state {s : State} {x : Nat} (h : ∃ d, s.fec.settle = some d ∧ x ≤ d) :
    (captureChange s).acq.state = if acqRunning s.acq.state then .settling else s.acq.state := by
  have discarded : (arm (discard s)).acq.state = .settling := arming_settling ((discard_rederives s).settle_ge h)
  have withdrawn : (arm (withdraw s)).acq.state = .settling := arming_settling ((withdraw_rederives s).settle_ge h)
  cases hst : s.acq.state <;> simp [captureChange, acqRunning, hst, discarded, withdrawn]

/-- R110: outside a run a capture change does nothing. -/
theorem captureChange_of_not_running {s : State} (h : acqRunning s.acq.state = false) : captureChange s = s := by
  cases hst : s.acq.state <;> simp_all [captureChange, acqRunning]

/-- R111: outside a run a trip is nothing to ACQ. -/
theorem acqTrip_of_not_running {s : State} (h : acqRunning s.acq.state = false) : acqTrip s = s := by
  have ended : endRun .protect s = s := by cases hst : s.acq.state <;> simp_all [endRun, acqRunning]
  rw [acqTrip_eq, ended, captureChange_of_not_running h, ite_self]

/-- R111: a trip ends a run where the setup says so, and otherwise sends it back to SETTLING. -/
theorem acqTrip_state {s : State} {x : Nat} (h : ∃ d, s.fec.settle = some d ∧ x ≤ d) (hr : acqRunning s.acq.state = true) :
    (acqTrip s).acq.state = if s.setup.get 85 = 1 then .stopped else .settling := by
  rw [acqTrip_eq]
  split
  · exact endRun_stopped (fun hc => by rw [hc] at hr; cases hr)
  · rw [captureChange_state h, hr]; rfl

/-! ### A trip -/

/-- R41 steps 1 to 3: the relay at MEG1, the latch set, and a settle time of 5 ms. -/
theorem tripProtect_fec (ch : Channel) (s : State) : (tripProtect ch s).fec =
    { s.fec with
      drive := vmod s.fec.drive ch (fun d => { d with term := .meg1 })
      latch := s.fec.latch.set ch true
      settle := some (max (s.fec.settle.getD 0) (s.now + 5 * oneMs)) } := by
  unfold tripProtect
  rw [latchCondition_fec, extendSettle_settle]
  rfl

/-- R41 steps 1 to 3 touch FEC and LNK. -/
theorem tripProtect_only (ch : Channel) (s : State) :
    tripProtect ch s = { s with fec := (tripProtect ch s).fec, lnk := (tripProtect ch s).lnk } := by
  unfold tripProtect
  rw [latchCondition_only, extendSettle_only]
  rfl

/-- R41 step 3, R213: the channel's condition is latched with the state of ACQ. -/
theorem tripProtect_latchedNow (ch : Channel) (s : State) :
    LatchedNow (.protect ch) (.acqState s.acq.state) s (tripProtect ch s) := by
  refine (latchedNow_latchCondition (by simp) _ _).of_entries ?_ rfl
  exact condEntry_congr (by rw [extendSettle_only]; rfl) _

/-- R41 step 4: the state of which ACQ is told. -/
def soundedTrip (ch : Channel) (s : State) : State :=
  if (tripProtect ch s).setup.get 162 = 1 then startSound 2000 500 false (tripProtect ch s) else tripProtect ch s

theorem tripChannel_eq (ch : Channel) (s : State) : tripChannel ch s = acqTrip (soundedTrip ch s) := rfl

/-- R41: the sound of a trip is PNL's. -/
theorem soundedTrip_only (ch : Channel) (s : State) :
    soundedTrip ch s = { tripProtect ch s with pnl := (soundedTrip ch s).pnl } := by
  unfold soundedTrip; split <;> rfl

/-- R41: what of the state stands when ACQ is told of a trip. -/
theorem soundedTrip_kept (ch : Channel) (s : State) : (soundedTrip ch s).setup = s.setup ∧ (soundedTrip ch s).acq = s.acq ∧
    (soundedTrip ch s).fec = (tripProtect ch s).fec ∧ (soundedTrip ch s).lnk = (tripProtect ch s).lnk := by
  rw [soundedTrip_only, tripProtect_only]
  exact ⟨rfl, rfl, rfl, rfl⟩

/-- R176: the beep of a trip. -/
theorem soundedTrip_beeper (ch : Channel) (s : State) : (soundedTrip ch s).pnl.beeper =
    if s.setup.get 162 = 1 then some ⟨2000, s.now + 500000000, false⟩ else s.pnl.beeper := by
  have hs : (tripProtect ch s).setup = s.setup := by rw [tripProtect_only]
  have hn : (tripProtect ch s).now = s.now := by rw [tripProtect_only]
  have hp : (tripProtect ch s).pnl = s.pnl := by rw [tripProtect_only]
  unfold soundedTrip
  rw [hs]
  split
  · simp [startSound, hn, oneMs]
  · rw [hp]

/-- R41: a sense that has become active trips exactly with the relay at OHM50. -/
theorem isTripping_sensed (ch : Channel) (s : State) :
    isTripping ch { s with fec := { s.fec with sense := s.fec.sense.set ch true } } = decide (s.fec.drive[ch].term = .ohm50) := by
  simp [isTripping]

/-- R41: a sense that becomes active with the relay at MEG1, or during start-up, is noted. -/
theorem senseActive_of_not_tripping {ch : Channel} {s : State} (h : s.lnk.startUp = true ∨ s.fec.drive[ch].term = .meg1) :
    senseActive ch s = { s with fec := { s.fec with sense := s.fec.sense.set ch true } } := by
  unfold senseActive
  rcases h with h | h
  · simp [h]
  · dsimp only
    rw [isTripping_sensed, h]
    simp

/-- R41: a sense that becomes active with the relay at OHM50 trips the channel. -/
theorem senseActive_of_tripping {ch : Channel} {s : State} (hup : s.lnk.startUp = false) (hd : s.fec.drive[ch].term = .ohm50) :
    senseActive ch s = tripChannel ch { s with fec := { s.fec with sense := s.fec.sense.set ch true } } := by
  unfold senseActive
  dsimp only
  rw [isTripping_sensed, hd, hup]
  simp

/-- Settles O18: a trip is `tripProtect` with its sound, and then what ACQ makes of it, which leaves the latch and extends no
settling but beyond. -/
theorem overloadTripsTheChannel : Obligations.OverloadTripsTheChannel := by
  intro ch s
  refine ⟨fun hup hd => ?_, fun h => congrArg Host.Outcome.next (senseActive_of_not_tripping h), rfl⟩
  refine ⟨_, congrArg Host.Outcome.next (senseActive_of_tripping hup hd), ?_⟩
  generalize hs0 : ({ s with fec := { s.fec with sense := s.fec.sense.set ch true } } : State) = s0
  have hsense : s0.fec.sense[ch] = true := by rw [← hs0]; simp
  obtain ⟨hsetup, hacq, hfec, hlnk⟩ := soundedTrip_kept ch s0
  have hr := acqTrip_rederives (soundedTrip ch s0)
  rw [← tripChannel_eq] at hr
  have hf := tripProtect_fec ch s0
  have hlatch : (tripChannel ch s0).fec.latch = s0.fec.latch.set ch true := by rw [hr.latch, hfec, hf]
  have heff : effectiveTerm ch (soundedTrip ch s0) = .meg1 := by simp [effectiveTerm, hfec, hf]
  have hsettle : ∃ d, (soundedTrip ch s0).fec.settle = some d ∧ s0.now + 5 * oneMs ≤ d :=
    ⟨_, by rw [hfec, hf], le_max_right _ _⟩
  have hentry := condEntry_congr (s := tripProtect ch s0) (t := soundedTrip ch s0) (by rw [hlnk]) (.protect ch)
  have hmeg : (soundedTrip ch s0).fec.drive[ch].term = .meg1 := by rw [hfec, hf]; simp [vmod]
  refine ⟨?_, ?_, ?_, fun n hn => ?_, ?_, ?_, ?_, fun hrun => ?_, fun hrun => ?_, ?_, ?_⟩
  · rw [hr.sense, hfec, hf]; exact hsense
  · rw [hlatch]; simp
  · rw [hr.term_of_effective (hmeg.trans heff.symm), heff]
  · have hv : ch.val ≠ n.val := fun e => hn (Fin.ext e.symm)
    rw [hlatch, ← hs0]
    simp [hv]
  · have latched := tripProtect_latchedNow ch s0
    rw [← hs0] at latched
    refine LatchedNow.of_entries (s := s) (t := tripProtect ch s0) (by rw [← hs0]; exact latched) rfl ?_
    exact (hr.conds _ (by simp) (by simp)).trans hentry
  · have h5 := hr.settle_ge hsettle
    rw [← hs0] at h5 ⊢
    simpa [oneMs] using h5
  · rw [hr.pnl, soundedTrip_beeper, ← hs0]
  · have hstate := acqTrip_state (s := soundedTrip ch s0) hsettle (by rw [hacq, ← hs0]; exact hrun)
    rw [tripChannel_eq, hstate, hsetup, ← hs0]
  · rw [tripChannel_eq, acqTrip_of_not_running (by rw [hacq, ← hs0]; exact hrun), hacq, ← hs0]
  · rw [hr.setup, hsetup, ← hs0]
  · rw [hr.live, hfec, hf, ← hs0]

end Sys2Proof.Machine
end

section
/-! PROOF. The end of the calibration procedure, and the statements on CLEAR_PROTECT, CLOCK_LOSS, STOP, CALIBRATE and CAL_STEP. -/

namespace Sys2Proof.Machine

/-! ### CLEAR_PROTECT -/

/-- R42: the byte of a channel number names the channel. -/
theorem oneOfFour_channel (ch : Channel) : oneOfFour (BitVec.ofNat 8 (ch.val + 1)).toNat = some ch := by
  have hv : (BitVec.ofNat 8 (ch.val + 1)).toNat = ch.val + 1 := by simp; omega
  simp [oneOfFour, hv]

/-- R42: a byte that names a channel is the byte of its number. -/
theorem oneOfFour_some {b : Byte} {ch : Channel} (h : oneOfFour b.toNat = some ch) : b = BitVec.ofNat 8 (ch.val + 1) := by
  unfold oneOfFour at h
  split at h
  · rename_i hb
    cases h
    apply BitVec.eq_of_toNat_eq
    simp
    omega
  · cases h

/-- R42: CLEAR_PROTECT of a channel. -/
theorem clearProtectOf_channel (tag : Byte) (ch : Channel) (s : State) :
    clearProtectOf tag [BitVec.ofNat 8 (ch.val + 1)] s =
      if s.fec.latch[ch] then
        if s.fec.sense[ch] then reply 0x35 tag .stillActive .empty s
        else reply 0x35 tag .ok .empty (clearProtectChannel ch s)
      else reply 0x35 tag .ok .empty s := by
  simp only [clearProtectOf, parseByte, oneOfFour_channel]

/-- R42: any other payload is refused. -/
theorem clearProtectOf_refused (tag : Byte) {p : List Byte} (h : ∀ ch : Channel, p ≠ [BitVec.ofNat 8 (ch.val + 1)]) (s : State) :
    clearProtectOf tag p s = reply 0x35 tag .badArg .empty s := by
  unfold clearProtectOf
  split
  · rfl
  · rename_i b hb
    split
    · rfl
    · rename_i ch hch
      have hp : p = [b] := by
        unfold parseByte at hb
        split at hb
        · cases hb; rfl
        · cases hb
      exact absurd (hp.trans (by rw [oneOfFour_some hch])) (h ch)

/-- R42: during calibration the latch alone is cleared. -/
theorem clearProtectChannel_of_calibrating {ch : Channel} {s : State} (h : s.fec.calStep.isSome = true) :
    clearProtectChannel ch s = clearLatch ch s := by
  simp [clearProtectChannel, h]

/-- R42: outside calibration the relay returns, settling lasts 5 ms more, and ACQ takes a capture change. -/
theorem clearProtectChannel_of_idle {ch : Channel} {s : State} (h : s.fec.calStep = none) :
    clearProtectChannel ch s = captureChange (extendSettle (5 * oneMs) (deriveDrives (clearLatch ch s))) := by
  simp [clearProtectChannel, h]

/-- R42: what follows the clearing of the latch keeps what a release keeps. -/
theorem clearProtectChannel_rederives (ch : Channel) (s : State) : Rederives (clearLatch ch s) (clearProtectChannel ch s) := by
  cases h : s.fec.calStep with
  | some k => rw [clearProtectChannel_of_calibrating (by rw [h]; rfl)]; exact .refl _
  | none =>
    rw [clearProtectChannel_of_idle h]
    exact (deriveDrives_rederives _).trans ((extendSettle_rederives _ _).trans (captureChange_rederives _))

/-- R26, R42: outside calibration the relay returns to the field's termination. -/
theorem clearProtectChannel_term {ch : Channel} {s : State} (h : s.fec.calStep = none) :
    (clearProtectChannel ch s).fec.drive[ch].term = if s.setup.isOhm50 ch then .ohm50 else .meg1 := by
  have heff : effectiveTerm ch (clearLatch ch s) = if s.setup.isOhm50 ch then .ohm50 else .meg1 := by
    have hl : (clearLatch ch s).fec.latch[ch] = false := by simp
    unfold effectiveTerm
    rw [hl]
    rfl
  have hd := deriveDrives_rederives (clearLatch ch s)
  have hterm := (deriveDrives_term (s := clearLatch ch s) h ch).trans (hd.effectiveTerm_eq ch).symm
  have rest := (extendSettle_rederives (5 * oneMs) (deriveDrives (clearLatch ch s))).trans (captureChange_rederives _)
  rw [clearProtectChannel_of_idle h, rest.term_of_effective hterm, hd.effectiveTerm_eq, heff]

/-- R42: settling lasts at least 5 ms more. -/
theorem settled_after_clear (ch : Channel) (s : State) :
    ∃ d, (extendSettle (5 * oneMs) (deriveDrives (clearLatch ch s))).fec.settle = some d ∧ s.now + 5 * oneMs ≤ d := by
  have hnow : (deriveDrives (clearLatch ch s)).now = s.now := by rw [deriveDrives_only]; rfl
  have h := extendSettle_ge (dur := 5 * oneMs) (by decide) (deriveDrives (clearLatch ch s))
  rwa [hnow] at h

/-- R42, R110: a run settles again; ACQ outside a run stands. -/
theorem clearProtectChannel_acq {ch : Channel} {s : State} (h : s.fec.calStep = none) :
    (clearProtectChannel ch s).acq.state = if acqRunning s.acq.state then .settling else s.acq.state := by
  have hacq : (extendSettle (5 * oneMs) (deriveDrives (clearLatch ch s))).acq = s.acq := by
    rw [extendSettle_only, deriveDrives_only]; rfl
  rw [clearProtectChannel_of_idle h, captureChange_state (settled_after_clear ch s), hacq]

/-- Settles O19: the cases of `clearProtectOf`, and what the clearing of a latch sets going. -/
theorem clearProtectReleasesTheLatch : Obligations.ClearProtectReleasesTheLatch := by
  refine ⟨fun tag p s hp hc => ?_, fun tag ch s hc => ?_⟩
  · refine (request_of_canTake _ _ _ _ _ hc).trans (congrArg _ ?_)
    rw [clearProtectOf_refused tag hp, reply_handed]
  · have served : exec (.clearProtect tag [BitVec.ofNat 8 (ch.val + 1)]) s = _ :=
      (request_of_canTake _ _ _ _ _ hc).trans (congrArg _ (clearProtectOf_channel tag ch (handed s)))
    rw [served]
    refine ⟨fun hl => ?_, fun hl hs => ?_, fun hl hs => ?_⟩
    · rw [handed_fec, hl, if_neg (by simp), reply_handed]
    · rw [handed_fec, hl, hs, if_pos rfl, if_pos rfl, reply_handed]
    · rw [handed_fec, hl, hs, if_pos rfl, if_neg (by simp)]
      refine ⟨_, rfl, ?_⟩
      have hr := clearProtectChannel_rederives ch (handed s)
      refine ⟨?_, ?_, ?_, ?_, fun hcal => ⟨?_, ?_, ?_⟩, fun hcal => ?_⟩
      · rw [reply_fec, hr.latch]; rfl
      · exact (hr.conds _ (by simp) (by simp))
      · rw [reply_setup, hr.setup]; rfl
      · simp
      · exact clearProtectChannel_term (s := handed s) hcal
      · have hsettle := settled_after_clear ch (handed s)
        have hge := (captureChange_rederives _).settle_ge hsettle
        rw [← clearProtectChannel_of_idle (s := handed s) hcal] at hge
        exact hge
      · exact clearProtectChannel_acq (s := handed s) hcal
      · rw [reply_fec, reply_acq, clearProtectChannel_of_calibrating (s := handed s) hcal]
        exact ⟨rfl, rfl⟩

/-! ### Trips in STOPPED, and the end of calibration -/

/-- R41, R111: what trips make of a stopped device: latches, relays, the settle timer, and CONDITION reports. -/
structure StoppedTrips (s t : State) : Prop where
  acq : t.acq = s.acq
  fec : t.fec = { s.fec with drive := t.fec.drive, latch := t.fec.latch, settle := t.fec.settle }
  outbound : s.lnk.outbound <+: t.lnk.outbound
  conds : ∀ c : Condition, c ≠ .reportLoss → (∀ n, c ≠ .protect n) → condEntry c t = condEntry c s

theorem StoppedTrips.refl (s : State) : StoppedTrips s s := ⟨rfl, rfl, List.prefix_rfl, fun _ _ _ => rfl⟩

theorem StoppedTrips.trans {s t u : State} (h : StoppedTrips s t) (k : StoppedTrips t u) : StoppedTrips s u where
  acq := k.acq.trans h.acq
  fec := by rw [k.fec, h.fec]
  outbound := h.outbound.trans k.outbound
  conds c h1 h2 := (k.conds c h1 h2).trans (h.conds c h1 h2)

/-- R41, R111: a trip in STOPPED. -/
theorem tripChannel_stopped {ch : Channel} {s : State} (h : s.acq.state = .stopped) : StoppedTrips s (tripChannel ch s) := by
  obtain ⟨_, hacq, hfec, hlnk⟩ := soundedTrip_kept ch s
  rw [tripChannel_eq, acqTrip_of_not_running (by rw [hacq, h]; rfl)]
  refine ⟨hacq, ?_, ?_, fun c h1 h2 => ?_⟩
  · rw [hfec, tripProtect_fec]
  · have before : (extendSettle (5 * oneMs) (setProtect ch s)).lnk = s.lnk := by rw [extendSettle_only]; rfl
    rw [hlnk, ← before]
    exact outbound_prefix_latchCondition _ _ _
  · rw [condEntry_congr (s := tripProtect ch s) (by rw [hlnk]) c]
    unfold tripProtect
    rw [condEntry_latchCondition (h2 ch) h1]
    exact condEntry_congr (by rw [extendSettle_only]; rfl) c

/-- R41: the trips after a derivation of the drive states, in STOPPED. -/
theorem checkTrips_stopped {s : State} (h : s.acq.state = .stopped) : StoppedTrips s (checkTrips s) := by
  have fold : ∀ (ns : List Channel) (t : State), t.acq.state = .stopped →
      StoppedTrips t (ns.foldl (fun t n => if isTripping n t then tripChannel n t else t) t) := by
    intro ns
    induction ns with
    | nil => intro t _; exact .refl t
    | cons n rest ih =>
      intro t ht
      have first : StoppedTrips t (if isTripping n t then tripChannel n t else t) := by
        split
        · exact tripChannel_stopped ht
        · exact .refl t
      exact first.trans (ih _ (by rw [first.acq, ht]))
  exact fold channels s h

/-- R95: the entry to STOPPED leaves the records of the outbound queue before its report. -/
theorem outbound_prefix_enterStopped (cause : AcqCause) (s : State) : s.lnk.outbound <+: (enterStopped cause s).lnk.outbound :=
  outbound_prefix_offer (alwaysNew_acqState _ _ _ _ _)
    { s with acq := { s.acq with state := .stopped, singlePending := false, forcePending := false } }

/-- R39: what the end of the procedure leaves. -/
structure CalEnded (outcome : CalOutcome) (failure : Option CalFailure) (s t : State) : Prop where
  acq : t.acq = { s.acq with state := .stopped, singlePending := false, forcePending := false }
  calStep : t.fec.calStep = none
  live : t.fec.live = s.fec.live
  tableValid : t.fec.tableValid = s.fec.tableValid
  lockPin : t.fec.lockPin = s.fec.lockPin
  locked : t.fec.locked = s.fec.locked
  outbound : 1 ≤ freeCount s → s.lnk.outbound ++ [.report (.calDone outcome failure)] <+: t.lnk.outbound
  conds : ∀ c : Condition, c ≠ .reportLoss → (∀ n, c ≠ .protect n) → condEntry c t = condEntry c s

/-- R39: the procedure ends in STOPPED with CAL_DONE offered before the trips. -/
theorem calEnds_ended (o : CalOutcome) (f : Option CalFailure) (cause : AcqCause) (s : State) :
    CalEnded o f s (calEnds o f cause s) := by
  unfold calEnds
  dsimp only
  generalize hs0 : ({ s with fec := { s.fec with calStep := none, calSum := 0, calCodes := 0 } } : State) = s0
  have hd := deriveDrives_rederives s0
  have hlnk : (deriveDrives s0).lnk = s.lnk := by rw [deriveDrives_only, ← hs0]
  have hacq : (deriveDrives s0).acq = s.acq := by rw [deriveDrives_only, ← hs0]
  have ended := enterStopped_rederives cause (offer (.calDone o f) (deriveDrives s0))
  have hstop : (enterStopped cause (offer (.calDone o f) (deriveDrives s0))).acq =
      { s.acq with state := .stopped, singlePending := false, forcePending := false } := by
    rw [enterStopped_acq, offer_acq, hacq]
  have trips := checkTrips_stopped (s := enterStopped cause (offer (.calDone o f) (deriveDrives s0))) (by rw [hstop])
  have hfec : (checkTrips (enterStopped cause (offer (.calDone o f) (deriveDrives s0)))).fec =
      { s0.fec with
        drive := (checkTrips (enterStopped cause (offer (.calDone o f) (deriveDrives s0)))).fec.drive
        latch := (checkTrips (enterStopped cause (offer (.calDone o f) (deriveDrives s0)))).fec.latch
        settle := (checkTrips (enterStopped cause (offer (.calDone o f) (deriveDrives s0)))).fec.settle } := by
    rw [trips.fec, ended.fec, offer_fec, hd.fec]
  refine ⟨trips.acq.trans hstop, ?_, ?_, ?_, ?_, ?_, fun hfree => ?_, fun c h1 h2 => ?_⟩
  · rw [hfec, ← hs0]
  · rw [hfec, ← hs0]
  · rw [hfec, ← hs0]
  · rw [hfec, ← hs0]
  · rw [hfec, ← hs0]
  · have offered := offer_outbound_of_room (alwaysNew_calDone o f) (s := deriveDrives s0) (by simpa [freeCount, hlnk] using hfree)
    rw [hlnk] at offered
    rw [← offered]
    exact (outbound_prefix_enterStopped cause _).trans trips.outbound
  · rw [trips.conds c h1 h2]
    have reported : condEntry c (enterStopped cause (offer (.calDone o f) (deriveDrives s0))) =
        condEntry c (offer (.calDone o f) (deriveDrives s0)) := condEntry_offer h1 _ _
    rw [reported, condEntry_offer h1]
    exact condEntry_congr (by rw [hlnk]) c

/-! ### CLOCK_LOSS -/

/-- R44: what the loss of the sample clock leaves. -/
theorem lockLost_spec {s : State} (hcal : s.acq.state = .calibrating → s.fec.calStep.isSome = true) :
    (lockLost s).fec.lockPin = s.fec.lockPin ∧ (lockLost s).fec.locked = false ∧
    LatchedNow .clockFault (.acqState s.acq.state) s (lockLost s) ∧ (lockLost s).acq.state = .stopped ∧
    (lockLost s).fec.calStep = none ∧ (lockLost s).fec.live = s.fec.live ∧ (lockLost s).fec.tableValid = s.fec.tableValid ∧
    (lockLost s).acq.runCount = s.acq.runCount := by
  generalize hs1 : latchCondition .clockFault (.acqState s.acq.state) { s with fec := { s.fec with locked := false } } = s1
  have hfec : s1.fec = { s.fec with locked := false } := by rw [← hs1, latchCondition_fec]
  have hacq : s1.acq = s.acq := by rw [← hs1, latchCondition_acq]
  have latched : LatchedNow .clockFault (.acqState s.acq.state) s s1 := by
    rw [← hs1]
    exact (latchedNow_latchCondition (by simp) _ { s with fec := { s.fec with locked := false } }).of_entries rfl rfl
  have hlost : lockLost s = endRun .clock (if s1.fec.calStep.isSome then calEnds .aborted none .clock s1 else s1) := by
    rw [← hs1]; rfl
  rw [hlost]
  cases hk : s1.fec.calStep with
  | some k =>
    have ended := calEnds_ended .aborted none .clock s1
    simp only [Option.isSome_some, if_true]
    rw [endRun_of_stopped (by rw [ended.acq])]
    exact ⟨by rw [ended.lockPin, hfec], by rw [ended.locked, hfec],
      latched.of_entries rfl (ended.conds _ (by simp) (by simp)), by rw [ended.acq], ended.calStep,
      by rw [ended.live, hfec], by rw [ended.tableValid, hfec], by rw [ended.acq, hacq]⟩
  | none =>
    have hne : s1.acq.state ≠ .calibrating := by
      intro hst
      have some := hcal (by rw [← hacq, hst])
      have none : s.fec.calStep = none := by rw [hfec] at hk; exact hk
      rw [none] at some
      cases some
    have ended := endRun_rederives .clock s1
    simp only [Option.isSome_none, Bool.false_eq_true, if_false]
    exact ⟨by rw [ended.lockPin, hfec], by rw [ended.locked, hfec],
      latched.of_entries rfl (ended.conds _ (by simp) (by simp)), endRun_stopped hne, by rw [ended.calStep, hk],
      by rw [ended.live, hfec], by rw [ended.tableValid, hfec], by rw [ended.runCount, hacq]⟩

/-- Settles O20: `lockLost` on the state whose pin has moved; with the monitor UNLOCKED the pin alone moves. -/
theorem clockLossStopsAcquisition : Obligations.ClockLossStopsAcquisition := by
  refine ⟨fun s hup hlocked hcal => ?_, fun s hlocked => ?_, fun s hup => ?_⟩
  · have lost : exec .clockLoss s = .next (lockLost { s with fec := { s.fec with lockPin := false } }) := by
      show execClockLoss s = _
      simp [execClockLoss, hup, hlocked]
    exact ⟨_, lost, lockLost_spec (s := { s with fec := { s.fec with lockPin := false } }) hcal⟩
  · show execClockLoss s = _
    simp [execClockLoss, hlocked]
  · show execClockLockReturn s = _
    simp [execClockLockReturn, hup]

/-! ### STOP -/

/-- R95: a STOP outside CALIBRATING is the end of a run. -/
theorem takeStop_of_not_calibrating {s : State} (h : s.acq.state ≠ .calibrating) : takeStop s = endRun .request s := by
  unfold takeStop
  split
  · contradiction
  · rfl

theorem takeStop_of_calibrating {s : State} (h : s.acq.state = .calibrating) :
    takeStop s = calEnds .aborted none .request s := by
  unfold takeStop; rw [h]

/-- R95, R109: a STOP while a segment is in flight discards it. -/
theorem takeStop_of_inFlight {s : State} (h : s.acq.state ∈ [AcqState.preFill, .ready, .postFill]) :
    takeStop s = enterStopped .request (discard s) := by
  simp only [List.mem_cons, List.not_mem_nil, or_false] at h
  rcases h with h | h | h <;> simp [takeStop, endRun, h]

/-- R95: a STOP outside STOPPED, whatever it ends. -/
theorem takeStop_spec {s : State} (h : s.acq.state ≠ .stopped) : (takeStop s).acq.state = .stopped ∧
    (takeStop s).acq.singlePending = false ∧ (takeStop s).acq.forcePending = false ∧
    (takeStop s).acq.runCount = s.acq.runCount ∧ (takeStop s).acq.lastSeq = s.acq.lastSeq ∧
    (takeStop s).fec.live = s.fec.live := by
  by_cases hcal : s.acq.state = .calibrating
  · have ended := calEnds_ended .aborted none .request s
    rw [takeStop_of_calibrating hcal]
    exact ⟨by rw [ended.acq], by rw [ended.acq], by rw [ended.acq], by rw [ended.acq], by rw [ended.acq], ended.live⟩
  · have ended := endRun_rederives .request s
    obtain ⟨u, hu⟩ := endRun_acq (cause := .request) h hcal
    rw [takeStop_of_not_calibrating hcal]
    refine ⟨?_, ?_, ?_, ended.runCount, ended.lastSeq, ended.live⟩ <;> rw [hu, enterStopped_acq]

/-- Settles O29: STOP is `takeStop` and the reply behind it. -/
theorem stopEndsTheRun : Obligations.StopEndsTheRun := by
  intro tag s hc
  have served : exec (.stop tag []) s = .next (reply 0x31 tag .ok .empty (takeStop (handed s))) :=
    request_of_canTake _ _ _ _ _ hc
  rw [served]
  refine ⟨fun hst => ?_, fun hst => ⟨_, rfl, ?_⟩⟩
  · have idle : takeStop (handed s) = handed s := by
      rw [takeStop_of_not_calibrating (by rw [handed_acq, hst]; simp), endRun_of_stopped (s := handed s) hst]
    rw [idle, reply_handed]
  · obtain ⟨h1, h2, h3, h4, h5, h6⟩ := takeStop_spec (s := handed s) hst
    refine ⟨h1, h2, h3, h4, h5, h6, by simp, fun hcal => ?_, fun hstarved => ?_, fun hin => ?_⟩
    · rw [reply_fec, takeStop_of_calibrating (s := handed s) hcal]
      exact (calEnds_ended _ _ _ _).calStep
    · have withdrawn : takeStop (handed s) = enterStopped .request (withdraw (handed s)) := by
        rw [takeStop_of_not_calibrating (by rw [handed_acq, hstarved]; simp)]
        simp [endRun, hstarved]
      rw [reply_mem, withdrawn, enterStopped_mem]
      rfl
    · obtain ⟨hctx, hwait, hheld⟩ := discard_cleared (handed s)
      have held := (discard_rederives (handed s)).held.resolved hheld
      rw [reply_acq, reply_trg, takeStop_of_inFlight (s := handed s) hin, enterStopped_acq, enterStopped_trg]
      exact ⟨hctx, hwait, held, hheld⟩

/-! ### CALIBRATE -/

/-- R34: what the start of the procedure leaves. -/
theorem calStarts_spec (s : State) : (calStarts s).acq.state = .calibrating ∧
    (calStarts s).fec = { s.fec with
      drive := .replicate 4 calDrive, settle := (calStarts s).fec.settle
      staged := .replicate 52 0, calStep := some 0, calSum := 0, calCodes := 0 } ∧
    s.lnk.outbound <+: (calStarts s).lnk.outbound := by
  unfold calStarts
  dsimp only
  generalize hs1 : ({ s with fec := { s.fec with staged := .replicate 52 0, calStep := some 0, calSum := 0, calCodes := 0 } } : State) = s1
  unfold reportAcq
  refine ⟨?_, ?_, ?_⟩
  · rw [offer_acq]; rfl
  · rw [offer_fec, setAcq_fec, applyDrives_fec, ← hs1]
  · have started : (setAcq .calibrating (applyDrives (.replicate 4 calDrive) s1)).lnk.outbound = s.lnk.outbound := by
      rw [setAcq_lnk, applyDrives_only, ← hs1]
    rw [← started]
    exact outbound_prefix_offer (alwaysNew_acqState _ _ _ _ _) _

/-- Settles O21: the conditions of `calibrateOf` in their order, and the start of the procedure behind the reply. -/
theorem calibrateStartsFromStopped : Obligations.CalibrateStartsFromStopped := by
  intro tag s hc
  have served : exec (.calibrate tag []) s = .next (calibrateOf tag [] (handed s)) := request_of_canTake _ _ _ _ _ hc
  rw [served]
  refine ⟨fun hst => ?_, fun hne hbad => ?_, fun hst hlock => ⟨_, rfl, ?_⟩⟩
  · simp [calibrateOf, parseNothing, hst, reply_handed]
  · rcases hbad with hlock | hst
    · simp [calibrateOf, parseNothing, hne, hlock, reply_handed]
    · cases hlock : s.fec.locked <;> simp [calibrateOf, parseNothing, hne, hst, hlock, reply_handed]
  · have started : calibrateOf tag [] (handed s) = calStarts (answered 0x34 tag .accepted .empty (taken s)) := by
      simp [calibrateOf, parseNothing, hst, hlock, reply_handed]
    obtain ⟨hacq, hfec, hout⟩ := calStarts_spec (answered 0x34 tag .accepted .empty (taken s))
    rw [started]
    refine ⟨hacq, ?_, fun k => ?_, fun n => ?_, ?_, ?_, ?_, hout⟩ <;> rw [hfec]
    · simp
    · simp [calDrive]
    · rfl
    · rfl
    · rfl

end Sys2Proof.Machine
end

section
/-! PROOF. SAMPLE_CODE: what the calibration sum, the comparator and ACQ make of one sample-clock instant, and the statements on
CAL_STEP. -/

namespace Sys2Proof.Machine

/-! ### The calibration sum -/

/-- R35: the sum of a calibration step is FEC's. -/
theorem sumCodes_eq (raw : Vector Byte 4) (s : State) : sumCodes raw s = { s with fec := (sumCodes raw s).fec } := by
  unfold sumCodes
  split
  · rfl
  · split <;> rfl

/-- R35: without a calibration no code is summed. -/
theorem sumCodes_of_idle {raw : Vector Byte 4} {s : State} (h : s.fec.calStep = none) : sumCodes raw s = s := by
  unfold sumCodes; rw [h]

/-- R35: of a calibration step, the raw code of its channel joins the sum while the settle timer is IDLE, up to 256. -/
theorem sumCodes_fec_of_step {raw : Vector Byte 4} {s : State} {k : Fin 52} (h : s.fec.calStep = some k) :
    (sumCodes raw s).fec = if s.fec.settle = none ∧ s.fec.calCodes < 256 then
        { s.fec with calSum := s.fec.calSum + (raw[k.val / 13]'(by omega)).toNat, calCodes := s.fec.calCodes + 1 }
      else s.fec := by
  unfold sumCodes calStepCodes
  rw [h]
  dsimp only
  split <;> rfl

/-! ### The comparator's part of an instant -/

/-- R48 to R53: TRG after the comparator has taken a code or reading. -/
def comparedTrg (code : Nat) (ext : Bool) (s : State) : Trg := (comparatorStep code ext s).1.trg

/-- R48 to R53: the comparator reads TRG and the instant, and moves TRG. -/
theorem comparatorStep_withFec (code : Nat) (ext : Bool) (f : Fec) (s : State) :
    comparatorStep code ext { s with fec := f } =
      ({ s with fec := f, trg := comparedTrg code ext s }, (comparatorStep code ext s).2) := by
  unfold comparedTrg comparatorStep
  dsimp only
  split
  · rfl
  · split <;> rfl

/-- R31, R48: the code that the comparator sees at an instant. -/
def seenCode (raw : Vector Byte 4) (s : State) : Nat := sourceCode (correctedCodes raw s) s

/-- R35, R48 to R53: the state after the calibration sum and the comparator have taken an instant. -/
def compared (raw : Vector Byte 4) (ext : Bool) (s : State) : State :=
  { s with fec := (sumCodes raw s).fec, trg := comparedTrg (seenCode raw s) ext s }

/-- R48 to R53: whether the comparator has made a qualifying event at an instant. -/
def comparedHit (raw : Vector Byte 4) (ext : Bool) (s : State) : Bool := (comparatorStep (seenCode raw s) ext s).2

/-- SAMPLE_CODE's effect: the sum and the comparator do not meet; then the event is offered and ACQ takes the instant. -/
theorem sampleInstant_eq (raw : Vector Byte 4) (ext : Bool) (s : State) :
    sampleInstant raw ext s =
      acqInstants (correctedCodes raw s) (offerEvent (comparedHit raw ext s) (compared raw ext s)) := by
  have step := comparatorStep_withFec (seenCode raw s) ext (sumCodes raw s).fec s
  rw [← sumCodes_eq] at step
  unfold sampleInstant
  dsimp only
  rw [show sourceCode (correctedCodes raw s) s = seenCode raw s from rfl, step]
  rfl

/-- R54: an event is accepted in READY with the holdoff counter IDLE. -/
theorem offerEvent_of_not {hit : Bool} {s : State} (h : ¬ (hit = true ∧ s.acq.state = .ready ∧ s.trg.holdoff = none)) :
    offerEvent hit s = s := by
  unfold offerEvent; rw [if_neg h]

/-- R101: without a segment in flight ACQ takes nothing of an instant. -/
theorem acqInstants_of_idle {codes : Vector Byte 4} {s : State} (h : s.acq.ctx = none) : acqInstants codes s = s := by
  have idle : acqInstant codes s = s := by unfold acqInstant; rw [h]
  unfold acqInstants
  rw [idle]
  simp [flightSeq, h]

/-- SAMPLE_CODE while the part is up. -/
theorem exec_sampleCode {s : State} (hup : s.lnk.startUp = false) (c1 c2 c3 c4 : Byte) (ext : Bool) :
    exec (.sampleCode c1 c2 c3 c4 ext) s = .next (nextInstant (sampleInstant #v[c1, c2, c3, c4] ext s)) := by
  show execSampleCode c1 c2 c3 c4 ext s = _
  simp [execSampleCode, hup]

/-- R31, R35, R48: SAMPLE_CODE without a segment in flight moves the comparator and the calibration sum, and one ns passes. -/
theorem exec_sampleCode_of_idle {s : State} (hup : s.lnk.startUp = false) (hctx : s.acq.ctx = none) (hst : s.acq.state ≠ .ready)
    (c1 c2 c3 c4 : Byte) (ext : Bool) :
    exec (.sampleCode c1 c2 c3 c4 ext) s = .next { s with
      now := s.now + 1
      fec := (sumCodes #v[c1, c2, c3, c4] s).fec
      trg := comparedTrg (seenCode #v[c1, c2, c3, c4] s) ext s } := by
  rw [exec_sampleCode hup, sampleInstant_eq, offerEvent_of_not (s := compared _ ext s) (fun h => hst h.2.1),
    acqInstants_of_idle (s := compared _ ext s) hctx]
  rfl

/-! ### CAL_STEP -/

/-- R35: the rounded mean, in the numbers of the rule. -/
theorem calValue_eq (sum : Nat) : calValue sum = 128 - ((sum : Int) + 128) / 256 := by
  unfold calValue; omega

/-- R26: the attenuator and the gain of a scale index encode it. -/
theorem drivenScale_of_scale (d : Drive) {scale : Nat} :
    drivenScale { d with atten := attenOf scale, gain := gainOf scale } = scale := by
  by_cases h : scale ≤ 6
  · simp [drivenScale, attenOf, gainOf, h]
  · simp [drivenScale, attenOf, gainOf, h]; omega

/-- R35: what the beginning of a step leaves. -/
theorem setCalScale_spec (k : Fin 52) (s : State) : (setCalScale k s) = { s with fec := (setCalScale k s).fec } ∧
    (setCalScale k s).fec = { s.fec with
      drive := (setCalScale k s).fec.drive, settle := (setCalScale k s).fec.settle
      calStep := some k, calSum := 0, calCodes := 0 } ∧
    drivenScale ((setCalScale k s).fec.drive[k.val / 13]'(by omega)) = k.val % 13 := by
  refine ⟨?_, ?_, ?_⟩
  · unfold setCalScale; rw [applyDrives_only]
  · unfold setCalScale; rw [applyDrives_fec]
  · unfold setCalScale
    rw [applyDrives_drive]
    simp [vmod, drivenScale_of_scale]

/-- R35: a step that has not taken its 256 codes does not end, nor with another sum than theirs (log 8). -/
theorem calStepEnds_of_open {sum : Nat} {s : State} {k : Fin 52} (hk : s.fec.calStep = some k)
    (h : s.fec.calCodes < 256 ∨ sum ≠ s.fec.calSum) : calStepEnds sum s = s := by
  unfold calStepEnds; rw [hk]; exact if_pos h

/-- R37: what the procedure reports where a step's value is out of range. -/
def stepFailure (k : Fin 52) (s : State) : CalFailure := ⟨⟨k.val / 13, by omega⟩, k.val % 13, calValue s.fec.calSum⟩

/-- R37: a value beyond 40 in magnitude ends the procedure FAILED. -/
theorem calStepEnds_of_failed {s : State} {k : Fin 52} (hk : s.fec.calStep = some k) (hc : s.fec.calCodes = 256)
    (h : 40 < (calValue s.fec.calSum).natAbs) :
    calStepEnds s.fec.calSum s = calEnds .failed (some (stepFailure k s)) .request s := by
  unfold calStepEnds
  rw [hk]
  simp [calStepCodes, hc, h, stepFailure]

/-- R35: the state with the step's value written into the staged table. -/
def stagedValue (k : Fin 52) (s : State) : State :=
  { s with fec := { s.fec with staged := s.fec.staged.set k (clampInt (-32) 31 (calValue s.fec.calSum)) } }

/-- R35, R36: a value within 40 is written, and the next step or the end of the procedure follows. -/
theorem calStepEnds_of_written {s : State} {k : Fin 52} (hk : s.fec.calStep = some k) (hc : s.fec.calCodes = 256)
    (h : (calValue s.fec.calSum).natAbs ≤ 40) :
    calStepEnds s.fec.calSum s = if hnext : k.val + 1 < 52 then setCalScale ⟨k.val + 1, hnext⟩ (stagedValue k s)
      else calEnds .ok none .request (adoptStaged (stagedValue k s)) := by
  unfold calStepEnds
  rw [hk]
  simp only [calStepCodes, hc, lt_irrefl, ne_eq, not_true_eq_false, or_self, if_false, Nat.not_lt.2 h]
  rfl

/-- Settles O22: the sum of a step, and the three ends of one. -/
theorem calStepWritesOrFails : Obligations.CalStepWritesOrFails := by
  refine ⟨fun c1 c2 c3 c4 ext k s hup hst hctx hk => ?_, fun k s hup hk => ?_⟩
  · refine ⟨_, exec_sampleCode_of_idle hup hctx (by rw [hst]; simp) c1 c2 c3 c4 ext, rfl, ?_⟩
    exact sumCodes_fec_of_step hk
  · have ends : ∀ sum, exec (.calStep sum) s = .next (calStepEnds sum s) := fun sum => whenUp_of_up _ s hup
    dsimp only
    rw [← calValue_eq]
    refine ⟨fun sum h => ?_, fun hc h => ?_, fun hc h hnext => ?_, fun hc h hlast => ?_⟩
    · rw [ends, calStepEnds_of_open hk h]
    · rw [ends, calStepEnds_of_failed hk hc h]
      have ended := calEnds_ended .failed (some (stepFailure k s)) .request s
      exact ⟨_, rfl, ended.calStep, ended.live, ended.tableValid, by rw [ended.acq], ended.outbound⟩
    · rw [ends, calStepEnds_of_written hk hc h, dif_pos hnext]
      obtain ⟨honly, hfec, hscale⟩ := setCalScale_spec ⟨k.val + 1, hnext⟩ (stagedValue k s)
      refine ⟨_, rfl, ?_, ?_, ?_, ?_, ?_, ?_, ?_, ?_, hscale⟩
      · rw [hfec]
      · rw [hfec]
      · rw [hfec]
      · rw [hfec]; rfl
      · rw [hfec]; rfl
      · rw [hfec]; rfl
      · rw [honly]; rfl
      · rw [honly]; rfl
    · rw [ends, calStepEnds_of_written hk hc h, dif_neg (by omega)]
      have ended := calEnds_ended .ok none .request (adoptStaged (stagedValue k s))
      refine ⟨_, rfl, ended.calStep, ?_, ?_, by rw [ended.acq], ended.outbound⟩
      · rw [ended.live]; rfl
      · rw [ended.tableValid]; rfl

end Sys2Proof.Machine
end

section
/-! PROOF. The comparator and its qualifiers: one equation for all transitions, and the statements on SAMPLE_CODE in STOPPED and on
the taking of settings. -/

namespace Sys2Proof.Machine

/-! ### Thresholds and transitions -/

/-- R48: the upper threshold. -/
theorem upperOf_eq (h : TrigSettings) : upperOf h = if h.slope = .fall then min 255 (h.level + h.hysteresis) else h.level := by
  cases hs : h.slope <;> simp [upperOf, hs]

/-- R48: the lower threshold. -/
theorem lowerOf_eq (h : TrigSettings) : lowerOf h = if h.slope = .fall then h.level else h.level - h.hysteresis := by
  cases hs : h.slope <;> simp [lowerOf, hs]

/-- R48, R49: whether a code or EXT reading lies at the upper threshold. -/
def atUpper (h : TrigSettings) (code : Nat) (ext : Bool) : Bool :=
  match h.source with
  | .channel _ => decide (upperOf h ≤ code)
  | .ext => ext

/-- R48, R49: whether a code or EXT reading lies at the lower threshold. -/
def atLower (h : TrigSettings) (code : Nat) (ext : Bool) : Bool :=
  match h.source with
  | .channel _ => decide (code ≤ lowerOf h)
  | .ext => !ext

theorem atUpper_channel {h : TrigSettings} {n : Channel} (hs : h.source = .channel n) (code : Nat) (ext : Bool) :
    atUpper h code ext = decide (upperOf h ≤ code) := by simp [atUpper, hs]

theorem atLower_channel {h : TrigSettings} {n : Channel} (hs : h.source = .channel n) (code : Nat) (ext : Bool) :
    atLower h code ext = decide (code ≤ lowerOf h) := by simp [atLower, hs]

theorem atUpper_ext {h : TrigSettings} (hs : h.source = .ext) (code : Nat) (ext : Bool) : atUpper h code ext = ext := by
  simp [atUpper, hs]

theorem atLower_ext {h : TrigSettings} (hs : h.source = .ext) (code : Nat) (ext : Bool) : atLower h code ext = !ext := by
  simp [atLower, hs]

/-- R49: the DAC moves for EXT alone, to the threshold that comes next. -/
theorem dacFor_channel {h : TrigSettings} {n : Channel} (hs : h.source = .channel n) (high : Bool) (dac : Nat) :
    dacFor h high dac = dac := by simp [dacFor, hs]

theorem dacFor_ext {h : TrigSettings} (hs : h.source = .ext) (high : Bool) (dac : Nat) :
    dacFor h high dac = if high then lowerOf h else upperOf h := by simp [dacFor, hs]

/-- The transition that rises, or falls, or none. -/
def transitionBy (rising falling : Bool) : Transition := if rising then .rising else if falling then .falling else .none

/-- R48, R49: from LOW a reading at the upper threshold rises, and from HIGH one at the lower threshold falls. -/
theorem transitionOf_eq (h : TrigSettings) (high : Bool) (code : Nat) (ext : Bool) :
    transitionOf h high code ext = transitionBy (!high && atUpper h code ext) (high && atLower h code ext) := by
  unfold transitionOf atUpper atLower
  cases h.source with
  | channel n =>
    by_cases hu : upperOf h ≤ code <;> by_cases hl : code ≤ lowerOf h <;> cases high <;> simp [hu, hl, transitionBy]
  | ext => cases high <;> cases ext <;> rfl

/-- R51: the transitions that an EDGE slope names. -/
theorem slopeNames_transitionBy (sl : Slope) (rising falling : Bool) (hno : ¬ (rising = true ∧ falling = true)) :
    slopeNames sl (transitionBy rising falling) =
      ((rising && decide (sl ≠ .fall)) || (falling && decide (sl ≠ .rise))) := by
  revert hno
  cases sl <;> cases rising <;> cases falling <;> simp [transitionBy, slopeNames]

/-- R52: the transitions that close a pulse. -/
theorem closesPulse_transitionBy (sl : Slope) (rising falling : Bool) (hno : ¬ (rising = true ∧ falling = true)) (q : OpenPulse) :
    closesPulse sl (transitionBy rising falling) q =
      (if q.positive then falling && decide (sl ≠ .fall) else rising && decide (sl ≠ .rise)) := by
  revert hno
  cases hp : q.positive <;> cases sl <;> cases rising <;> cases falling <;> simp [transitionBy, closesPulse, hp]

/-- R52: what a transition leaves of the qualifier: the pulse that it opens, none where it closes one, and otherwise what stood. -/
theorem qualifierAfter_transitionBy (sl : Slope) (rising falling : Bool) (hno : ¬ (rising = true ∧ falling = true)) (now : Instant)
    (q : Option OpenPulse) :
    qualifierAfter sl (transitionBy rising falling) now q =
      if rising = true ∧ sl ≠ .fall then some ⟨true, now⟩
      else if falling = true ∧ sl ≠ .rise then some ⟨false, now⟩
      else if (q.filter (closesPulse sl (transitionBy rising falling))).isSome then none else q := by
  revert hno
  cases q with
  | none => cases sl <;> cases rising <;> cases falling <;> simp [transitionBy, qualifierAfter]
  | some p =>
    cases hp : p.positive <;> cases sl <;> cases rising <;> cases falling <;>
      simp [transitionBy, qualifierAfter, closesPulse, hp, Option.filter]

/-! ### The comparator -/

/-- R48 to R53, R61: TRG after a transition, or none, of the comparator. -/
def movedTrg (t : Transition) (now : Instant) (g : Trg) : Trg :=
  { g with
    high := if t = .rising then true else if t = .falling then false else g.high
    dac := if t = .none then g.dac else dacFor g.held (decide (t = .rising)) g.dac
    qualifier := if g.held.pulse then qualifierAfter g.held.slope t now g.qualifier else g.qualifier
    count := if isQualifying g.held t now g.qualifier then g.count + 1 else g.count }

/-- Without a transition there is no event, and TRG stands. -/
theorem isQualifying_none (h : TrigSettings) (now : Instant) (q : Option OpenPulse) : isQualifying h .none now q = false := by
  unfold isQualifying
  split
  · cases q with
    | none => rfl
    | some p => cases hs : h.slope <;> simp [closesPulse]
  · cases hs : h.slope <;> rfl

theorem qualifierAfter_none (sl : Slope) (now : Instant) (q : Option OpenPulse) : qualifierAfter sl .none now q = q := by
  cases q with
  | none => cases sl <;> rfl
  | some p => cases sl <;> simp [qualifierAfter, closesPulse, Option.filter]

theorem movedTrg_none (now : Instant) (g : Trg) : movedTrg .none now g = g := by
  simp [movedTrg, isQualifying_none, qualifierAfter_none]

/-- R48 to R53: the comparator with no seed pending, whatever its transition. -/
theorem comparatorStep_of_seeded {code : Nat} {ext : Bool} {s : State} (h : s.trg.seedPending = false) :
    comparatorStep code ext s =
      ({ s with trg := movedTrg (transitionOf s.trg.held s.trg.high code ext) s.now s.trg },
       isQualifying s.trg.held (transitionOf s.trg.held s.trg.high code ext) s.now s.trg.qualifier) := by
  unfold comparatorStep
  cases ht : transitionOf s.trg.held s.trg.high code ext with
  | none => simp [h, ht, movedTrg_none, isQualifying_none]
  | rising => simp [h, ht, movedTrg]
  | falling => simp [h, ht, movedTrg]

/-- R50: the comparator with a seed pending. -/
theorem comparatorStep_of_seed {code : Nat} {ext : Bool} {s : State} (h : s.trg.seedPending = true) :
    comparatorStep code ext s =
      ({ s with trg := { s.trg with
          seedPending := false
          high := seedOf s.trg.held code ext
          dac := dacFor s.trg.held (seedOf s.trg.held code ext) s.trg.dac } }, false) := by
  unfold comparatorStep
  simp [h]

/-! ### The code that the comparator sees -/

theorem seenCode_channel {raw : Vector Byte 4} {s : State} {n : Channel} (h : s.trg.held.source = .channel n) :
    seenCode raw s = (correctCode raw[n] (liveCal n s)).toNat := by
  simp [seenCode, sourceCode, h, correctedCodes, correctedCode]

/-- R31: the correction keeps 0 and 255, and every other corrected code is clamped to 1..254. -/
theorem correctCode_toNat (r : Byte) (cal : Int) :
    (correctCode r cal).toNat = if r = 0 ∨ r = 255 then r.toNat else (max 1 (min 254 ((r.toNat : Int) + cal))).toNat := by
  unfold correctCode
  split
  · rfl
  · have hr := r.isLt
    rw [BitVec.toNat_ofInt]
    unfold clampInt
    omega

/-! ### EDGE in STOPPED -/

/-- R48 to R53: TRG after an instant, with a seed pending and without. -/
theorem comparedTrg_of_seed {code : Nat} {ext : Bool} {s : State} (h : s.trg.seedPending = true) :
    comparedTrg code ext s = { s.trg with
      seedPending := false
      high := seedOf s.trg.held code ext
      dac := dacFor s.trg.held (seedOf s.trg.held code ext) s.trg.dac } := by
  unfold comparedTrg; rw [comparatorStep_of_seed h]

theorem comparedTrg_of_seeded {code : Nat} {ext : Bool} {s : State} (h : s.trg.seedPending = false) :
    comparedTrg code ext s = movedTrg (transitionBy (!s.trg.high && atUpper s.trg.held code ext)
      (s.trg.high && atLower s.trg.held code ext)) s.now s.trg := by
  unfold comparedTrg; rw [comparatorStep_of_seeded h, transitionOf_eq]

/-- R51: a channel's code with type EDGE: the comparator moves by the two thresholds, and a transition that the slope names is
counted. -/
theorem movedTrg_edge_channel {g : Trg} {n : Channel} (hp : g.held.pulse = false) (hs : g.held.source = .channel n) (code : Nat)
    (ext : Bool) (now : Instant) :
    movedTrg (transitionBy (!g.high && atUpper g.held code ext) (g.high && atLower g.held code ext)) now g =
      { g with
        high := if g.high = false ∧ upperOf g.held ≤ code then true
          else if g.high = true ∧ code ≤ lowerOf g.held then false else g.high
        count := if ((g.high = false ∧ upperOf g.held ≤ code) ∧ g.held.slope ≠ .fall) ∨
            ((g.high = true ∧ code ≤ lowerOf g.held) ∧ g.held.slope ≠ .rise) then g.count + 1 else g.count } := by
  unfold movedTrg isQualifying
  rw [atUpper_channel hs, atLower_channel hs, hp]
  simp only [dacFor_channel hs, ite_self, Bool.false_eq_true, if_false]
  cases hh : g.high with
  | false =>
    rw [slopeNames_transitionBy _ _ _ (by simp)]
    by_cases hu : upperOf g.held ≤ code <;> simp [hu, transitionBy]
  | true =>
    rw [slopeNames_transitionBy _ _ _ (by simp)]
    by_cases hl : code ≤ lowerOf g.held <;> simp [hl, transitionBy]

/-- R49, R51: an EXT reading with type EDGE: the DAC holds the threshold that comes next. -/
theorem movedTrg_edge_ext {g : Trg} (hp : g.held.pulse = false) (hs : g.held.source = .ext) (code : Nat) (ext : Bool)
    (now : Instant) :
    movedTrg (transitionBy (!g.high && atUpper g.held code ext) (g.high && atLower g.held code ext)) now g =
      { g with
        high := ext
        dac := if g.high = false ∧ ext = true then lowerOf g.held
          else if g.high = true ∧ ext = false then upperOf g.held else g.dac
        count := if ((g.high = false ∧ ext = true) ∧ g.held.slope ≠ .fall) ∨
            ((g.high = true ∧ ext = false) ∧ g.held.slope ≠ .rise) then g.count + 1 else g.count } := by
  unfold movedTrg isQualifying
  rw [atUpper_ext hs, atLower_ext hs, hp]
  simp only [dacFor_ext hs, Bool.false_eq_true, if_false]
  cases hh : g.high with
  | false =>
    rw [slopeNames_transitionBy _ _ _ (by simp)]
    cases ext <;> simp [transitionBy]
  | true =>
    rw [slopeNames_transitionBy _ _ _ (by simp)]
    cases ext <;> simp [transitionBy]

/-! ### The taking of settings -/

/-- R47: what each part of TRG becomes when the settings are taken. -/
theorem takenTrg_same {s : State} (h : settingsOf s.setup = s.trg.held) : takenTrg s = s.trg := by
  have hdac : dacAfterTaking s.trg.held s.trg.held s.trg.high s.trg.dac = s.trg.dac := by
    by_cases hs : s.trg.held.source = .ext <;> simp [dacAfterTaking, thresholdsDiffer, hs]
  simp [takenTrg, h, hdac, thresholdsDiffer, holdoffAfterTaking]

/-- R47, R56: a running holdoff counter ends where the new holdoff is already over. -/
theorem holdoffAfterTaking_some (old new : TrigSettings) (now since : Instant) :
    holdoffAfterTaking old new now (some since) =
      if old.holdoff ≠ new.holdoff ∧ new.holdoff ≤ now - since then none else some since := by
  unfold holdoffAfterTaking
  by_cases h : old.holdoff = new.holdoff
  · simp [h]
  · by_cases hl : new.holdoff ≤ now - since
    · simp [h, hl, Option.filter]
    · simp [h, hl, Option.filter]

theorem holdoffAfterTaking_none (old new : TrigSettings) (now : Instant) : holdoffAfterTaking old new now none = none := by
  unfold holdoffAfterTaking
  split <;> rfl

/-- R46: the settings that a record gives, each by its field. -/
theorem settingsOf_eq (r : Setup) : settingsOf r =
    { source := recordSource r, pulse := decide (r.get 97 = 1)
      slope := if r.get 98 = 0 then .rise else if r.get 98 = 1 then .fall else .either
      level := (r.get 99).toNat, hysteresis := (r.get 100).toNat, greater := decide (r.get 101 = 1)
      pulseLimit := (r.get 102).toNat, holdoff := (r.get 103).toNat, gate1000 := decide (r.get 105 = 1) } := by
  have slope : ∀ v : Int, (match v with | 0 => Slope.rise | 1 => .fall | _ => .either) =
      if v = 0 then .rise else if v = 1 then .fall else .either := by
    intro v
    split
    · rfl
    · rfl
    · rename_i h0 h1; rw [if_neg h0, if_neg h1]
  unfold settingsOf
  rw [← slope]
  rfl

/-- R47: thresholds differ where slope, level or hysteresis do. -/
theorem thresholdsDiffer_iff (a b : TrigSettings) :
    thresholdsDiffer a b = true ↔ a.slope ≠ b.slope ∨ a.level ≠ b.level ∨ a.hysteresis ≠ b.hysteresis := by
  simp [thresholdsDiffer, or_assoc]

/-- R47, R49, R50: the DAC after the taking of settings. -/
theorem dacAfterTaking_eq (old new : TrigSettings) (high : Bool) (dac : Nat) :
    dacAfterTaking old new high dac = if new.source ≠ .ext then dac else if old.source ≠ .ext then upperOf new
      else if old.slope ≠ new.slope ∨ old.level ≠ new.level ∨ old.hysteresis ≠ new.hysteresis
        then (if high then lowerOf new else upperOf new) else dac := by
  unfold dacAfterTaking
  simp only [thresholdsDiffer_iff]

/-- R47: TRG after the taking of settings, part by part. -/
theorem takenTrg_eq (s : State) {new : TrigSettings} (h : new = settingsOf s.setup) : takenTrg s =
    { s.trg with
      held := new
      seedPending := s.trg.seedPending || decide (s.trg.held.source ≠ new.source)
      dac := dacAfterTaking s.trg.held new s.trg.high s.trg.dac
      qualifier := if s.trg.held.source ≠ new.source ∨ s.trg.held.pulse ≠ new.pulse ∨ s.trg.held.slope ≠ new.slope ∨
          s.trg.held.level ≠ new.level ∨ s.trg.held.hysteresis ≠ new.hysteresis then none else s.trg.qualifier
      holdoff := holdoffAfterTaking s.trg.held new s.now s.trg.holdoff
      gateStart := if s.trg.held.source ≠ new.source ∨ s.trg.held.pulse ≠ new.pulse ∨ s.trg.held.slope ≠ new.slope ∨
          s.trg.held.gate1000 ≠ new.gate1000 then s.now else s.trg.gateStart
      count := if s.trg.held.source ≠ new.source ∨ s.trg.held.pulse ≠ new.pulse ∨ s.trg.held.slope ≠ new.slope ∨
          s.trg.held.gate1000 ≠ new.gate1000 then 0 else s.trg.count } := by
  subst h
  unfold takenTrg
  simp only [Bool.or_eq_true, decide_eq_true_eq, bne_iff_ne, thresholdsDiffer_iff, or_assoc]

/-- Settles O23: the correction of codes, the comparator with type EDGE, and the taking of settings. -/
theorem sampleCodeDrivesTheComparator : Obligations.SampleCodeDrivesTheComparator := by
  refine ⟨fun r cal _ _ => correctCode_toNat r cal, ?_, ?_⟩
  · intro c1 c2 c3 c4 ext s hup hst hctx hpulse h upper lower fec
    have hfec : (sumCodes #v[c1, c2, c3, c4] s).fec = fec := by
      cases hk : s.fec.calStep with
      | none => simp only [sumCodes_of_idle hk, fec, hk]
      | some k => simp only [sumCodes_fec_of_step hk, fec, hk]
    have hupper : upperOf h = upper := upperOf_eq h
    have hlower : lowerOf h = lower := lowerOf_eq h
    have instant := exec_sampleCode_of_idle hup hctx (by rw [hst]; simp) c1 c2 c3 c4 ext
    rw [hfec] at instant
    refine ⟨fun n hn => ?_, fun hext => ?_⟩
    · rw [seenCode_channel hn] at instant
      rw [← hupper, ← hlower]
      cases hseed : s.trg.seedPending with
      | true =>
        rw [comparedTrg_of_seed hseed] at instant
        simpa [seedOf, dacFor, hn, h] using instant
      | false =>
        rw [comparedTrg_of_seeded hseed, movedTrg_edge_channel hpulse hn] at instant
        simpa using instant
    · rw [← hupper, ← hlower]
      cases hseed : s.trg.seedPending with
      | true =>
        rw [comparedTrg_of_seed hseed] at instant
        simpa [seedOf, dacFor, hext, h] using instant
      | false =>
        rw [comparedTrg_of_seeded hseed, movedTrg_edge_ext hpulse hext] at instant
        simpa using instant
  · intro s old t new thresholds upper lower
    have htrg : t.trg = takenTrg s := takeSettings_trg s
    have hnew : new = settingsOf s.setup := by simp only [new, htrg]; rfl
    have hupper : upperOf new = upper := upperOf_eq new
    have hlower : lowerOf new = lower := lowerOf_eq new
    have hrec := hnew.trans (settingsOf_eq s.setup)
    have only : t = { s with trg := t.trg, fec := t.fec } := takeSettings_only s
    have hfec : old.source = new.source → t.fec = s.fec := fun hs => by
      rw [hnew] at hs
      simp only [t, takeSettings_eq]
      rw [if_neg (not_not.2 hs)]
    rw [htrg] at only ⊢
    rw [← hupper, ← hlower, takenTrg_eq s hnew]
    refine ⟨by rw [hrec], by rw [hrec], by rw [hrec], by rw [hrec], by rw [hrec], by rw [hrec], by rw [hrec], by rw [hrec],
      by rw [hrec], rfl, rfl, dacAfterTaking_eq _ _ _ _, rfl, ?_, rfl, fun since hs => ?_, fun hs => ?_, ?_, hfec, fun hsame => ?_⟩
    · split <;> exact ⟨rfl, rfl⟩
    · rw [← holdoffAfterTaking_some, ← hs]
    · rw [← holdoffAfterTaking_none old new s.now, ← hs]
    · rw [← takenTrg_eq s hnew]; exact only
    · rw [← takenTrg_eq s hnew]; exact takenTrg_same (hnew.symm.trans hsame)

end Sys2Proof.Machine
end

section
/-! PROOF. Pulses: the opening and closing transitions of type PULSE. -/

namespace Sys2Proof.Machine

/-- R53: with type PULSE an event is the close of an open pulse whose width qualifies. -/
theorem isQualifying_pulse {h : TrigSettings} (hp : h.pulse = true) (t : Transition) (now : Instant) (q : Option OpenPulse) :
    isQualifying h t now q =
      (q.filter (closesPulse h.slope t)).any (fun p => pulseQualifies h (pulseWidth p.opened now)) := by
  unfold isQualifying
  rw [hp, if_pos rfl]
  cases q with
  | none => rfl
  | some p => cases hc : closesPulse h.slope t p <;> simp [Option.filter, hc]

/-- R53: the side of the limit on which a width qualifies. -/
theorem pulseQualifies_iff (h : TrigSettings) (w : Nat) :
    pulseQualifies h w = true ↔ if h.greater = true then h.pulseLimit < w else w < h.pulseLimit := by
  cases hg : h.greater <;> simp [pulseQualifies, hg]

/-- R52: which transitions close a pulse, as a function of the pulse. -/
theorem closesPulse_transitionBy_fun (sl : Slope) {rising falling : Bool} (hno : ¬ (rising = true ∧ falling = true)) :
    closesPulse sl (transitionBy rising falling) =
      fun q => if q.positive then falling && decide (sl ≠ .fall) else rising && decide (sl ≠ .rise) :=
  funext (closesPulse_transitionBy sl rising falling hno)

/-- R52, R53: TRG after an instant of type PULSE: the pulse closed, the one opened, the count, and the DAC of EXT. -/
theorem movedTrg_pulse {g : Trg} (hp : g.held.pulse = true) {rising falling : Bool} (hno : ¬ (rising = true ∧ falling = true))
    (now : Instant) :
    movedTrg (transitionBy rising falling) now g =
      { g with
        high := if rising then true else if falling then false else g.high
        dac := if rising then dacFor g.held true g.dac else if falling then dacFor g.held false g.dac else g.dac
        qualifier := if rising = true ∧ g.held.slope ≠ .fall then some ⟨true, now⟩
          else if falling = true ∧ g.held.slope ≠ .rise then some ⟨false, now⟩
          else if (g.qualifier.filter (closesPulse g.held.slope (transitionBy rising falling))).isSome then none else g.qualifier
        count := if (g.qualifier.filter (closesPulse g.held.slope (transitionBy rising falling))).any
            (fun p => pulseQualifies g.held (pulseWidth p.opened now)) then g.count + 1 else g.count } := by
  have hhigh : (if transitionBy rising falling = .rising then true else if transitionBy rising falling = .falling then false else g.high)
      = (if rising then true else if falling then false else g.high) := by
    cases rising <;> cases falling <;> rfl
  have hdac : (if transitionBy rising falling = .none then g.dac
      else dacFor g.held (decide (transitionBy rising falling = .rising)) g.dac)
      = (if rising then dacFor g.held true g.dac else if falling then dacFor g.held false g.dac else g.dac) := by
    cases rising <;> cases falling <;> rfl
  unfold movedTrg
  rw [hhigh, hdac, isQualifying_pulse hp, hp, if_pos rfl, qualifierAfter_transitionBy _ _ _ hno]

/-- R48: a comparator does not rise and fall at once. -/
theorem not_rising_and_falling (high up low : Bool) : ¬ ((!high && up) = true ∧ (high && low) = true) := by
  cases high <;> simp

/-- R52, R53: the transition that closes the open pulse. -/
theorem movedTrg_closing {g : Trg} {q : OpenPulse} (hp : g.held.pulse = true) (hq : g.qualifier = some q)
    (hhigh : g.high = q.positive) (hslope : if q.positive then g.held.slope ≠ .fall else g.held.slope ≠ .rise)
    (hdac : ∀ b, dacFor g.held b g.dac = g.dac) (now : Instant) :
    movedTrg (transitionBy (!q.positive) q.positive) now g =
      { g with
        high := !g.high
        qualifier := if g.held.slope = .either then some ⟨!q.positive, now⟩ else none
        count := if pulseQualifies g.held (pulseWidth q.opened now) then g.count + 1 else g.count } := by
  rw [movedTrg_pulse hp (by cases q.positive <;> simp), closesPulse_transitionBy_fun _ (by cases q.positive <;> simp), hq, hhigh]
  simp only [hdac]
  cases hpos : q.positive <;> cases hs : g.held.slope <;> simp [hpos, hs, Option.filter] at hslope ⊢

/-- Settles O24: the closing transition in every state, and SAMPLE_CODE in STOPPED. -/
theorem closingTransitionJudgesThePulse : Obligations.ClosingTransitionJudgesThePulse := by
  refine ⟨?_, ?_⟩
  · intro code ext n q s hp hsrc hseed hq hhigh hclose w qualifies
    have hslope : if q.positive then s.trg.held.slope ≠ .fall else s.trg.held.slope ≠ .rise := by
      split at hclose
      · rename_i hpos; rw [if_pos hpos]; exact hclose.1
      · rename_i hpos; rw [if_neg hpos]; exact hclose.1
    have htrans : transitionOf s.trg.held s.trg.high code ext = transitionBy (!q.positive) q.positive := by
      rw [transitionOf_eq, hhigh]
      rw [atUpper_channel hsrc, atLower_channel hsrc]
      cases hpos : q.positive <;> simp only [hpos, Bool.false_eq_true, if_true, if_false] at hclose <;> simp [hclose.2]
    have hqual : pulseQualifies s.trg.held (pulseWidth q.opened s.now) = decide qualifies := by
      rw [Bool.eq_iff_iff, decide_eq_true_eq]
      exact pulseQualifies_iff _ _
    have hhit : isQualifying s.trg.held (transitionBy (!q.positive) q.positive) s.now s.trg.qualifier = decide qualifies := by
      rw [isQualifying_pulse hp, closesPulse_transitionBy_fun _ (by cases q.positive <;> simp), hq, ← hqual]
      cases hpos : q.positive <;> simp [hpos] at hslope <;> simp [Option.filter, hpos, hslope]
    rw [comparatorStep_of_seeded hseed, htrans, movedTrg_closing hp hq hhigh hslope (fun b => dacFor_channel hsrc b _), hhit, hqual]
    simp only [decide_eq_true_eq]
  · intro c1 c2 c3 c4 ext s hup hst hctx hcal hp hseed h upper lower after
    have hupper : upperOf h = upper := upperOf_eq h
    have hlower : lowerOf h = lower := lowerOf_eq h
    have instant := exec_sampleCode_of_idle hup hctx (by rw [hst]; simp) c1 c2 c3 c4 ext
    rw [sumCodes_of_idle hcal, comparedTrg_of_seeded hseed,
      movedTrg_pulse hp (not_rising_and_falling _ _ _), closesPulse_transitionBy_fun _ (not_rising_and_falling _ _ _)] at instant
    refine ⟨fun n hn => ?_, fun hext => ?_⟩
    · have hsrc : s.trg.held.source = .channel n := hn
      rw [seenCode_channel hsrc] at instant
      rw [← hupper, ← hlower]
      simp only [atUpper_channel hsrc, atLower_channel hsrc, dacFor_channel hsrc, ite_self] at instant
      exact instant
    · have hsrc : s.trg.held.source = .ext := hext
      rw [← hupper, ← hlower]
      have hdac : (if (!s.trg.high && ext) = true then lowerOf h else if (s.trg.high && !ext) = true then upperOf h else s.trg.dac) =
          if s.trg.high = false ∧ ext = true then lowerOf h else if s.trg.high = true ∧ ext = false then upperOf h else s.trg.dac := by
        simp only [Bool.and_eq_true, Bool.not_eq_true']
      simp only [atUpper_ext hsrc, atLower_ext hsrc, dacFor_ext hsrc, if_true, Bool.false_eq_true, if_false] at instant
      rw [← hdac]
      exact instant

end Sys2Proof.Machine
end

section
/-! PROOF. The ends of the timers, and the AUX output. -/

namespace Sys2Proof.Machine

/-- R30: outside SETTLING the end of the settle timer is the timer's alone. -/
theorem settleExpires_of_running {s : State} {d : Instant} (hd : s.fec.settle = some d) (hst : s.acq.state ≠ .settling) :
    settleExpires s = { s with now := max s.now d, fec := { s.fec with settle := none } } := by
  unfold settleExpires
  rw [hd]
  exact if_neg hst

/-- R56: the end of the holdoff counter. -/
theorem holdoffEnds_of_running {s : State} {since : Instant} (h : s.trg.holdoff = some since) :
    holdoffEnds s = { s with now := max s.now (since + s.trg.held.holdoff), trg := { s.trg with holdoff := none } } := by
  unfold holdoffEnds; rw [h]; rfl

/-- R60: the end of the trigger pulse. -/
theorem triggerPulseEnds_of_running {s : State} {d : Instant} (h : s.trg.pulse = some d) :
    triggerPulseEnds s = { s with now := max s.now d, trg := { s.trg with pulse := none } } := by
  unfold triggerPulseEnds; rw [h]; rfl

/-- R60: the end of the triggered indication. -/
theorem indicationEnds_of_running {s : State} {d : Instant} (h : s.trg.indication = some d) :
    indicationEnds s = { s with now := max s.now d, trg := { s.trg with indication := none } } := by
  unfold indicationEnds; rw [h]; rfl

/-- R176: the end of a sound. -/
theorem beeperEnds_of_sounding {s : State} {b : Sound} (h : s.pnl.beeper = some b) :
    beeperEnds s = { s with now := max s.now b.until_, pnl := { s.pnl with beeper := none } } := by
  unfold beeperEnds; rw [h]; rfl

/-- R64: AUX by its mode. -/
theorem auxOut_eq (s : State) : auxOut s =
    if s.trg.auxMode = none then false else if s.trg.auxMode = some 0 then s.trg.squareHigh
    else if s.trg.auxMode = some 1 then s.trg.pulse.isSome else decide (s.trg.auxMode ≠ some 2) := by
  unfold auxOut
  split <;> simp_all

/-- Settles O25: each timer's end at its deadline, and AUX by its mode. -/
theorem timersEndAtTheirDeadlines : Obligations.TimersEndAtTheirDeadlines := by
  refine ⟨fun s hup => ?_, fun s => ?_⟩
  · have up : ∀ f : State → State, whenUp f s = .next (f s) := fun f => whenUp_of_up f s hup
    refine ⟨fun d hd hst => ?_, fun since h => ?_, fun d h => ?_, fun d h => ?_, up squareWaveToggles, up blinkToggles,
      up backlightStarts, fun b h => ?_⟩
    · exact (up settleExpires).trans (congrArg _ (settleExpires_of_running hd hst))
    · exact (up holdoffEnds).trans (congrArg _ (holdoffEnds_of_running h))
    · exact (up triggerPulseEnds).trans (congrArg _ (triggerPulseEnds_of_running h))
    · exact (up indicationEnds).trans (congrArg _ (indicationEnds_of_running h))
    · exact (up beeperEnds).trans (congrArg _ (beeperEnds_of_sounding h))
  · refine ⟨fun tick => by simp [backlightHigh], fun h => ?_, fun h => ?_, fun h => ?_, fun h => ?_, fun h => ?_⟩ <;>
      simp [auxOut_eq, h]

end Sys2Proof.Machine
end

section
/-! PROOF. ACQ's part of a sample-clock instant: where a group is stored, and what a group start and an instant between group starts
make of the capture context. -/

namespace Sys2Proof.Machine

/-! ### Storing one group -/

/-- R101: sample memory after one code of each captured channel is stored, for a list of channels. -/
def storedDram (c : Capture) (r : SegRec) (q : Nat) (codes : Vector Byte 4) (ns : List Channel) (d : Store) : Store :=
  ns.foldl (fun d n => if c.set[n] then writePosition d r.pages[n] q codes[n] else d) d

/-- R101: the group is sample memory's alone. -/
theorem storeCodes_of_found {c : Capture} {r : SegRec} {s : State} (h : findSeg c.seq s = some r) (q : Nat)
    (codes : Vector Byte 4) :
    storeCodes c q codes s = { s with mem := { s.mem with dram := storedDram c r q codes channels s.mem.dram } } := by
  unfold storeCodes; rw [h]; rfl

theorem wf_writePosition {d : Store} (h : Store.wf d = true) (pages : List Nat) (q : Nat) (b : Byte) :
    Store.wf (writePosition d pages q b) = true := by
  unfold writePosition
  split
  · exact wf_storeWrite d _ b h
  · exact h

/-- R69: a code that is stored at a position is read at its address, and every other address reads as before. -/
theorem storeRead_writePosition {d : Store} (h : Store.wf d = true) (pages : List Nat) (q : Nat) (b : Byte) (a : Nat) :
    storeRead (writePosition d pages q b) a = if positionAddr pages q = some a then b else storeRead d a := by
  unfold writePosition
  split
  · rename_i x hx
    rw [storeRead_write d x a b h, hx]
    simp only [Option.some.injEq, eq_comm]
  · rename_i hx
    rw [hx]
    simp

theorem wf_storedStep {d : Store} (h : Store.wf d = true) (c : Capture) (r : SegRec) (q : Nat) (codes : Vector Byte 4)
    (n : Channel) : Store.wf (if c.set[n] then writePosition d r.pages[n] q codes[n] else d) = true := by
  split
  · exact wf_writePosition h _ _ _
  · exact h

/-- R101: one channel's part of a group, read at any address. -/
theorem storeRead_storedStep {d : Store} (h : Store.wf d = true) (c : Capture) (r : SegRec) (q : Nat) (codes : Vector Byte 4)
    (n : Channel) (a : Nat) :
    storeRead (if c.set[n] then writePosition d r.pages[n] q codes[n] else d) a =
      if c.set[n] = true ∧ positionAddr r.pages[n] q = some a then codes[n] else storeRead d a := by
  cases hs : c.set[n] with
  | false => simp
  | true => simp [storeRead_writePosition h]

/-- R101: an address that no captured channel writes reads as before. -/
theorem storeRead_storedDram_other {c : Capture} {r : SegRec} {q : Nat} {a : Nat}
    (h : ∀ n : Channel, c.set[n] = true → positionAddr r.pages[n] q ≠ some a) (codes : Vector Byte 4) (ns : List Channel)
    {d : Store} (hd : Store.wf d = true) : storeRead (storedDram c r q codes ns d) a = storeRead d a := by
  induction ns generalizing d with
  | nil => rfl
  | cons n rest ih =>
    have step := (storeRead_storedStep hd c r q codes n a).trans (if_neg (fun ⟨hs, ha⟩ => h n hs ha))
    exact (ih (wf_storedStep hd c r q codes n)).trans step

/-- R101: an address that one captured channel alone writes reads its code. -/
theorem storeRead_storedDram_own {c : Capture} {r : SegRec} {q : Nat} {a : Nat} {n : Channel} (hset : c.set[n] = true)
    (haddr : positionAddr r.pages[n] q = some a)
    (honly : ∀ m : Channel, c.set[m] = true → m ≠ n → positionAddr r.pages[m] q ≠ some a) (codes : Vector Byte 4)
    (ns : List Channel) {d : Store} (hd : Store.wf d = true) :
    storeRead (storedDram c r q codes ns d) a = if n ∈ ns then codes[n] else storeRead d a := by
  induction ns generalizing d with
  | nil => rfl
  | cons m rest ih =>
    have tail := ih (wf_storedStep hd c r q codes m)
    by_cases hm : m = n
    · subst hm
      have step := (storeRead_storedStep hd c r q codes m a).trans (if_pos ⟨hset, haddr⟩)
      rw [step, ite_self] at tail
      rw [if_pos List.mem_cons_self]
      exact tail
    · have step := (storeRead_storedStep hd c r q codes m a).trans (if_neg (fun ⟨hs, ha⟩ => honly m hs hm ha))
      rw [step] at tail
      exact tail.trans (by simp [Ne.symm hm])

theorem mem_channels (n : Channel) : n ∈ channels := by fin_cases n <;> simp [channels]

/-! ### One instant of a capture -/

/-- R101: the phase after this instant. -/
def nextPhase (c : Capture) : Nat := if c.phase + 1 < c.d then c.phase + 1 else 0

/-- R101: the state after a group start: the group stored, the counters of the context, and the instant counted. -/
def groupStored (c : Capture) (q : Nat) (codes : Vector Byte 4) (s : State) : State :=
  countInstant { storeCodes c q codes s with acq :=
    { (storeCodes c q codes s).acq with ctx := some (countGroup s.acq.state q codes c) } }

/-- R101: between group starts nothing is stored. -/
theorem acqInstant_between {codes : Vector Byte 4} {s : State} {c : Capture} (hc : s.acq.ctx = some c) (hp : c.phase ≠ 0) :
    acqInstant codes s = countInstant s := by
  unfold acqInstant; rw [hc]; exact if_neg hp

/-- R102: nor at a group start without a position, in a ring of no positions. -/
theorem acqInstant_unstored {codes : Vector Byte 4} {s : State} {c : Capture} (hc : s.acq.ctx = some c)
    (hq : nextPosition s.acq.state c = none) : acqInstant codes s = countInstant s := by
  unfold acqInstant
  rw [hc]
  dsimp only
  rw [hq]
  exact ite_self _

/-- R101 to R105: a group start stores its group, and READY or the completion may follow. -/
theorem acqInstant_start {codes : Vector Byte 4} {s : State} {c : Capture} {q : Nat} (hc : s.acq.ctx = some c) (hp : c.phase = 0)
    (hq : nextPosition s.acq.state c = some q) :
    acqInstant codes s = completeIfFull (readyIfFilled (groupStored c q codes s)) := by
  unfold acqInstant
  rw [hc]
  dsimp only
  rw [if_pos hp, hq]
  rfl

/-- R101: where the same segment stays in flight, or none does, the instant is ACQ's once. -/
theorem acqInstants_of_same {codes : Vector Byte 4} {s : State} (h : flightSeq (acqInstant codes s) = flightSeq s) :
    acqInstants codes s = acqInstant codes s := by
  unfold acqInstants
  dsimp only
  rw [if_neg (fun hne => hne.2.2 h.symm)]

/-- R101: the instant counted in a context. -/
theorem countInstant_ctx {s : State} {c : Capture} (h : s.acq.ctx = some c) :
    countInstant s = { s with acq := { s.acq with ctx := some { c with phase := nextPhase c } } } := by
  unfold countInstant; rw [h]; rfl

/-- R105: outside POST_FILL no segment completes. -/
theorem completeIfFull_of_not_postFill {s : State} (h : s.acq.state ≠ .postFill) : completeIfFull s = s := by
  unfold completeIfFull
  split
  · contradiction
  · rfl

/-- R105: nor while post-trigger samples are left. -/
theorem completeIfFull_of_room {s : State} {c : Capture} (hc : s.acq.ctx = some c) (h : c.p + c.post < c.n) :
    completeIfFull s = s := by
  unfold completeIfFull
  split
  · rename_i hc'
    rw [hc] at hc'
    cases hc'
    exact if_neg (by omega)
  · rfl

/-- R105: in POST_FILL with none left the segment completes. -/
theorem completeIfFull_of_full {s : State} {c : Capture} (hst : s.acq.state = .postFill) (hc : s.acq.ctx = some c)
    (h : c.n ≤ c.p + c.post) : completeIfFull s = complete c s := by
  unfold completeIfFull
  rw [hst, hc]
  exact if_pos h

/-- R102: READY is entered from PRE_FILL alone. -/
theorem readyIfFilled_of_not_preFill {s : State} (h : s.acq.state ≠ .preFill) : readyIfFilled s = s := by
  unfold readyIfFilled
  split
  · contradiction
  · rfl

/-- R102: nor before the ring is full. -/
theorem readyIfFilled_of_room {s : State} {c : Capture} (hc : s.acq.ctx = some c) (h : c.ring < c.p) : readyIfFilled s = s := by
  unfold readyIfFilled
  split
  · rename_i hc'
    rw [hc] at hc'
    cases hc'
    exact if_neg (by omega)
  · rfl

/-- R102: a full ring enters READY. -/
theorem readyIfFilled_of_full {s : State} {c : Capture} (hst : s.acq.state = .preFill) (hc : s.acq.ctx = some c)
    (h : c.p ≤ c.ring) : readyIfFilled s = completeIfFull (enterReady s) := by
  unfold readyIfFilled
  rw [hst, hc]
  exact if_pos h

/-- R101: the clip notes of a group. -/
def groupNotes (q : Nat) (codes : Vector Byte 4) (c : Capture) : Vector (List Nat) 4 :=
  .ofFn (fun n => noteClip q codes[n] c.clips[n])

/-- R101: a group start in POST_FILL. -/
theorem groupStored_postFill {c : Capture} {r : SegRec} {s : State} (hst : s.acq.state = .postFill)
    (hr : findSeg c.seq s = some r) (q : Nat) (codes : Vector Byte 4) :
    groupStored c q codes s = { s with
      mem := { s.mem with dram := storedDram c r q codes channels s.mem.dram }
      acq := { s.acq with ctx := some { c with phase := nextPhase c, post := c.post + 1, clips := groupNotes q codes c } } } := by
  unfold groupStored
  rw [storeCodes_of_found hr, countInstant_ctx (c := countGroup s.acq.state q codes c) rfl, hst]
  rfl

/-- R101: a group start in PRE_FILL and in READY. -/
theorem groupStored_ring {c : Capture} {r : SegRec} {s : State} (hst : s.acq.state ≠ .postFill)
    (hr : findSeg c.seq s = some r) (q : Nat) (codes : Vector Byte 4) :
    groupStored c q codes s = { s with
      mem := { s.mem with dram := storedDram c r q codes channels s.mem.dram }
      acq := { s.acq with ctx := some { c with phase := nextPhase c, ring := c.ring + 1, clips := groupNotes q codes c } } } := by
  have count : countGroup s.acq.state q codes c = { c with ring := c.ring + 1, clips := groupNotes q codes c } := by
    unfold countGroup
    dsimp only
    split
    · contradiction
    · rfl
  unfold groupStored
  rw [storeCodes_of_found hr, countInstant_ctx (c := countGroup s.acq.state q codes c) rfl, count]
  rfl

/-- R104, R105: an instant of POST_FILL that leaves post-trigger samples, at a group start and between two. -/
theorem acqInstants_postFill_start {c : Capture} {r : SegRec} {s : State} (hst : s.acq.state = .postFill)
    (hc : s.acq.ctx = some c) (hr : findSeg c.seq s = some r) (hp : c.phase = 0) (hroom : c.p + c.post + 1 < c.n)
    (codes : Vector Byte 4) :
    acqInstants codes s = { s with
      mem := { s.mem with dram := storedDram c r (c.p + c.post) codes channels s.mem.dram }
      acq := { s.acq with
        ctx := some { c with phase := nextPhase c, post := c.post + 1, clips := groupNotes (c.p + c.post) codes c } } } := by
  have start : acqInstant codes s = groupStored c (c.p + c.post) codes s := by
    rw [acqInstant_start hc hp (by rw [hst]; rfl), groupStored_postFill hst hr, readyIfFilled_of_not_preFill (by simp [hst]),
      completeIfFull_of_room rfl (by dsimp only; omega)]
  rw [acqInstants_of_same (by rw [start, groupStored_postFill hst hr]; simp [flightSeq, hc]), start, groupStored_postFill hst hr]

/-- R101: an instant between group starts, in every phase of a segment. -/
theorem acqInstants_between {c : Capture} {s : State} (hc : s.acq.ctx = some c)
    (hp : c.phase ≠ 0 ∨ nextPosition s.acq.state c = none) (codes : Vector Byte 4) :
    acqInstants codes s = { s with acq := { s.acq with ctx := some { c with phase := nextPhase c } } } := by
  have instant : acqInstant codes s = { s with acq := { s.acq with ctx := some { c with phase := nextPhase c } } } := by
    rw [← countInstant_ctx hc]
    rcases hp with hp | hq
    · exact acqInstant_between hc hp
    · exact acqInstant_unstored hc hq
  rw [acqInstants_of_same (by rw [instant]; simp [flightSeq, hc]), instant]

/-- R102: a group start that does not fill the ring of PRE_FILL, and one in READY. -/
theorem acqInstants_ring_start {c : Capture} {r : SegRec} {s : State}
    (hst : (s.acq.state = .preFill ∧ c.ring + 1 < c.p) ∨ s.acq.state = .ready) (hc : s.acq.ctx = some c)
    (hr : findSeg c.seq s = some r) (hp : c.phase = 0) (hpos : c.p ≠ 0) (codes : Vector Byte 4) :
    acqInstants codes s = { s with
      mem := { s.mem with dram := storedDram c r (c.ring % c.p) codes channels s.mem.dram }
      acq := { s.acq with
        ctx := some { c with phase := nextPhase c, ring := c.ring + 1, clips := groupNotes (c.ring % c.p) codes c } } } := by
  have hnot : s.acq.state ≠ .postFill := by rcases hst with ⟨h, _⟩ | h <;> simp [h]
  have hq : nextPosition s.acq.state c = some (c.ring % c.p) := by
    rcases hst with ⟨h, _⟩ | h <;> rw [h] <;> exact if_neg hpos
  have ready : readyIfFilled (groupStored c (c.ring % c.p) codes s) = groupStored c (c.ring % c.p) codes s := by
    rw [groupStored_ring hnot hr]
    rcases hst with ⟨_, h⟩ | h
    · exact readyIfFilled_of_room rfl h
    · exact readyIfFilled_of_not_preFill (by simp [h])
  have start : acqInstant codes s = groupStored c (c.ring % c.p) codes s := by
    rw [acqInstant_start hc hp hq, ready, completeIfFull_of_not_postFill (by rw [groupStored_ring hnot hr]; exact hnot)]
  rw [acqInstants_of_same (by rw [start, groupStored_ring hnot hr]; simp [flightSeq, hc]), start, groupStored_ring hnot hr]

end Sys2Proof.Machine
end

section
/-! PROOF. The comparator's part of an instant while a segment fills: what it leaves of TRG, when it makes a qualifying event, and what
the event's transition is. -/

namespace Sys2Proof.Machine

/-! ### What the comparator leaves -/

/-- R48 to R53: the comparator moves its own state, the DAC, the qualifier and the count; the rest of TRG stands. -/
theorem comparedTrg_own (code : Nat) (ext : Bool) (s : State) :
    comparedTrg code ext s = { s.trg with
      seedPending := false
      high := (comparedTrg code ext s).high
      dac := (comparedTrg code ext s).dac
      qualifier := (comparedTrg code ext s).qualifier
      count := (comparedTrg code ext s).count } := by
  cases h : s.trg.seedPending with
  | true => rw [comparedTrg_of_seed h]
  | false => rw [comparedTrg_of_seeded h]; simp only [movedTrg, ← h]

/-! ### Qualifying events -/

/-- R48, R49, R50: the comparator rises at an instant. -/
def risesAt (raw : Vector Byte 4) (ext : Bool) (s : State) : Bool :=
  !s.trg.seedPending && !s.trg.high && atUpper s.trg.held (seenCode raw s) ext

/-- R48, R49, R50: the comparator falls at an instant. -/
def fallsAt (raw : Vector Byte 4) (ext : Bool) (s : State) : Bool :=
  !s.trg.seedPending && s.trg.high && atLower s.trg.held (seenCode raw s) ext

/-- R51, R52, R53: whether a rising or falling transition is a qualifying event, by the type. -/
def hitBy (h : TrigSettings) (rising falling : Bool) (now : Instant) (qualifier : Option OpenPulse) : Bool :=
  if h.pulse then
    qualifier.any (fun q =>
      (if q.positive then falling && decide (h.slope ≠ .fall) else rising && decide (h.slope ≠ .rise)) &&
        pulseQualifies h (pulseWidth q.opened now))
  else (rising && decide (h.slope ≠ .fall)) || (falling && decide (h.slope ≠ .rise))

/-- R50: a seed is not a transition. -/
theorem hitBy_none (h : TrigSettings) (now : Instant) (qualifier : Option OpenPulse) : hitBy h false false now qualifier = false := by
  cases qualifier <;> simp [hitBy]

/-- R51, R53: the event of a transition. -/
theorem isQualifying_transitionBy (h : TrigSettings) {rising falling : Bool} (hno : ¬ (rising = true ∧ falling = true))
    (now : Instant) (qualifier : Option OpenPulse) :
    isQualifying h (transitionBy rising falling) now qualifier = hitBy h rising falling now qualifier := by
  unfold isQualifying hitBy
  rw [slopeNames_transitionBy _ _ _ hno, closesPulse_transitionBy_fun _ hno]
  cases qualifier <;> rfl

theorem not_risesAt_and_fallsAt (raw : Vector Byte 4) (ext : Bool) (s : State) :
    ¬ (risesAt raw ext s = true ∧ fallsAt raw ext s = true) := by
  unfold risesAt fallsAt
  cases s.trg.high <;> simp

/-- R48 to R53: the qualifying event of an instant. -/
theorem comparedHit_eq (raw : Vector Byte 4) (ext : Bool) (s : State) :
    comparedHit raw ext s = hitBy s.trg.held (risesAt raw ext s) (fallsAt raw ext s) s.now s.trg.qualifier := by
  unfold comparedHit
  cases h : s.trg.seedPending with
  | true =>
    rw [comparatorStep_of_seed h]
    simp only [risesAt, fallsAt, h, Bool.not_true, Bool.false_and, hitBy_none]
  | false =>
    rw [← isQualifying_transitionBy _ (not_risesAt_and_fallsAt raw ext s), comparatorStep_of_seeded h, transitionOf_eq]
    simp only [risesAt, fallsAt, h, Bool.not_false, Bool.true_and]

/-- R50: with a seed pending there is no event. -/
theorem seeded_of_comparedHit {raw : Vector Byte 4} {ext : Bool} {s : State} (hhit : comparedHit raw ext s = true) :
    s.trg.seedPending = false := by
  cases h : s.trg.seedPending with
  | true => unfold comparedHit at hhit; rw [comparatorStep_of_seed h] at hhit; cases hhit
  | false => rfl

/-- R52: a qualifying event of type PULSE leaves no open pulse, but with slope EITHER the next one. -/
theorem qualifierAfter_of_hit {h : TrigSettings} (hp : h.pulse = true) {rising : Bool} {now : Instant} {q : Option OpenPulse}
    (hhit : hitBy h rising (!rising) now q = true) :
    qualifierAfter h.slope (transitionBy rising (!rising)) now q =
      if h.slope = .either then some ⟨rising, now⟩ else none := by
  have hno : ¬ (rising = true ∧ (!rising) = true) := by cases rising <;> simp
  rw [qualifierAfter_transitionBy _ _ _ hno, closesPulse_transitionBy_fun _ hno]
  cases q with
  | none => simp [hitBy, hp] at hhit
  | some p =>
    cases rising <;> cases hpos : p.positive <;> cases hs : h.slope <;> simp [hitBy, hp, hpos, hs, Option.filter] at hhit ⊢

/-- R51: an event has a transition. -/
theorem falling_of_hit {h : TrigSettings} {rising falling : Bool} (hno : ¬ (rising = true ∧ falling = true)) {now : Instant}
    {q : Option OpenPulse} (hhit : hitBy h rising falling now q = true) : falling = !rising := by
  cases rising <;> cases falling <;> simp [hitBy_none] at hno hhit ⊢

/-- R48 to R53: TRG after the transition of a qualifying event. -/
theorem movedTrg_of_hit {g : Trg} {rising : Bool} {now : Instant}
    (hhit : hitBy g.held rising (!rising) now g.qualifier = true) :
    movedTrg (transitionBy rising (!rising)) now g = { g with
      high := rising
      dac := dacFor g.held rising g.dac
      qualifier := if g.held.pulse then (if g.held.slope = .either then some ⟨rising, now⟩ else none) else g.qualifier
      count := g.count + 1 } := by
  have hno : ¬ (rising = true ∧ (!rising) = true) := by cases rising <;> simp
  have hqual : (if g.held.pulse then qualifierAfter g.held.slope (transitionBy rising (!rising)) now g.qualifier else g.qualifier) =
      if g.held.pulse then (if g.held.slope = .either then some ⟨rising, now⟩ else none) else g.qualifier := by
    cases hp : g.held.pulse with
    | false => rfl
    | true => simpa using qualifierAfter_of_hit hp hhit
  unfold movedTrg
  rw [hqual, isQualifying_transitionBy _ hno, hhit]
  cases rising <;> rfl

/-- R48 to R53: TRG after an instant with a qualifying event. -/
theorem comparedTrg_of_hit {raw : Vector Byte 4} {ext : Bool} {s : State} (hhit : comparedHit raw ext s = true) :
    comparedTrg (seenCode raw s) ext s = { s.trg with
      high := risesAt raw ext s
      dac := dacFor s.trg.held (risesAt raw ext s) s.trg.dac
      qualifier := if s.trg.held.pulse then
          (if s.trg.held.slope = .either then some ⟨risesAt raw ext s, s.now⟩ else none) else s.trg.qualifier
      count := s.trg.count + 1 } := by
  have hseed := seeded_of_comparedHit hhit
  rw [comparedHit_eq] at hhit
  have falls := falling_of_hit (not_risesAt_and_fallsAt raw ext s) hhit
  rw [falls] at hhit
  rw [← movedTrg_of_hit hhit, ← falls, comparedTrg_of_seeded hseed]
  simp only [risesAt, fallsAt, hseed, Bool.not_false, Bool.true_and]

/-! ### The state the comparator hands to ACQ -/

/-- R48: the holdoff counter, the held settings and the auto-wait timer stand under the comparator. -/
theorem compared_trg_stands (raw : Vector Byte 4) (ext : Bool) (s : State) :
    (compared raw ext s).trg.holdoff = s.trg.holdoff ∧ (compared raw ext s).trg.held = s.trg.held ∧
      (compared raw ext s).trg.changeHeld = s.trg.changeHeld ∧ (compared raw ext s).trg.autoWait = s.trg.autoWait := by
  show (comparedTrg _ ext s).holdoff = _ ∧ (comparedTrg _ ext s).held = _ ∧ (comparedTrg _ ext s).changeHeld = _ ∧
    (comparedTrg _ ext s).autoWait = _
  rw [comparedTrg_own]
  exact ⟨rfl, rfl, rfl, rfl⟩

@[simp] theorem compared_now (raw : Vector Byte 4) (ext : Bool) (s : State) : (compared raw ext s).now = s.now := rfl

@[simp] theorem compared_setup (raw : Vector Byte 4) (ext : Bool) (s : State) : (compared raw ext s).setup = s.setup := rfl

/-- R54: in the phases that take no trigger, ACQ takes the instant of what the comparator leaves. -/
theorem sampleInstant_of_no_event {raw : Vector Byte 4} {ext : Bool} {s : State}
    (h : ¬ (comparedHit raw ext s = true ∧ s.acq.state = .ready ∧ s.trg.holdoff = none)) :
    sampleInstant raw ext s = acqInstants (correctedCodes raw s) (compared raw ext s) := by
  have holdoff := (compared_trg_stands raw ext s).1
  rw [sampleInstant_eq, offerEvent_of_not]
  rw [holdoff]
  exact h

/-- R54: TRG and ACQ after an accepted event. -/
theorem acceptTrigger_eq (s : State) : acceptTrigger s = { s with
    acq := { s.acq with
      state := .postFill
      ctx := s.acq.ctx.map (fun c => { c with trigger := some s.now, forced := false }) }
    trg := { s.trg with
      autoWait := none
      holdoff := if s.trg.held.holdoff = 0 then s.trg.holdoff else some s.now
      pulse := some (s.now + 100), indication := some (s.now + 100000000) } } := by
  unfold acceptTrigger startHoldoff
  by_cases h : s.trg.held.holdoff = 0
  · rw [if_pos (show (stopAutoWait s).trg.held.holdoff = 0 from h), if_pos h]; rfl
  · rw [if_neg (show ¬ (stopAutoWait s).trg.held.holdoff = 0 from h), if_neg h]; rfl

/-- R54: an event in READY with the holdoff counter IDLE is accepted. -/
theorem sampleInstant_of_event {raw : Vector Byte 4} {ext : Bool} {s : State} (hhit : comparedHit raw ext s = true)
    (hst : s.acq.state = .ready) (hold : s.trg.holdoff = none) :
    sampleInstant raw ext s =
      acqInstants (correctedCodes raw s) (completeIfFull (acceptTrigger (compared raw ext s))) := by
  have holdoff := (compared_trg_stands raw ext s).1
  rw [sampleInstant_eq]
  unfold offerEvent
  rw [if_pos ⟨hhit, hst, holdoff.trans hold⟩]

end Sys2Proof.Machine
end

section
/-! PROOF. The entry to READY at the last ring write, and the instants of an accepted trigger that leave post-trigger samples. -/

namespace Sys2Proof.Machine

/-! ### The entry to READY -/

/-- R46: the leaving of a phase lets TRG's timers and indications run on. -/
theorem leavePhase_timers (s : State) : (leavePhase s).trg.autoWait = s.trg.autoWait ∧ (leavePhase s).trg.pulse = s.trg.pulse ∧
    (leavePhase s).trg.indication = s.trg.indication := by
  unfold leavePhase
  split
  · rw [takeSettings_trg]; exact ⟨rfl, rfl, rfl⟩
  · exact ⟨rfl, rfl, rfl⟩

/-- R46: when a phase has been left, TRG holds the record's settings where a change was held. -/
theorem leavePhase_held (s : State) :
    (leavePhase s).trg.held = if s.trg.changeHeld then settingsOf s.setup else s.trg.held :=
  HeldOrTaken.resolved (leavePhase_rederives s).held (leavePhase_changeHeld s)

/-- R57: TRG when READY is entered: in AUTO the auto-wait timer starts. -/
def readyTrg (s : State) : Trg :=
  { (leavePhase (setAcq .ready s)).trg with
    autoWait := if s.setup.get 83 = 0 then some (s.now + (s.setup.get 104).toNat * 1000000) else s.trg.autoWait }

/-- R46, R57, R103: a held change has been taken when READY is entered. -/
theorem readyTrg_spec (s : State) :
    (readyTrg s).held = (if s.trg.changeHeld then settingsOf s.setup else s.trg.held) ∧ (readyTrg s).changeHeld = false ∧
    (readyTrg s).autoWait =
      (if s.setup.get 83 = 0 then some (s.now + (s.setup.get 104).toNat * 1000000) else s.trg.autoWait) :=
  ⟨leavePhase_held (setAcq .ready s), leavePhase_changeHeld (setAcq .ready s), rfl⟩

/-- R103: READY as it is entered, before a pending force. -/
def readied (s : State) : State :=
  { s with fec := (leavePhase (setAcq .ready s)).fec, trg := readyTrg s, acq := { s.acq with state := .ready } }

/-- R103: the entry to READY takes a pending force. -/
theorem enterReady_eq (s : State) : enterReady s =
    if s.acq.forcePending then forceTrigger { readied s with acq := { (readied s).acq with forcePending := false } }
    else readied s := by
  have only := leavePhase_only (setAcq .ready s)
  have started : (if (leavePhase (setAcq .ready s)).setup.get 83 = 0 then startAutoWait (leavePhase (setAcq .ready s))
      else leavePhase (setAcq .ready s)) = readied s := by
    have timer := (leavePhase_timers (setAcq .ready s)).1
    have setup : (leavePhase (setAcq .ready s)).setup = s.setup := by rw [only]; rfl
    have now : (leavePhase (setAcq .ready s)).now = s.now := by rw [only]; rfl
    unfold startAutoWait readied readyTrg
    rw [setup, now]
    split
    · conv_lhs => rw [only]
      rfl
    · conv_lhs => rw [only]
      rw [← show _ = s.trg.autoWait from timer]
      rfl
  unfold enterReady
  dsimp only
  rw [started]
  rfl

theorem enterReady_of_force {s : State} (h : s.acq.forcePending = true) :
    enterReady s = forceTrigger { readied s with acq := { (readied s).acq with forcePending := false } } := by
  rw [enterReady_eq, if_pos h]

theorem enterReady_of_no_force {s : State} (h : s.acq.forcePending = false) : enterReady s = readied s := by
  rw [enterReady_eq, if_neg (by simp [h])]

/-- R102: the state whose ring has just been filled. -/
def filledRing (c : Capture) (r : SegRec) (codes : Vector Byte 4) (s : State) : State :=
  { s with
    mem := { s.mem with dram := storedDram c r c.ring codes channels s.mem.dram }
    acq := { s.acq with ctx := some { c with phase := nextPhase c, ring := c.p, clips := groupNotes c.ring codes c } } }

@[simp] theorem filledRing_trg (c : Capture) (r : SegRec) (codes : Vector Byte 4) (s : State) :
    (filledRing c r codes s).trg = s.trg := rfl

@[simp] theorem filledRing_now (c : Capture) (r : SegRec) (codes : Vector Byte 4) (s : State) :
    (filledRing c r codes s).now = s.now := rfl

@[simp] theorem filledRing_setup (c : Capture) (r : SegRec) (codes : Vector Byte 4) (s : State) :
    (filledRing c r codes s).setup = s.setup := rfl

/-- R102, R103: the group start that fills the ring stores its group, and READY is entered. -/
theorem acqInstants_fills {c : Capture} {r : SegRec} {s : State} (hst : s.acq.state = .preFill) (hc : s.acq.ctx = some c)
    (hr : findSeg c.seq s = some r) (hp : c.phase = 0) (hfill : c.ring + 1 = c.p)
    (hroom : c.p + c.post < c.n ∨ s.acq.forcePending = false) (codes : Vector Byte 4) :
    acqInstants codes s = enterReady (filledRing c r codes s) := by
  have hpos : c.ring % c.p = c.ring := Nat.mod_eq_of_lt (by omega)
  have hq : nextPosition s.acq.state c = some c.ring := by
    rw [hst, ← hpos]; exact (if_neg (by omega)).trans (by rw [hpos])
  have stored : groupStored c c.ring codes s = filledRing c r codes s := by
    rw [groupStored_ring (by rw [hst]; simp) hr, hfill]
    rfl
  have entered : completeIfFull (enterReady (groupStored c c.ring codes s)) = enterReady (groupStored c c.ring codes s) := by
    rw [stored]
    cases hf : s.acq.forcePending with
    | false =>
      rw [enterReady_of_no_force (s := filledRing c r codes s) hf]
      exact completeIfFull_of_not_postFill (by simp [readied])
    | true =>
      rw [enterReady_of_force (s := filledRing c r codes s) hf]
      exact completeIfFull_of_room rfl (hroom.resolve_right (by simp [hf]))
  have instant : acqInstant codes s = enterReady (groupStored c c.ring codes s) := by
    rw [acqInstant_start hc hp hq, readyIfFilled_of_full (by rw [stored]; exact hst) (by rw [stored]; rfl) (le_refl _), entered, entered]
  have flight : flightSeq (enterReady (groupStored c c.ring codes s)) = flightSeq s := by
    rw [stored, enterReady_eq]
    split <;> simp [filledRing, flightSeq, hc, readied, forceTrigger, acqTrigger, startIndications, stopAutoWait]
  rw [acqInstants_of_same (by rw [instant, flight]), instant, stored]

end Sys2Proof.Machine
end

section
/-! PROOF. The completion of a segment of a SINGLE run: nothing on the way from the trigger to STOPPED moves the completed record. -/

namespace Sys2Proof.Machine

/-! ### What finds a record -/

/-- R78: a change of the records under a seq that keeps the seq is found there. -/
theorem findSeg_modSeg_self {seq : Nat} {f : SegRec → SegRec} (hf : ∀ r, (f r).seq = r.seq) (s : State) :
    findSeg seq (modSeg seq f s) = (findSeg seq s).map f := by
  unfold findSeg modSeg
  dsimp only
  rw [List.find?_map]
  have same : ((fun r : SegRec => r.seq == seq) ∘ fun r => if r.seq == seq then f r else r) = fun r => r.seq == seq := by
    funext r
    by_cases h : r.seq = seq <;> simp [h, hf]
  rw [same]
  cases h : s.mem.table.find? (fun r => r.seq == seq) with
  | none => rfl
  | some r =>
    have hseq : r.seq = seq := by simpa using List.find?_some h
    simp [hseq]

/-- R78: a change of the records under a seq leaves those under another. -/
theorem findSeg_modSeg_ne {seq seq' : Nat} (h : seq ≠ seq') {f : SegRec → SegRec} (hf : ∀ r, (f r).seq = r.seq) (s : State) :
    findSeg seq (modSeg seq' f s) = findSeg seq s := by
  unfold findSeg modSeg
  dsimp only
  rw [List.find?_map]
  have same : ((fun r : SegRec => r.seq == seq) ∘ fun r => if r.seq == seq' then f r else r) = fun r => r.seq == seq := by
    funext r
    by_cases hr : r.seq = seq' <;> simp [hr, hf]
  rw [same]
  cases hx : s.mem.table.find? (fun r => r.seq == seq) with
  | none => rfl
  | some r =>
    have hseq : r.seq = seq := by simpa using List.find?_some hx
    simp [hseq, h]

/-- R78: a change of pins is found on the record. -/
theorem findSeg_modPins_self (seq : Nat) (h : Holder) (b : Bool) (s : State) :
    findSeg seq (modSeg seq (fun x => { x with pins := setPin h b x.pins }) s) =
      (findSeg seq s).map (fun x => { x with pins := setPin h b x.pins }) :=
  findSeg_modSeg_self (f := fun x => { x with pins := setPin h b x.pins }) (fun _ => rfl) s

theorem findSeg_modPins_ne {seq seq' : Nat} (hne : seq ≠ seq') (h : Holder) (b : Bool) (s : State) :
    findSeg seq (modSeg seq' (fun x => { x with pins := setPin h b x.pins }) s) = findSeg seq s :=
  findSeg_modSeg_ne hne (f := fun x => { x with pins := setPin h b x.pins }) (fun _ => rfl) s

/-- R76: the removal of a record leaves what another seq finds. -/
theorem findSeg_dropSegment_ne {seq seq' : Nat} (h : seq ≠ seq') (s : State) :
    findSeg seq (dropSegment seq' s) = findSeg seq s := by
  have kept : ∀ l : List SegRec, (l.eraseP (fun x => x.seq == seq')).find? (fun r => r.seq == seq) =
      l.find? (fun r => r.seq == seq) := by
    intro l
    induction l with
    | nil => rfl
    | cons x xs ih =>
      by_cases hx : x.seq = seq'
      · simp [hx, Ne.symm h]
      · by_cases hs : x.seq = seq <;> simp [hx, hs, h, ih]
  unfold dropSegment
  split
  · rfl
  · exact kept s.mem.table

/-! ### The completed record stands -/

/-- R106: from `s` to `t` the run, TRG, sample memory and the pending allocation stand, and so does the COMPLETE record under `seq`,
but for its pins. -/
structure KeepsRecord (seq : Nat) (s t : State) : Prop where
  acq : t.acq = s.acq
  trg : t.trg = s.trg
  dram : t.mem.dram = s.mem.dram
  pending : t.mem.pendingAlloc = s.mem.pendingAlloc
  record : ∀ x, findSeg seq s = some x → x.state = .complete → ∃ pins, findSeg seq t = some { x with pins := pins }

namespace KeepsRecord

/-- A step that leaves those parts, and the table, keeps the record. -/
theorem of_table {seq : Nat} {s t : State} (hacq : t.acq = s.acq) (htrg : t.trg = s.trg) (hdram : t.mem.dram = s.mem.dram)
    (hpending : t.mem.pendingAlloc = s.mem.pendingAlloc) (htable : t.mem.table = s.mem.table) : KeepsRecord seq s t where
  acq := hacq
  trg := htrg
  dram := hdram
  pending := hpending
  record x hx _ := ⟨x.pins, by unfold findSeg at *; rw [htable]; exact hx⟩

theorem refl (seq : Nat) (s : State) : KeepsRecord seq s s := of_table rfl rfl rfl rfl rfl

theorem trans {seq : Nat} {s t u : State} (h : KeepsRecord seq s t) (k : KeepsRecord seq t u) : KeepsRecord seq s u where
  acq := k.acq.trans h.acq
  trg := k.trg.trans h.trg
  dram := k.dram.trans h.dram
  pending := k.pending.trans h.pending
  record x hx hs := by
    obtain ⟨p, hy⟩ := h.record x hx hs
    exact k.record { x with pins := p } hy hs

/-- The same from a state that differs in other parts. -/
theorem after {seq : Nat} {s s' t : State} (h : KeepsRecord seq s' t) (hacq : s'.acq = s.acq) (htrg : s'.trg = s.trg)
    (hmem : s'.mem = s.mem) : KeepsRecord seq s t :=
  (of_table hacq htrg (by rw [hmem]) (by rw [hmem]) (by rw [hmem])).trans h

end KeepsRecord

/-- R78: a change of pins, under any seq, keeps the record. -/
theorem modPins_keepsRecord (seq seq' : Nat) (h : Holder) (b : Bool) (s : State) :
    KeepsRecord seq s (modSeg seq' (fun x => { x with pins := setPin h b x.pins }) s) where
  acq := rfl
  trg := rfl
  dram := rfl
  pending := rfl
  record x hx _ := by
    by_cases hq : seq = seq'
    · subst hq
      exact ⟨setPin h b x.pins, by rw [findSeg_modPins_self, hx]; rfl⟩
    · exact ⟨x.pins, by rw [findSeg_modPins_ne hq, hx]⟩

/-- R78: a pin request keeps the record. -/
theorem pinSegment_keepsRecord (seq seq' : Nat) (h : Holder) (s : State) : KeepsRecord seq s (pinSegment h seq' s).1 := by
  unfold pinSegment
  split
  · exact .refl seq s
  · split
    · exact modPins_keepsRecord seq seq' h true s
    · exact .refl seq s

/-- R85: so does a pin request on a slot. -/
theorem pinRef_keepsRecord (seq : Nat) (b : Bool) (n : Fin 4) (s : State) : KeepsRecord seq s (pinRef b n s).1 := by
  unfold pinRef
  split
  · exact .of_table rfl rfl rfl rfl rfl
  · exact .refl seq s

/-- R73: without a pending allocation nothing is tried again. -/
theorem retryPending_of_none {s : State} (h : s.mem.pendingAlloc = none) : retryPending s = s := by
  unfold retryPending; rw [h]

theorem dropSegment_pendingAlloc (seq : Nat) (s : State) : (dropSegment seq s).mem.pendingAlloc = s.mem.pendingAlloc := by
  unfold dropSegment; split <;> rfl

theorem dropSegment_dram (seq : Nat) (s : State) : (dropSegment seq s).mem.dram = s.mem.dram := by
  unfold dropSegment; split <;> rfl

/-- R76: a record that is removed is not one that is found COMPLETE under the seq. -/
theorem removeSegment_keepsRecord {seq seq' : Nat} {s : State} (hnone : s.mem.pendingAlloc = none)
    (hne : ∀ x, findSeg seq s = some x → x.state = .complete → seq ≠ seq') : KeepsRecord seq s (removeSegment seq' s) := by
  unfold removeSegment
  rw [retryPending_of_none ((dropSegment_pendingAlloc seq' s).trans hnone)]
  exact {
    acq := by rw [dropSegment_only]
    trg := by rw [dropSegment_only]
    dram := dropSegment_dram seq' s
    pending := dropSegment_pendingAlloc seq' s
    record := fun x hx hs => ⟨x.pins, by rw [findSeg_dropSegment_ne (hne x hx hs), hx]⟩ }

/-- R78: a release of a pin removes STALE records alone. -/
theorem releaseSegPin_keepsRecord (seq seq' : Nat) (h : Holder) {s : State} (hnone : s.mem.pendingAlloc = none) :
    KeepsRecord seq s (releaseSegPin h seq' s) := by
  have pins := modPins_keepsRecord seq seq' h false s
  unfold releaseSegPin
  split
  · exact .refl seq s
  · rename_i r hr
    split
    · dsimp only
      split
      · rename_i hstale
        refine pins.trans (removeSegment_keepsRecord hnone fun x hx hs hq => ?_)
        subst hq
        rw [findSeg_modPins_self, hr] at hx
        obtain rfl := Option.some.inj hx
        rw [show r.state = .complete from hs] at hstale
        exact absurd hstale.1 (by simp)
      · rw [retryPending_of_none (pins.pending.trans hnone)]
        exact pins
    · exact .refl seq s

/-- R118: the emptying of the render queue releases pins. -/
theorem emptyQueue_keepsRecord (seq : Nat) (keep : Option Nat) {s : State} (hnone : s.mem.pendingAlloc = none) :
    KeepsRecord seq s (emptyQueue keep s) := by
  have released : ∀ (qs : List Nat) (t : State), t.mem.pendingAlloc = none →
      KeepsRecord seq t (qs.foldl (fun t q => releaseSegPin .render q t) t) := by
    intro qs
    induction qs with
    | nil => exact fun t _ => .refl seq t
    | cons q rest ih =>
      intro t ht
      have first := releaseSegPin_keepsRecord seq q .render ht
      exact first.trans (ih _ (first.pending.trans ht))
  exact (released _ { s with rnd := { s.rnd with queue := [] } } hnone).after rfl rfl rfl

theorem pinViewed_keepsRecord (seq : Nat) (s : State) : KeepsRecord seq s (pinViewed s).1 := by
  unfold pinViewed
  split
  · exact .refl seq s
  · rename_i q _
    split
    · exact pinSegment_keepsRecord seq q .render s
    · exact .refl seq s

theorem pinVisibleRefs_keepsRecord (seq : Nat) (s : State) : KeepsRecord seq s (pinVisibleRefs s) := by
  have pinned : ∀ (ns : List Channel) (t : State), KeepsRecord seq t
      (ns.foldl (fun t n => if refVisible t.setup n then (pinRef false n t).1 else t) t) := by
    intro ns
    induction ns with
    | nil => exact fun t => .refl seq t
    | cons n rest ih =>
      intro t
      refine KeepsRecord.trans ?_ (ih _)
      beta_reduce
      split
      · exact pinRef_keepsRecord seq false n t
      · exact .refl seq t
  exact pinned channels s

/-- R122: the start of a REDRAW pins and releases. -/
theorem startRedraw_keepsRecord (seq : Nat) {s : State} (hnone : s.mem.pendingAlloc = none) : KeepsRecord seq s (startRedraw s) := by
  have viewed : KeepsRecord seq s (pinViewed { s with rnd := { s.rnd with redraw := false } }).1 :=
    (pinViewed_keepsRecord seq _).after rfl rfl rfl
  unfold startRedraw
  dsimp only
  generalize pinViewed { s with rnd := { s.rnd with redraw := false } } = pv at *
  have emptied := viewed.trans (emptyQueue_keepsRecord seq pv.2 (viewed.pending.trans hnone))
  refine (emptied.trans (pinVisibleRefs_keepsRecord seq _)).trans ?_
  generalize pinVisibleRefs (emptyQueue pv.2 pv.1) = s1
  exact .of_table rfl rfl rfl rfl rfl

/-- R121: the selection of a pass keeps the record. -/
theorem selectPass_keepsRecord (seq : Nat) {s : State} (hnone : s.mem.pendingAlloc = none) : KeepsRecord seq s (selectPass s) := by
  unfold selectPass
  split
  · exact .refl seq s
  · split
    · exact startRedraw_keepsRecord seq hnone
    · split
      · exact .refl seq s
      · exact .of_table rfl rfl rfl rfl rfl

/-- R117: a full queue drops an entry. -/
theorem dropOldestEntry_keepsRecord (seq : Nat) {s : State} (hnone : s.mem.pendingAlloc = none) :
    KeepsRecord seq s (dropOldestEntry s) := by
  unfold dropOldestEntry
  split
  · exact .refl seq s
  · rename_i q rest _
    split
    · exact (releaseSegPin_keepsRecord seq q .render (s := { s with rnd := { s.rnd with queue := rest } }) hnone).after rfl rfl rfl
    · exact .refl seq s

/-- R117: RND takes a completed segment. -/
theorem renderArrival_keepsRecord (seq seq' : Nat) {s : State} (hnone : s.mem.pendingAlloc = none) :
    KeepsRecord seq s (renderArrival seq' s) := by
  unfold renderArrival
  split
  · have pinned := pinSegment_keepsRecord seq seq' .render s
    have dropped := pinned.trans (dropOldestEntry_keepsRecord seq (pinned.pending.trans hnone))
    refine dropped.trans ((selectPass_keepsRecord seq ?_).after rfl rfl rfl)
    exact dropped.pending.trans hnone
  · exact .refl seq s

theorem queueForRender_keepsRecord (seq seq' : Nat) {s : State} (hnone : s.mem.pendingAlloc = none) :
    KeepsRecord seq s (queueForRender seq' s) := by
  unfold queueForRender
  split
  · exact .refl seq s
  · exact renderArrival_keepsRecord seq seq' hnone

theorem notifySegment_keepsRecord (seq : Nat) (c : Capture) (s : State) : KeepsRecord seq s (notifySegment c s) := by
  unfold notifySegment
  split
  · exact .of_table (by simp) (by simp) (by simp) (by simp) (by simp)
  · exact .refl seq s

/-! ### The completion -/

/-- R106: the completion leaves MEM but for the record, TRG's timers and indications, and the run's start. -/
theorem recordCompletion_only (c : Capture) (s : State) :
    (recordCompletion c s).mem = (modSeg c.seq (completedRecord c (s.acq.runStart.getD 0)) s).mem ∧
    (recordCompletion c s).acq = { s.acq with
      ctx := none, runCount := min (s.acq.runCount + 1) 4294967295, lastSeq := c.seq } ∧
    (recordCompletion c s).trg.autoWait = s.trg.autoWait ∧ (recordCompletion c s).trg.pulse = s.trg.pulse ∧
    (recordCompletion c s).trg.indication = s.trg.indication := by
  have timers := leavePhase_timers
    { modSeg c.seq (completedRecord c (s.acq.runStart.getD 0)) s with acq := { s.acq with ctx := none } }
  unfold recordCompletion
  refine ⟨?_, ?_, timers⟩
  · dsimp only; rw [leavePhase_only]
  · dsimp only; rw [leavePhase_only]; rfl

/-- R106, R107: the completion of a SINGLE run's segment ends the run, and the COMPLETE record stands. -/
theorem complete_single {c : Capture} {r : SegRec} {s : State} (hr : findSeg c.seq s = some r)
    (hsingle : s.acq.singlePending = true) (hnone : s.mem.pendingAlloc = none) :
    (complete c s).acq.state = .stopped ∧ (complete c s).acq.ctx = none ∧ (complete c s).acq.lastSeq = c.seq ∧
    (complete c s).mem.dram = s.mem.dram ∧ (complete c s).trg.autoWait = s.trg.autoWait ∧
    (complete c s).trg.pulse = s.trg.pulse ∧ (complete c s).trg.indication = s.trg.indication ∧
    ∃ pins, findSeg c.seq (complete c s) = some { completedRecord c (s.acq.runStart.getD 0) r with pins := pins } := by
  obtain ⟨hmem, hacq, hwait, hpulse, hind⟩ := recordCompletion_only c s
  have found : findSeg c.seq (recordCompletion c s) = some (completedRecord c (s.acq.runStart.getD 0) r) := by
    unfold findSeg
    rw [hmem]
    exact (findSeg_modSeg_self (f := completedRecord c (s.acq.runStart.getD 0)) (fun _ => rfl) s).trans (by rw [hr]; rfl)
  have keeps := (queueForRender_keepsRecord c.seq c.seq (s := recordCompletion c s) (by rw [hmem]; exact hnone)).trans
    (notifySegment_keepsRecord c.seq c _)
  have ended : complete c s = enterStopped .singleDone (notifySegment c (queueForRender c.seq (recordCompletion c s))) := by
    unfold complete endOrRearm
    rw [if_pos (by rw [keeps.acq, hacq]; exact hsingle)]
  obtain ⟨pins, hrec⟩ := keeps.record _ found rfl
  have stopped := enterStopped_acq .singleDone (notifySegment c (queueForRender c.seq (recordCompletion c s)))
  have mem := enterStopped_mem .singleDone (notifySegment c (queueForRender c.seq (recordCompletion c s)))
  rw [ended, stopped, enterStopped_trg, keeps.trg, keeps.acq, hacq]
  refine ⟨rfl, rfl, rfl, ?_, hwait, hpulse, hind, pins, ?_⟩
  · rw [mem, keeps.dram, hmem]; rfl
  · unfold findSeg at hrec ⊢
    rw [mem]
    exact hrec

end Sys2Proof.Machine
end

section
/-! PROOF. SAMPLE_CODE while a segment fills: one lemma for each phase and its event, and the statement. -/

namespace Sys2Proof.Machine

/-! ### A group in sample memory -/

/-- R69, R101: from `s` to `t` the corrected code of every captured channel has come to stored position `q`, and the rest of MEM
stands. -/
def GroupAt (raw : Vector Byte 4) (c : Capture) (r : SegRec) (q : Nat) (s t : State) : Prop :=
  t.mem = { s.mem with dram := t.mem.dram } ∧
  (∀ a, (∀ n : Channel, c.set[n] = true → positionAddr r.pages[n] q ≠ some a) →
    storeRead t.mem.dram a = storeRead s.mem.dram a) ∧
  ∀ (n : Channel) (a : Nat), c.set[n] = true → positionAddr r.pages[n] q = some a →
    (∀ m : Channel, c.set[m] = true → m ≠ n → positionAddr r.pages[m] q ≠ some a) →
    storeRead t.mem.dram a = correctCode raw[n] (liveCal n s)

/-- R31: the corrected code of one channel. -/
theorem correctedCodes_at (raw : Vector Byte 4) (s : State) (n : Channel) :
    (correctedCodes raw s)[n] = correctCode raw[n] (liveCal n s) := by
  simp [correctedCodes, correctedCode]

/-- R101: a state whose sample memory holds the stored group. -/
theorem groupAt_of_mem {raw : Vector Byte 4} {c : Capture} {r : SegRec} {q : Nat} {s t : State} (hwf : Store.wf s.mem.dram = true)
    (hmem : t.mem = { s.mem with dram := storedDram c r q (correctedCodes raw s) channels s.mem.dram }) : GroupAt raw c r q s t := by
  refine ⟨by rw [hmem], fun a h => ?_, fun n a hset haddr honly => ?_⟩
  · rw [hmem]; exact storeRead_storedDram_other h _ _ hwf
  · rw [hmem, ← correctedCodes_at]
    exact (storeRead_storedDram_own hset haddr honly _ _ hwf).trans (if_pos (mem_channels n))

/-! ### The phases -/

/-- SAMPLE_CODE's next state, from ACQ's part of the instant. -/
theorem exec_sampleCode_next {s u : State} (hup : s.lnk.startUp = false) {c1 c2 c3 c4 : Byte} {ext : Bool}
    (h : sampleInstant #v[c1, c2, c3, c4] ext s = u) : exec (.sampleCode c1 c2 c3 c4 ext) s = .next (nextInstant u) := by
  rw [exec_sampleCode hup, h]

/-- R104, R105: an instant of POST_FILL that leaves post-trigger samples. -/
theorem postFill_instant {c1 c2 c3 c4 : Byte} {ext : Bool} {c : Capture} {r : SegRec} {s : State} (hup : s.lnk.startUp = false)
    (hctx : s.acq.ctx = some c) (hr : findSeg c.seq s = some r) (hwf : Store.wf s.mem.dram = true) (hst : s.acq.state = .postFill)
    (hroom : c.p + c.post + (if c.phase = 0 then 1 else 0) < c.n) :
    ∃ t, exec (.sampleCode c1 c2 c3 c4 ext) s = .next t ∧ t.acq.state = .postFill ∧ t.now = s.now + 1 ∧
      (c.phase ≠ 0 → t.mem = s.mem ∧ t.acq.ctx = some { c with phase := nextPhase c }) ∧
      (c.phase = 0 → GroupAt #v[c1, c2, c3, c4] c r (c.p + c.post) s t ∧
        ∃ notes, t.acq.ctx = some { c with phase := nextPhase c, post := c.post + 1, clips := notes }) := by
  have instant := sampleInstant_of_no_event (raw := #v[c1, c2, c3, c4]) (ext := ext) (s := s) (by simp [hst])
  by_cases hp : c.phase = 0
  · rw [if_pos hp] at hroom
    have stored := acqInstants_postFill_start (s := compared #v[c1, c2, c3, c4] ext s) hst hctx hr hp hroom
    exact ⟨_, exec_sampleCode_next hup (instant.trans (stored _)), hst, rfl, fun h => absurd hp h,
      fun _ => ⟨groupAt_of_mem hwf rfl, _, rfl⟩⟩
  · have stood := acqInstants_between (s := compared #v[c1, c2, c3, c4] ext s) hctx (.inl hp)
    exact ⟨_, exec_sampleCode_next hup (instant.trans (stood _)), hst, rfl, fun _ => ⟨rfl, rfl⟩, fun h => absurd h hp⟩

/-- R102, R103: an instant of PRE_FILL that does not fill the ring, or of READY without an accepted event. -/
theorem ring_instant {c1 c2 c3 c4 : Byte} {ext : Bool} {c : Capture} {r : SegRec} {s : State} (hup : s.lnk.startUp = false)
    (hctx : s.acq.ctx = some c) (hr : findSeg c.seq s = some r) (hwf : Store.wf s.mem.dram = true)
    (hst : (s.acq.state = .preFill ∧ (c.phase ≠ 0 ∨ c.ring + 1 < c.p)) ∨
      (s.acq.state = .ready ∧ (s.trg.holdoff.isSome = true ∨ comparedHit #v[c1, c2, c3, c4] ext s = false))) :
    ∃ t, exec (.sampleCode c1 c2 c3 c4 ext) s = .next t ∧ t.acq.state = s.acq.state ∧ t.now = s.now + 1 ∧
      (c.phase ≠ 0 ∨ c.p = 0 → t.mem = s.mem ∧ t.acq.ctx = some { c with phase := nextPhase c }) ∧
      (c.phase = 0 → c.p ≠ 0 → GroupAt #v[c1, c2, c3, c4] c r (c.ring % c.p) s t ∧
        ∃ notes, t.acq.ctx = some { c with phase := nextPhase c, ring := c.ring + 1, clips := notes }) := by
  have instant : sampleInstant #v[c1, c2, c3, c4] ext s =
      acqInstants (correctedCodes #v[c1, c2, c3, c4] s) (compared #v[c1, c2, c3, c4] ext s) := by
    refine sampleInstant_of_no_event fun ⟨hhit, hready, hold⟩ => ?_
    rcases hst with ⟨h, _⟩ | ⟨_, h | h⟩
    · simp [h] at hready
    · simp [hold] at h
    · simp [hhit] at h
  by_cases hp : c.phase ≠ 0 ∨ c.p = 0
  · have unstored : c.phase ≠ 0 ∨ nextPosition s.acq.state c = none := by
      refine hp.imp_right fun h0 => ?_
      rcases hst with ⟨h, _⟩ | ⟨h, _⟩ <;> rw [h] <;> exact if_pos h0
    have stood := acqInstants_between (s := compared #v[c1, c2, c3, c4] ext s) hctx unstored
    exact ⟨_, exec_sampleCode_next hup (instant.trans (stood _)), rfl, rfl, fun _ => ⟨rfl, rfl⟩,
      fun h0 hne => absurd hp (by simp [h0, hne])⟩
  · obtain ⟨hp, hpos⟩ := not_or.1 hp
    rw [not_not] at hp
    have fills : (s.acq.state = .preFill ∧ c.ring + 1 < c.p) ∨ s.acq.state = .ready :=
      hst.imp (fun ⟨h, hr⟩ => ⟨h, hr.resolve_left (not_not.2 hp)⟩) (fun h => h.1)
    have stored := acqInstants_ring_start (s := compared #v[c1, c2, c3, c4] ext s) fills hctx hr hp hpos
    exact ⟨_, exec_sampleCode_next hup (instant.trans (stored _)), rfl, rfl,
      fun h => absurd h (by simp [hp, hpos]), fun _ _ => ⟨groupAt_of_mem hwf rfl, _, rfl⟩⟩

/-- R46, R57, R58, R103: the group start that fills the ring of PRE_FILL, with a force pending and without. -/
theorem filling_instant {c1 c2 c3 c4 : Byte} {ext : Bool} {c : Capture} {r : SegRec} {s : State} (hup : s.lnk.startUp = false)
    (hctx : s.acq.ctx = some c) (hr : findSeg c.seq s = some r) (hwf : Store.wf s.mem.dram = true) (hst : s.acq.state = .preFill)
    (hp : c.phase = 0) (hfill : c.ring + 1 = c.p) (hroom : c.p + c.post < c.n ∨ s.acq.forcePending = false) :
    ∃ (t : State) (notes : Vector (List Nat) 4), exec (.sampleCode c1 c2 c3 c4 ext) s = .next t ∧
      GroupAt #v[c1, c2, c3, c4] c r c.ring s t ∧
      t.trg.held = (if s.trg.changeHeld then settingsOf s.setup else s.trg.held) ∧ t.trg.changeHeld = false ∧
      t.acq.forcePending = false ∧ t.lnk = s.lnk ∧ t.setup = s.setup ∧
      if s.acq.forcePending then
        t.acq.state = .postFill ∧ t.trg.autoWait = none ∧ t.trg.pulse = some (s.now + 100) ∧
        t.trg.indication = some (s.now + 100000000) ∧
        t.acq.ctx = some { c with phase := nextPhase c, ring := c.p, clips := notes, trigger := some s.now, forced := true }
      else
        t.acq.state = .ready ∧ t.acq.ctx = some { c with phase := nextPhase c, ring := c.p, clips := notes } ∧
        t.trg.autoWait =
          (if s.setup.get 83 = 0 then some (s.now + (s.setup.get 104).toNat * 1000000) else s.trg.autoWait) := by
  obtain ⟨_, hheld, hchange, hwait⟩ := compared_trg_stands #v[c1, c2, c3, c4] ext s
  have filled := acqInstants_fills (s := compared #v[c1, c2, c3, c4] ext s) hst hctx hr hp hfill hroom
    (correctedCodes #v[c1, c2, c3, c4] s)
  have instant := (sampleInstant_of_no_event (raw := #v[c1, c2, c3, c4]) (ext := ext) (s := s) (by simp [hst])).trans filled
  have taken := readyTrg_spec (filledRing c r (correctedCodes #v[c1, c2, c3, c4] s) (compared #v[c1, c2, c3, c4] ext s))
  simp only [filledRing_trg, filledRing_setup, filledRing_now, compared_setup, compared_now, hheld, hchange, hwait] at taken
  cases hf : s.acq.forcePending with
  | true =>
    rw [enterReady_of_force (s := filledRing c r _ (compared #v[c1, c2, c3, c4] ext s)) hf] at instant
    unfold readied at instant
    generalize readyTrg (filledRing c r _ (compared #v[c1, c2, c3, c4] ext s)) = trg at instant taken
    obtain ⟨held, change, -⟩ := taken
    refine ⟨_, groupNotes c.ring (correctedCodes #v[c1, c2, c3, c4] s) c, exec_sampleCode_next hup instant, ?_⟩
    refine ⟨groupAt_of_mem hwf rfl, held, change, rfl, ?_, ?_, ?_⟩
    · rfl
    · rfl
    · exact ⟨rfl, rfl, rfl, rfl, rfl⟩
  | false =>
    rw [enterReady_of_no_force (s := filledRing c r _ (compared #v[c1, c2, c3, c4] ext s)) hf] at instant
    unfold readied at instant
    generalize readyTrg (filledRing c r _ (compared #v[c1, c2, c3, c4] ext s)) = trg at instant taken
    obtain ⟨held, change, wait⟩ := taken
    refine ⟨_, groupNotes c.ring (correctedCodes #v[c1, c2, c3, c4] s) c, exec_sampleCode_next hup instant, ?_⟩
    exact ⟨groupAt_of_mem hwf rfl, held, change, hf, rfl, rfl, rfl, rfl, wait⟩

/-- R54, R56, R60: TRG after an accepted event. -/
def acceptedTrg (raw : Vector Byte 4) (ext : Bool) (s : State) : Trg :=
  { s.trg with
    high := risesAt raw ext s, count := s.trg.count + 1, autoWait := none
    dac := dacFor s.trg.held (risesAt raw ext s) s.trg.dac
    qualifier := if s.trg.held.pulse then (if s.trg.held.slope = .either then some ⟨risesAt raw ext s, s.now⟩ else none)
      else s.trg.qualifier
    holdoff := if s.trg.held.holdoff = 0 then none else some s.now
    pulse := some (s.now + 100), indication := some (s.now + 100000000) }

/-- R104: the capture context after an accepted event. -/
def acceptedContext (c : Capture) (s : State) : Capture := { c with trigger := some s.now, forced := false }

/-- R54, R104: the state that an accepted event hands to ACQ's instant. -/
def acceptedState (raw : Vector Byte 4) (ext : Bool) (c : Capture) (s : State) : State :=
  { s with
    fec := (sumCodes raw s).fec
    trg := acceptedTrg raw ext s
    acq := { s.acq with state := .postFill, ctx := some (acceptedContext c s) } }

theorem acceptTrigger_compared {raw : Vector Byte 4} {ext : Bool} {c : Capture} {s : State} (hctx : s.acq.ctx = some c)
    (hhit : comparedHit raw ext s = true) (hold : s.trg.holdoff = none) :
    acceptTrigger (compared raw ext s) = acceptedState raw ext c s := by
  rw [acceptTrigger_eq]
  unfold compared acceptedState acceptedTrg
  dsimp only
  rw [comparedTrg_of_hit hhit, hctx, hold]
  rfl

/-- R54, R104: the instant of an accepted event that leaves post-trigger samples. -/
theorem accepted_instant {c1 c2 c3 c4 : Byte} {ext : Bool} {c : Capture} {r : SegRec} {s : State} (hup : s.lnk.startUp = false)
    (hctx : s.acq.ctx = some c) (hr : findSeg c.seq s = some r) (hwf : Store.wf s.mem.dram = true) (hst : s.acq.state = .ready)
    (hold : s.trg.holdoff = none) (hhit : comparedHit #v[c1, c2, c3, c4] ext s = true)
    (hroom : c.p + c.post + (if c.phase = 0 then 1 else 0) < c.n) :
    ∃ t, exec (.sampleCode c1 c2 c3 c4 ext) s = .next t ∧ t.acq.state = .postFill ∧
      t.trg = acceptedTrg #v[c1, c2, c3, c4] ext s ∧
      (c.phase ≠ 0 → t.mem = s.mem ∧
        t.acq.ctx = some { c with phase := nextPhase c, trigger := some s.now, forced := false }) ∧
      (c.phase = 0 → GroupAt #v[c1, c2, c3, c4] c r (c.p + c.post) s t ∧ ∃ notes, t.acq.ctx = some { c with
        phase := nextPhase c, post := c.post + 1, clips := notes, trigger := some s.now, forced := false }) := by
  have instant := sampleInstant_of_event hhit hst hold
  rw [acceptTrigger_compared hctx hhit hold,
    completeIfFull_of_room (s := acceptedState _ ext c s) (c := acceptedContext c s) rfl
      (show c.p + c.post < c.n by omega)] at instant
  by_cases hp : c.phase = 0
  · rw [if_pos hp] at hroom
    rw [acqInstants_postFill_start (s := acceptedState _ ext c s) (c := acceptedContext c s) rfl rfl hr hp hroom] at instant
    exact ⟨_, exec_sampleCode_next hup instant, rfl, rfl, fun h => absurd hp h, fun _ => ⟨groupAt_of_mem hwf rfl, _, rfl⟩⟩
  · rw [acqInstants_between (s := acceptedState _ ext c s) (c := acceptedContext c s) rfl (.inl hp)] at instant
    exact ⟨_, exec_sampleCode_next hup instant, rfl, rfl, fun _ => ⟨rfl, rfl⟩, fun h => absurd h hp⟩

/-- R54, R105, R107: the event of a SINGLE run's segment that has nothing to collect: the segment completes and the run ends. -/
theorem completing_instant {c1 c2 c3 c4 : Byte} {ext : Bool} {c : Capture} {r : SegRec} {s : State} {start : Instant}
    (hup : s.lnk.startUp = false) (hctx : s.acq.ctx = some c) (hr : findSeg c.seq s = some r) (hst : s.acq.state = .ready)
    (hold : s.trg.holdoff = none) (hhit : comparedHit #v[c1, c2, c3, c4] ext s = true) (hfull : c.n ≤ c.p + c.post)
    (hsingle : s.acq.singlePending = true) (hstart : s.acq.runStart = some start) (hnone : s.mem.pendingAlloc = none) :
    ∃ t, exec (.sampleCode c1 c2 c3 c4 ext) s = .next t ∧ t.acq.state = .stopped ∧ t.acq.ctx = none ∧
      t.acq.lastSeq = c.seq ∧ t.mem.dram = s.mem.dram ∧ t.trg.autoWait = none ∧ t.trg.pulse = some (s.now + 100) ∧
      t.trg.indication = some (s.now + 100000000) ∧
      ∃ done, findSeg c.seq t = some done ∧ done.state = .complete ∧ done.forced = false ∧ done.pages = r.pages ∧
        done.triggerTime = s.now - start ∧ done.origin = if c.p = 0 then 0 else c.ring % c.p := by
  have instant := sampleInstant_of_event hhit hst hold
  rw [acceptTrigger_compared hctx hhit hold,
    completeIfFull_of_full (s := acceptedState _ ext c s) (c := acceptedContext c s) rfl rfl hfull] at instant
  obtain ⟨state, ctx, seq, dram, wait, pulse, ind, pins, found⟩ := complete_single
    (c := acceptedContext c s) (s := acceptedState #v[c1, c2, c3, c4] ext c s) hr hsingle hnone
  rw [acqInstants_of_idle ctx] at instant
  refine ⟨_, exec_sampleCode_next hup instant, ?_⟩
  refine ⟨state, ctx, seq, dram, wait, pulse, ind, _, found, rfl, rfl, rfl, ?_, rfl⟩
  show s.now - s.acq.runStart.getD 0 = s.now - start
  rw [hstart]
  rfl

/-! ### The statement -/

/-- R49: the DAC of an accepted event, in the numbers of the rule. -/
theorem dacFor_eq (h : TrigSettings) (high : Bool) (dac : Nat) :
    dacFor h high dac = if h.source = .ext then (if high then lowerOf h else upperOf h) else dac := by
  cases hs : h.source <;> simp [dacFor, hs]

/-- R48, R49: the reading at the upper threshold, by the source. -/
theorem atUpper_seen (raw : Vector Byte 4) (ext : Bool) (s : State) :
    atUpper s.trg.held (seenCode raw s) ext = (match s.trg.held.source with
      | .channel n => decide (upperOf s.trg.held ≤ (correctCode raw[n] (liveCal n s)).toNat)
      | .ext => ext) := by
  cases hs : s.trg.held.source with
  | channel n => rw [atUpper_channel hs, seenCode_channel hs]
  | ext => rw [atUpper_ext hs]

/-- R48, R49: the reading at the lower threshold, by the source. -/
theorem atLower_seen (raw : Vector Byte 4) (ext : Bool) (s : State) :
    atLower s.trg.held (seenCode raw s) ext = (match s.trg.held.source with
      | .channel n => decide ((correctCode raw[n] (liveCal n s)).toNat ≤ lowerOf s.trg.held)
      | .ext => !ext) := by
  cases hs : s.trg.held.source with
  | channel n => rw [atLower_channel hs, seenCode_channel hs]
  | ext => rw [atLower_ext hs]

/-- Settles O30, phase by phase. -/
theorem postFillStoresEachGroup : Obligations.PostFillStoresEachGroup := by
  intro c1 c2 c3 c4 ext c r s hup hctx hr hwf next codeOf h upper lower rising falling hit storedAt
  have hupper : upperOf h = upper := upperOf_eq h
  have hlower : lowerOf h = lower := lowerOf_eq h
  have hrises : risesAt #v[c1, c2, c3, c4] ext s = rising := by
    have seen := atUpper_seen #v[c1, c2, c3, c4] ext s
    rw [upperOf_eq] at seen
    exact congrArg (fun up => !s.trg.seedPending && !s.trg.high && up) seen
  have hfalls : fallsAt #v[c1, c2, c3, c4] ext s = falling := by
    have seen := atLower_seen #v[c1, c2, c3, c4] ext s
    rw [lowerOf_eq] at seen
    exact congrArg (fun down => !s.trg.seedPending && s.trg.high && down) seen
  have hhit : comparedHit #v[c1, c2, c3, c4] ext s = hit := by
    rw [comparedHit_eq, hrises, hfalls]; rfl
  have htrg : acceptedTrg #v[c1, c2, c3, c4] ext s = { s.trg with
      high := rising, count := s.trg.count + 1, autoWait := none
      dac := if h.source = .ext then (if rising then lower else upper) else s.trg.dac
      qualifier := if h.pulse then (if h.slope = .either then some ⟨rising, s.now⟩ else none) else s.trg.qualifier
      holdoff := if h.holdoff = 0 then none else some s.now
      pulse := some (s.now + 100), indication := some (s.now + 100000000) } := by
    unfold acceptedTrg
    rw [dacFor_eq, hrises, hupper, hlower]
  rw [← hhit, ← htrg]
  exact ⟨fun hst hroom => postFill_instant hup hctx hr hwf hst hroom,
    fun hst => ring_instant hup hctx hr hwf hst,
    fun hst hp hfill hroom => filling_instant hup hctx hr hwf hst hp hfill hroom,
    fun hst hold hit hroom => accepted_instant hup hctx hr hwf hst hold hit hroom,
    fun start hst hold hit hfull hsingle hstart hnone =>
      completing_instant hup hctx hr hst hold hit hfull hsingle hstart hnone⟩

end Sys2Proof.Machine
end

section
/-! PROOF. The gate of the event counter, and COUNTER_READ. -/

namespace Sys2Proof.Machine

/-- R61: the gate length, in the numbers of the rule. -/
theorem gateLength_eq (gate1000 : Bool) : gateLength gate1000 = if gate1000 then 1000000000 else 100000000 := by
  cases gate1000 <;> rfl

/-- R62: whether a result stands that has not been read. -/
def unreadResult (s : State) : Bool := s.trg.result.valid && !s.trg.result.read

/-- R61, R62: TRG after the end of a gate. -/
def gateEndedTrg (s : State) : Trg :=
  { s.trg with
    result := ⟨true, s.trg.count, s.trg.held.gate1000, false, s.trg.result.overrun || unreadResult s⟩
    gateStart := s.trg.gateStart + gateLength s.trg.held.gate1000, count := 0 }

/-- R62: the state in which the overrun of an unread result is latched. -/
def overrunFlagged (s : State) : State :=
  { reach (s.trg.gateStart + gateLength s.trg.held.gate1000) s with
    trg := { s.trg with result := { s.trg.result with overrun := true } } }

theorem gateEnds_of_unread {s : State} (h : unreadResult s = true) : gateEnds s =
    { latchCondition .counterOverrun (.gate s.trg.held.gate1000) (overrunFlagged s) with trg := gateEndedTrg s } := by
  unfold gateEnds gateEndedTrg
  rw [h]
  unfold unreadResult at h
  simp [h, overrunFlagged]

theorem gateEnds_of_read {s : State} (h : unreadResult s = false) : gateEnds s =
    { reach (s.trg.gateStart + gateLength s.trg.held.gate1000) s with trg := gateEndedTrg s } := by
  unfold gateEnds gateEndedTrg
  rw [h]
  unfold unreadResult at h
  simp [h]

/-- R62: the end of a gate latches the overrun of an unread result; LNK stands otherwise. -/
theorem gateEnds_spec (s : State) : (gateEnds s).trg = gateEndedTrg s ∧
    (if unreadResult s = true then LatchedNow .counterOverrun (.gate s.trg.held.gate1000) s (gateEnds s)
     else (gateEnds s).lnk = s.lnk) := by
  cases h : unreadResult s with
  | true =>
    rw [gateEnds_of_unread h]
    exact ⟨rfl, (latchedNow_latchCondition (by simp) _ (overrunFlagged s)).of_entries rfl rfl⟩
  | false =>
    rw [gateEnds_of_read h]
    exact ⟨rfl, rfl⟩

/-- R63: COUNTER_READ answers with the result as it stands, and then marks it read. -/
theorem counterRead_served {tag : Byte} {s : State} (hc : CanTake 0x36 tag [] s) :
    exec (.counterRead tag []) s = .next (answered 0x36 tag .ok
      (.counter s.trg.result.valid (if s.trg.result.valid then s.trg.result.count else 0)
        (if s.trg.result.valid then s.trg.result.gate1000 else s.trg.held.gate1000) s.trg.result.overrun)
      { taken s with trg := { s.trg with result := { s.trg.result with read := true, overrun := false } } }) := by
  have served : exec (.counterRead tag []) s = .next (counterReadOf tag [] (handed s)) := request_of_canTake _ _ _ _ _ hc
  rw [served]
  simp only [counterReadOf, parseNothing, reply_handed]
  rfl

/-- Settles O26: the end of a gate with an unread result and without, and the reply of COUNTER_READ. -/
theorem gateEndLatchesTheCount : Obligations.GateEndLatchesTheCount := by
  refine ⟨fun s hup => ⟨_, whenUp_of_up gateEnds s hup, ?_⟩, fun tag s hc => ⟨_, counterRead_served hc, rfl, rfl⟩⟩
  obtain ⟨trg, latched⟩ := gateEnds_spec s
  refine ⟨?_, ?_, ?_⟩
  · rw [trg, gateEndedTrg, gateLength_eq]; rfl
  · simpa [unreadResult] using latched
  · show (gateEnds s).trg.result.overrun = _
    rw [trg]; rfl

end Sys2Proof.Machine
end

section
/-! PROOF. Forced triggers: FORCE by the state of ACQ, and the expiry of the auto-wait timer. -/

namespace Sys2Proof.Machine

/-- R58, R59, R60, R104: the state after a forced trigger at an instant. -/
def forcedState (now : Instant) (c : Capture) (s : State) : State :=
  { s with
    now := now
    acq := { s.acq with state := .postFill, ctx := some { c with trigger := some now, forced := true } }
    trg := { s.trg with autoWait := none, pulse := some (now + 100), indication := some (now + 100000000) } }

theorem forceTrigger_of_ctx {s : State} {c : Capture} (h : s.acq.ctx = some c) : forceTrigger s = forcedState s.now c s := by
  unfold forceTrigger acqTrigger
  rw [stopAutoWait_acq, h]
  rfl

/-- R105: a forced trigger that leaves post-trigger samples completes nothing. -/
theorem completeIfFull_forced {now : Instant} {c : Capture} {s : State} (h : c.p + c.post < c.n) :
    completeIfFull (forcedState now c s) = forcedState now c s := completeIfFull_of_room rfl h

/-- R96: FORCE is `takeForce` and the reply behind it. -/
theorem force_served {tag : Byte} {s : State} (hc : CanTake 0x33 tag [] s) :
    exec (.force tag []) s =
      .next (reply 0x33 tag (takeForce (handed s)).2 .empty (takeForce (handed s)).1) :=
  request_of_canTake _ _ _ _ _ hc

theorem takeForce_of_ready {s : State} (h : s.acq.state = .ready) : takeForce s = (completeIfFull (forceTrigger s), .ok) := by
  unfold takeForce; rw [h]

theorem takeForce_of_preFill {s : State} (h : s.acq.state = .preFill) :
    takeForce s = ({ s with acq := { s.acq with forcePending := true } }, .ok) := by
  unfold takeForce; rw [h]

theorem takeForce_refused {s : State} (h1 : s.acq.state ≠ .ready) (h2 : s.acq.state ≠ .preFill) :
    takeForce s = (s, .badState) := by
  unfold takeForce
  split
  · contradiction
  · contradiction
  · rfl

/-- R105, R107: FORCE in READY of a SINGLE run whose segment has nothing to collect: the segment completes and the run ends. -/
theorem force_completes {tag : Byte} {s : State} {c : Capture} {r : SegRec} {start : Instant} (hc : CanTake 0x33 tag [] s)
    (hst : s.acq.state = .ready) (hctx : s.acq.ctx = some c) (hr : findSeg c.seq s = some r) (hfull : c.n ≤ c.p + c.post)
    (hsingle : s.acq.singlePending = true) (hstart : s.acq.runStart = some start) (hnone : s.mem.pendingAlloc = none) :
    ∃ t, exec (.force tag []) s = .next t ∧ t.acq.state = .stopped ∧ t.acq.ctx = none ∧ t.trg.autoWait = none ∧
      t.trg.pulse = some (s.now + 100) ∧ t.acq.lastSeq = c.seq ∧
      t.lnk.outbound.getLast? = some (.reply ⟨tag, 0x33, .ok, .empty⟩) ∧
      ∃ done, findSeg c.seq t = some done ∧ done.state = .complete ∧ done.forced = true ∧ done.pages = r.pages ∧
        done.triggerTime = s.now - start ∧ done.origin = if c.p = 0 then 0 else c.ring % c.p := by
  have taken : takeForce (handed s) =
      (complete { c with trigger := some s.now, forced := true } (forcedState s.now c (handed s)), .ok) := by
    rw [takeForce_of_ready (s := handed s) hst, forceTrigger_of_ctx (s := handed s) hctx,
      completeIfFull_of_full (s := forcedState _ c (handed s)) rfl rfl hfull]
    rfl
  obtain ⟨state, ctx, seq, -, wait, pulse, -, pins, found⟩ := complete_single
    (c := { c with trigger := some s.now, forced := true }) (s := forcedState s.now c (handed s)) hr hsingle hnone
  refine ⟨_, force_served hc, ?_⟩
  rw [taken]
  refine ⟨state, ctx, wait, pulse, seq, by simp, _, found, rfl, rfl, rfl, ?_, rfl⟩
  show s.now - s.acq.runStart.getD 0 = s.now - start
  rw [hstart]
  rfl

/-- R58: the expiry of the auto-wait timer in READY forces a trigger at its deadline, or now where that has passed. -/
theorem autoWaitExpires_of_ready {s : State} {c : Capture} {d : Instant} (hd : s.trg.autoWait = some d)
    (hst : s.acq.state = .ready) (hctx : s.acq.ctx = some c) :
    autoWaitExpires s = completeIfFull (forcedState (max s.now d) c s) := by
  have ready : (reach d (stopAutoWait s)).acq.state = .ready := hst
  unfold autoWaitExpires
  rw [hd]
  dsimp only
  rw [if_pos ready, forceTrigger_of_ctx (s := reach d (stopAutoWait s)) hctx]
  rfl

/-- Settles O27: the cases of `takeForce`, and the expiry. -/
theorem forcedTriggersEnterPostFill : Obligations.ForcedTriggersEnterPostFill := by
  refine ⟨fun tag s hc => ⟨fun c hst hctx hroom => ?_, fun hst => ?_, fun h1 h2 => ?_, fun c r start => force_completes hc⟩,
    fun s c d hup hd hst hctx hroom => ?_⟩
  · rw [force_served hc, takeForce_of_ready (s := handed s) hst, forceTrigger_of_ctx (s := handed s) hctx,
      completeIfFull_forced hroom]
    exact congrArg _ (reply_handed _ _ _ _ (forcedState s.now c s))
  · rw [force_served hc, takeForce_of_preFill (s := handed s) hst]
    exact congrArg _ (reply_handed _ _ _ _ { s with acq := { s.acq with forcePending := true } })
  · rw [force_served hc, takeForce_refused (s := handed s) h1 h2, reply_handed]
  · refine (whenUp_of_up autoWaitExpires s hup).trans (congrArg _ ?_)
    rw [autoWaitExpires_of_ready hd hst hctx, completeIfFull_forced hroom]
    rfl

end Sys2Proof.Machine
end

section
/-! PROOF. The way of a completed segment to RND: of the state only MEM and RND move on it, and MEM loses neither pages nor room in the
table. -/

namespace Sys2Proof.Machine

/-- R117 to R122: from `s` to `t` MEM and RND alone have moved; no allocation is pending, the pool has lost no page and the table has
gained no record. -/
structure RendersOnly (s t : State) : Prop where
  only : t = { s with mem := t.mem, rnd := t.rnd }
  pending : t.mem.pendingAlloc = none
  pool : s.mem.pool.length ≤ t.mem.pool.length
  table : t.mem.table.length ≤ s.mem.table.length

/-- The same from every state without a pending allocation (R73: its retry would arm). -/
def Renders (s t : State) : Prop := s.mem.pendingAlloc = none → RendersOnly s t

namespace Renders

/-- A step that moves RND alone. -/
theorem of_rnd {s t : State} (only : t = { s with rnd := t.rnd }) : Renders s t := by
  intro hnone
  have mem : t.mem = s.mem := by rw [only]
  exact { only := by rw [mem, ← only], pending := by rw [mem, hnone], pool := by rw [mem], table := by rw [mem] }

theorem refl (s : State) : Renders s s := of_rnd rfl

theorem trans {s t u : State} (h : Renders s t) (k : Renders t u) : Renders s u := by
  intro hnone
  have first := h hnone
  have second := k first.pending
  exact {
    only := second.only.trans (by rw [first.only])
    pending := second.pending
    pool := first.pool.trans second.pool
    table := second.table.trans first.table }

theorem foldl {α : Type} {f : State → α → State} (hf : ∀ s x, Renders s (f s x)) (xs : List α) (s : State) :
    Renders s (xs.foldl f s) := by
  induction xs generalizing s with
  | nil => exact refl s
  | cons x rest ih => exact (hf s x).trans (ih (f s x))

end Renders

/-! ### Pins and releases -/

/-- R78: a change of records is MEM's, and the table stays as long as it was. -/
theorem modSeg_renders (seq : Nat) (f : SegRec → SegRec) (s : State) : Renders s (modSeg seq f s) := fun hnone =>
  { only := rfl, pending := hnone, pool := le_refl _, table := by simp [modSeg] }

theorem pinSegment_renders (h : Holder) (seq : Nat) (s : State) : Renders s (pinSegment h seq s).1 := by
  unfold pinSegment
  split
  · exact .refl s
  · split
    · exact modSeg_renders seq _ s
    · exact .refl s

theorem pinRef_renders (b : Bool) (n : Fin 4) (s : State) : Renders s (pinRef b n s).1 := by
  unfold pinRef
  split
  · exact fun hnone => { only := rfl, pending := hnone, pool := le_refl _, table := le_refl _ }
  · exact .refl s

/-- R76: the removal of a record gives its pages back. -/
theorem removeSegment_renders (seq : Nat) (s : State) : Renders s (removeSegment seq s) := by
  intro hnone
  have pending := (dropSegment_pendingAlloc seq s).trans hnone
  unfold removeSegment
  rw [retryPending_of_none pending]
  refine { only := by rw [dropSegment_only], pending := pending, pool := ?_, table := ?_ }
  all_goals
    unfold dropSegment
    split
    · exact le_refl _
    · simp [freePages, List.length_eraseP_le]

theorem retryPending_renders (s : State) : Renders s (retryPending s) := by
  intro hnone
  rw [retryPending_of_none hnone]
  exact Renders.refl s hnone

theorem releaseSegPin_renders (h : Holder) (seq : Nat) (s : State) : Renders s (releaseSegPin h seq s) := by
  unfold releaseSegPin
  split
  · exact .refl s
  · split
    · have unpinned := modSeg_renders seq (fun x => { x with pins := setPin h false x.pins }) s
      dsimp only
      split
      · exact unpinned.trans (removeSegment_renders seq _)
      · exact unpinned.trans (retryPending_renders _)
    · exact .refl s

/-! ### The render queue -/

theorem emptyQueue_renders (keep : Option Nat) (s : State) : Renders s (emptyQueue keep s) :=
  (Renders.of_rnd (t := { s with rnd := { s.rnd with queue := [] } }) rfl).trans
    (Renders.foldl (fun t q => releaseSegPin_renders .render q t) _ _)

theorem pinViewed_renders (s : State) : Renders s (pinViewed s).1 := by
  unfold pinViewed
  split
  · exact .refl s
  · split
    · exact pinSegment_renders _ _ s
    · exact .refl s

theorem pinVisibleRefs_renders (s : State) : Renders s (pinVisibleRefs s) := by
  refine Renders.foldl (fun t n => ?_) channels s
  split
  · exact pinRef_renders false n t
  · exact .refl t

/-- R122: the start of a REDRAW pass. -/
theorem startRedraw_renders (s : State) : Renders s (startRedraw s) := by
  have viewed : Renders s (pinViewed { s with rnd := { s.rnd with redraw := false } }).1 :=
    (Renders.of_rnd rfl).trans (pinViewed_renders _)
  unfold startRedraw
  dsimp only
  generalize pinViewed { s with rnd := { s.rnd with redraw := false } } = pv at *
  exact ((viewed.trans (emptyQueue_renders pv.2 pv.1)).trans (pinVisibleRefs_renders _)).trans (.of_rnd rfl)

/-- R121: the selection of a pass. -/
theorem selectPass_renders (s : State) : Renders s (selectPass s) := by
  unfold selectPass
  split
  · exact .refl s
  · split
    · exact startRedraw_renders s
    · split
      · exact .refl s
      · exact .of_rnd rfl

theorem dropOldestEntry_renders (s : State) : Renders s (dropOldestEntry s) := by
  unfold dropOldestEntry
  split
  · exact .refl s
  · rename_i q rest _
    split
    · exact (Renders.of_rnd (t := { s with rnd := { s.rnd with queue := rest } }) rfl).trans (releaseSegPin_renders .render q _)
    · exact .refl s

/-- R106 step 4, R117: a completed segment is handed to RND. -/
theorem queueForRender_renders (seq : Nat) (s : State) : Renders s (queueForRender seq s) := by
  unfold queueForRender renderArrival
  split
  · exact .refl s
  · split
    · refine ((pinSegment_renders .render seq s).trans (dropOldestEntry_renders _)).trans ?_
      exact (Renders.of_rnd rfl).trans (selectPass_renders _)
    · exact .refl s

end Sys2Proof.Machine
end

section
/-! PROOF. A capture allocation where pool and table have room: nothing is reclaimed, and the new record's seq is one that no record
bears. -/

namespace Sys2Proof.Machine

/-! ### The seq counter -/

/-- R70: the i-th seq that the counter reaches from `n`, leaving out 0. -/
def seqFrom (n i : Nat) : Nat :=
  if i = 0 then n else if n + i < 2 ^ 32 then n + i else if n < 2 ^ 32 then n + i - (2 ^ 32 - 1) else i

theorem seqAfter_seqFrom (n : Nat) {i : Nat} (h : i + 1 < 2 ^ 32) : seqAfter (seqFrom n i) = seqFrom n (i + 1) := by
  unfold seqAfter seqFrom
  rw [if_neg (by omega : ¬ i + 1 = 0)]
  split_ifs <;> omega

/-- R70: the counter does not come back to a seq before it has gone round. -/
theorem seqFrom_inj {n i j : Nat} (hi : i + 1 < 2 ^ 32) (hj : j + 1 < 2 ^ 32) (h : seqFrom n i = seqFrom n j) : i = j := by
  unfold seqFrom at h
  split_ifs at h <;> omega

/-- R70: the counter stops at a seq that no record bears, or has passed a borne one at every step. -/
theorem freeSeq_fresh_or_borne (s : State) (n fuel : Nat) {i : Nat} (h : i + fuel < 2 ^ 32) :
    freeSeq fuel (seqFrom n i) s ∉ s.mem.table.map (·.seq) ∨ ∀ j < fuel, seqFrom n (i + j) ∈ s.mem.table.map (·.seq) := by
  induction fuel generalizing i with
  | zero => exact .inr (fun j hj => absurd hj (Nat.not_lt_zero j))
  | succ f ih =>
    unfold freeSeq
    split
    · rename_i borne
      rw [seqAfter_seqFrom n (by omega)]
      refine (ih (by omega)).imp_right fun rest j hj => ?_
      cases j with
      | zero => simpa using borne
      | succ k => rw [show i + (k + 1) = i + 1 + k by omega]; exact rest k (by omega)
    · rename_i free
      exact .inl (by simpa using free)

/-- R70: with one step more than the table has records, the counter finds a seq that none bears. -/
theorem freeSeq_fresh {s : State} (n : Nat) (htable : s.mem.table.length < 1024) :
    freeSeq (s.mem.table.length + 1) n s ∉ s.mem.table.map (·.seq) := by
  refine (freeSeq_fresh_or_borne s n (s.mem.table.length + 1) (i := 0) (by omega)).resolve_right fun borne => ?_
  have distinct : ((List.range (s.mem.table.length + 1)).map (seqFrom n)).Nodup := by
    refine List.Nodup.map_on (fun i hi j hj => ?_) List.nodup_range
    rw [List.mem_range] at hi hj
    exact seqFrom_inj (by omega) (by omega)
  have within : (List.range (s.mem.table.length + 1)).map (seqFrom n) ⊆ s.mem.table.map (·.seq) := by
    intro q hq
    obtain ⟨j, hj, rfl⟩ := List.mem_map.1 hq
    simpa using borne j (List.mem_range.1 hj)
  have fits := (List.subperm_of_subset distinct within).length_le
  simp at fits

/-! ### The allocation -/

/-- R72: with room in pool and table nothing is reclaimed. -/
theorem reclaim_of_room {k : Nat} {s : State} (h : captureShort k s = false) (fuel : Nat) : reclaim fuel k s = s := by
  cases fuel with
  | zero => rfl
  | succ f => unfold reclaim; rw [h]; rfl

/-- R72: an allocation with room appends one record, under a seq that no record bears. -/
theorem allocate_of_room {q : CaptureRequest} {s : State} (hpool : pagesForRequest q ≤ s.mem.pool.length)
    (htable : s.mem.table.length < 1024) :
    ∃ seq new, (allocate q s).2 = some seq ∧ seq ∉ s.mem.table.map (·.seq) ∧ (allocate q s).1.mem.table = s.mem.table ++ [new] := by
  have room : captureShort (pagesForRequest q) s = false := by
    simp [captureShort, Config.tableSize, hpool, Nat.not_le.2 htable]
  have allocated : allocate q s =
      ({ s with mem := { s.mem with
          pool := s.mem.pool.drop (pagesForRequest q)
          seqCounter := seqAfter (freeSeq (s.mem.table.length + 1) s.mem.seqCounter s)
          table := s.mem.table ++ [newSegment q (freeSeq (s.mem.table.length + 1) s.mem.seqCounter s)
            (s.mem.pool.take (pagesForRequest q))] } },
        some (freeSeq (s.mem.table.length + 1) s.mem.seqCounter s)) := by
    unfold allocate
    dsimp only
    rw [reclaim_of_room room, room]
    rfl
  rw [allocated]
  exact ⟨_, _, rfl, freeSeq_fresh _ htable, rfl⟩

/-- R98, R10: the request of the active setup needs its pages. -/
theorem pagesForRequest_captureRequest (s : State) : pagesForRequest (captureRequest s) = s.setup.pagesNeeded := by
  simp [pagesForRequest, captureRequest, Setup.pagesNeeded, Setup.enabledCount, Setup.channelSet, pagesOf]

/-- R72: a record that is found stays found when another joins the end of the table. -/
theorem findSeg_of_append {seq : Nat} {s t : State} {x new : SegRec} (htable : t.mem.table = s.mem.table ++ [new])
    (h : findSeg seq s = some x) : findSeg seq t = some x := by
  unfold findSeg at h ⊢
  rw [htable, List.find?_append, h]
  rfl

/-- What is found under a seq is read off MEM alone. -/
theorem findSeg_congr {s t : State} (h : t.mem = s.mem) (seq : Nat) : findSeg seq t = findSeg seq s := by
  unfold findSeg; rw [h]

/-- R70: a found record's seq stands in the table. -/
theorem seq_mem_of_findSeg {seq : Nat} {s : State} {x : SegRec} (h : findSeg seq s = some x) : seq ∈ s.mem.table.map (·.seq) := by
  have hseq : x.seq = seq := by simpa using List.find?_some h
  exact hseq ▸ List.mem_map_of_mem (List.mem_of_find?_eq_some h)

/-! ### Arming -/

/-- R102: ACQ has just opened a segment of a request: PRE_FILL, or with P = 0 READY, or POST_FILL where a force was pending. -/
structure OpensSegment (q : CaptureRequest) (seq : Nat) (s : State) : Prop where
  ctx : ∃ trigger forced, s.acq.ctx = some { newContext q seq with trigger := trigger, forced := forced }
  state : if q.p = 0 then s.acq.state = .ready ∨ s.acq.state = .postFill else s.acq.state = .preFill

/-- R103: ACQ after the entry to READY. -/
theorem enterReady_acq (s : State) : (enterReady s).acq = { s.acq with
    state := if s.acq.forcePending then .postFill else .ready
    forcePending := false
    ctx := if s.acq.forcePending then s.acq.ctx.map (fun c => { c with trigger := some s.now, forced := true }) else s.acq.ctx } := by
  cases h : s.acq.forcePending with
  | true => rw [enterReady_of_force h]; rfl
  | false => rw [enterReady_of_no_force h]; simp [readied, h]

theorem enterReady_mem (s : State) : (enterReady s).mem = s.mem := by
  rw [enterReady_eq]; split <;> rfl

/-- R102: the entry to PRE_FILL, with P = 0 to READY at once. -/
theorem enterPreFill_opens (q : CaptureRequest) (seq : Nat) (s : State) : OpensSegment q seq (enterPreFill q seq s) ∧
    (enterPreFill q seq s).mem = s.mem ∧ (enterPreFill q seq s).acq.runStart = s.acq.runStart := by
  unfold enterPreFill
  dsimp only
  split
  · rename_i hp
    rw [enterReady_mem, enterReady_acq]
    refine ⟨⟨?_, ?_⟩, rfl, rfl⟩
    · rw [enterReady_acq]
      cases s.acq.forcePending <;> simp [newContext]
    · rw [enterReady_acq, if_pos hp]
      cases s.acq.forcePending <;> simp
  · rename_i hp
    exact ⟨⟨⟨_, _, rfl⟩, by rw [if_neg hp]; rfl⟩, rfl, rfl⟩

/-- R98, R99: an arming settles, or opens a segment in what an allocation leaves of MEM, or starves. -/
theorem arming_cases (s : State) :
    (s.fec.settle.isSome = true ∧ arm s = setAcq .settling s) ∨
    (s.fec.settle = none ∧ ∃ seq, (allocate (captureRequest s) s).2 = some seq ∧ OpensSegment (captureRequest s) seq (arm s) ∧
      (arm s).mem = (allocate (captureRequest s) s).1.mem ∧ (arm s).acq.runStart = s.acq.runStart) ∨
    (s.fec.settle = none ∧ (allocate (captureRequest s) s).2 = none ∧ (arm s).acq = { s.acq with state := .starved }) := by
  cases hset : s.fec.settle with
  | some d => exact .inl ⟨rfl, by simp [arm, hset]⟩
  | none =>
    have only := allocate_only (captureRequest s) s
    have asks : arm s = requestAllocation s := by simp [arm, hset]
    rw [asks]
    unfold requestAllocation
    dsimp only
    generalize allocate (captureRequest s) s = a at only ⊢
    obtain ⟨s1, got⟩ := a
    have acq : s1.acq = s.acq := by rw [show s1 = _ from only]
    cases got with
    | some seq =>
      obtain ⟨opens, mem, start⟩ := enterPreFill_opens (captureRequest s) seq s1
      exact .inr (.inl ⟨rfl, seq, rfl, opens, mem, by rw [start, acq]⟩)
    | none => exact .inr (.inr ⟨rfl, rfl, by simp [acq]⟩)

end Sys2Proof.Machine
end

section
/-! PROOF. What a completion leaves before the run ends or arms again, and the first group of the segment that an arming opens. -/

namespace Sys2Proof.Machine

/-! ### The steps of a completion -/

/-- R106: the state after steps 1 to 5 of a completion, at which R107 decides. -/
def completed (c : Capture) (s : State) : State := notifySegment c (queueForRender c.seq (recordCompletion c s))

/-- R106 steps 1 to 3: the completion is MEM's, TRG's, FEC's and ACQ's. -/
theorem recordCompletion_eq (c : Capture) (s : State) : recordCompletion c s = { s with
    mem := (modSeg c.seq (completedRecord c (s.acq.runStart.getD 0)) s).mem
    acq := { s.acq with ctx := none, runCount := min (s.acq.runCount + 1) 4294967295, lastSeq := c.seq }
    trg := (recordCompletion c s).trg
    fec := (recordCompletion c s).fec } := by
  unfold recordCompletion
  dsimp only
  rw [leavePhase_only]
  rfl

/-- R46: with a completion TRG takes a held change; the settle timer runs on, and without a held change it stands. -/
theorem recordCompletion_takes (c : Capture) (s : State) :
    (recordCompletion c s).trg.held = (if s.trg.changeHeld then settingsOf s.setup else s.trg.held) ∧
    (recordCompletion c s).trg.changeHeld = false ∧
    (s.fec.settle.isSome = true → (recordCompletion c s).fec.settle.isSome = true) ∧
    (s.trg.changeHeld = false → (recordCompletion c s).fec.settle = s.fec.settle) := by
  generalize hs1 : ({ modSeg c.seq (completedRecord c (s.acq.runStart.getD 0)) s with acq := { s.acq with ctx := none } } : State) = s1
  have same : s1.trg = s.trg ∧ s1.setup = s.setup ∧ s1.fec = s.fec := by rw [← hs1]; exact ⟨rfl, rfl, rfl⟩
  obtain ⟨trg, setup, fec⟩ := same
  have leaves : (recordCompletion c s).trg = (leavePhase s1).trg ∧ (recordCompletion c s).fec = (leavePhase s1).fec := by
    rw [← hs1]; exact ⟨rfl, rfl⟩
  rw [leaves.1, leaves.2, leavePhase_held, leavePhase_changeHeld, trg, setup]
  refine ⟨rfl, rfl, fun h => ?_, fun h => ?_⟩
  · obtain ⟨d, hd⟩ := Option.isSome_iff_exists.1 h
    obtain ⟨e, he, -⟩ := (leavePhase_rederives s1).settle d (by rw [fec]; exact hd)
    rw [he]; rfl
  · unfold leavePhase
    rw [trg, h, ← fec]
    rfl

/-- R106: what stands where R107 decides whether the run ends, `done` the completed record but for its pins. -/
structure Completed (seq : Nat) (done : SegRec) (s w : State) : Prop where
  setup : w.setup = s.setup
  acq : w.acq = { s.acq with ctx := none, runCount := min (s.acq.runCount + 1) 4294967295, lastSeq := seq }
  held : w.trg.held = if s.trg.changeHeld then settingsOf s.setup else s.trg.held
  changeHeld : w.trg.changeHeld = false
  settles : s.fec.settle.isSome = true → w.fec.settle.isSome = true
  settle : s.trg.changeHeld = false → w.fec.settle = s.fec.settle
  pool : s.mem.pool.length ≤ w.mem.pool.length
  table : w.mem.table.length ≤ s.mem.table.length
  record : ∃ pins, findSeg seq w = some { done with pins := pins }

/-- R106 step 4: the segment that has been recorded is handed to RND. -/
theorem queued_only (c : Capture) {s : State} (hnone : s.mem.pendingAlloc = none) :
    RendersOnly (recordCompletion c s) (queueForRender c.seq (recordCompletion c s)) :=
  queueForRender_renders _ _ (by rw [recordCompletion_eq]; exact hnone)

/-- R106 step 5: the notification is LNK's. -/
theorem notifySegment_only (c : Capture) (s : State) : notifySegment c s = { s with lnk := (notifySegment c s).lnk } := by
  unfold notifySegment
  split
  · rw [offer_only]
  · rfl

/-- R106: steps 1 to 5 of a completion. -/
theorem completed_spec {c : Capture} {r : SegRec} {s : State} (hr : findSeg c.seq s = some r) (hnone : s.mem.pendingAlloc = none) :
    Completed c.seq (completedRecord c (s.acq.runStart.getD 0) r) s (completed c s) := by
  obtain ⟨held, changeHeld, settles, settle⟩ := recordCompletion_takes c s
  have found : findSeg c.seq (recordCompletion c s) = some (completedRecord c (s.acq.runStart.getD 0) r) := by
    rw [recordCompletion_eq]
    exact (findSeg_modSeg_self (f := completedRecord c (s.acq.runStart.getD 0)) (fun _ => rfl) s).trans (by rw [hr]; rfl)
  have renders := queued_only c hnone
  have record := ((queueForRender_keepsRecord c.seq c.seq (s := recordCompletion c s)
    (by rw [recordCompletion_eq]; exact hnone)).trans (notifySegment_keepsRecord c.seq c _)).record _ found rfl
  have mem : (completed c s).mem = (queueForRender c.seq (recordCompletion c s)).mem := by
    unfold completed; rw [notifySegment_only]
  have stood : completed c s = { recordCompletion c s with
      mem := (completed c s).mem, rnd := (completed c s).rnd, lnk := (completed c s).lnk } := by
    unfold completed; rw [notifySegment_only, renders.only]
  have recorded := recordCompletion_eq c s
  refine {
    setup := by rw [stood, recorded], acq := by rw [stood, recorded], record := record
    held := by rw [stood]; exact held
    changeHeld := by rw [stood]; exact changeHeld
    settles := by rw [stood]; exact settles
    settle := by rw [stood]; exact settle
    pool := ?_, table := ?_ }
  · rw [mem]
    refine le_trans ?_ renders.pool
    rw [recorded]
    exact le_refl _
  · rw [mem]
    refine le_trans renders.table ?_
    rw [recorded]
    simp [modSeg]

/-- R211: a SEGMENT report updates a SEGMENT report alone. -/
theorem eq_segment_of_updates {q : Nat} {f : Bool} {m : Vector Bool 4} {k : Nat} {x : Record}
    (h : updates (.segment q f m k) x = true) : ∃ q' f' m' k', x = .report (.segment q' f' m' k') := by
  cases x with
  | reply _ => cases h
  | report y =>
    cases y with
    | segment q' f' m' k' => exact ⟨q', f', m', k', rfl⟩
    | _ => cases h

/-- R210, R211: where no SEGMENT report waits, one that is offered joins the tail while a place is free. -/
theorem offer_segment_outbound {q : Nat} {f : Bool} {m : Vector Bool 4} {k : Nat} {s : State} (hfree : 1 ≤ freeCount s)
    (hnew : ∀ q f m k, Record.report (.segment q f m k) ∉ s.lnk.outbound) :
    (offer (.segment q f m k) s).lnk.outbound = s.lnk.outbound ++ [.report (.segment q f m k)] := by
  have unmatched : ∀ x ∈ s.lnk.outbound, updates (.segment q f m k) x = false := by
    intro x hx
    rw [Bool.eq_false_iff]
    intro h
    obtain ⟨_, _, _, _, rfl⟩ := eq_segment_of_updates h
    exact hnew _ _ _ _ hx
  simp [offer, (replaceFirst_none _ _ _).2 unmatched, offerNew, hfree]

/-- R208: a record that joins the queue takes one place. -/
theorem freeCount_of_joined {s t : State} {x : Record} (hout : t.lnk.outbound = s.lnk.outbound ++ [x])
    (hres : t.lnk.reservations = s.lnk.reservations) : freeCount t = freeCount s - 1 := by
  unfold freeCount
  rw [hout, hres, List.length_append, List.length_singleton]
  omega

/-- R106 step 5, R108: with 2 places free, and no SEGMENT report waiting that it would update, SEGMENT joins the queue where the
setup asks for it, and a place stays free. -/
theorem completed_outbound (c : Capture) {s : State} (hnone : s.mem.pendingAlloc = none) (hfree : 2 ≤ freeCount s)
    (hnew : ∀ q f m k, Record.report (.segment q f m k) ∉ s.lnk.outbound) :
    1 ≤ freeCount (completed c s) ∧ (completed c s).lnk.outbound = s.lnk.outbound ++
      (if s.setup.get 86 = 1 then
        [.report (.segment c.seq c.forced (.ofFn (fun n => c.set[n] && !c.clips[n].isEmpty)) (min (s.acq.runCount + 1) 4294967295))]
      else []) := by
  have only := (queued_only c hnone).only
  generalize hq : queueForRender c.seq (recordCompletion c s) = q at only
  have lnk : q.lnk = s.lnk := by rw [only, recordCompletion_eq]
  have setup : q.setup = s.setup := by rw [only, recordCompletion_eq]
  have runCount : q.acq.runCount = min (s.acq.runCount + 1) 4294967295 := by rw [only, recordCompletion_eq]
  have free : freeCount q = freeCount s := by unfold freeCount; rw [lnk]
  unfold completed notifySegment
  rw [hq, setup]
  split
  · have joined := offer_segment_outbound (q := c.seq) (f := c.forced) (m := .ofFn (fun n => c.set[n] && !c.clips[n].isEmpty))
      (k := q.acq.runCount) (s := q) (by omega) (by rw [lnk]; exact hnew)
    have left := freeCount_of_joined joined (offer_lnk_reservations _ q)
    rw [lnk, runCount] at joined
    exact ⟨by omega, by rw [runCount]; exact joined⟩
  · exact ⟨by omega, by rw [lnk, List.append_nil]⟩

/-! ### The end of a run, or its going on -/

/-- R107: whether the run ends at a completion. -/
def runIsOver (s : State) : Prop :=
  s.acq.singlePending = true ∨ (0 < s.setup.get 84 ∧ s.setup.get 84 ≤ s.acq.runCount)

theorem endOrRearm_of_over {s : State} (h : runIsOver s) :
    endOrRearm s = enterStopped (if s.acq.singlePending then .singleDone else .stopAfter) s := by
  unfold endOrRearm
  cases hs : s.acq.singlePending with
  | true => rfl
  | false => exact if_pos (h.resolve_left (by simp [hs]))

theorem endOrRearm_of_not_over {s : State} (h : ¬ runIsOver s) : endOrRearm s = arm s := by
  obtain ⟨single, count⟩ := not_or.1 h
  unfold endOrRearm
  rw [if_neg single, if_neg count]

/-! ### The first group of the next segment -/

/-- R101: the context after a group start, the instant counted. -/
def countedGroup (st : AcqState) (q : Nat) (codes : Vector Byte 4) (c : Capture) : Capture :=
  { countGroup st q codes c with phase := nextPhase (countGroup st q codes c) }

/-- R101: a group start is sample memory's and the context's. -/
theorem groupStored_only (c : Capture) (q : Nat) (codes : Vector Byte 4) (s : State) : groupStored c q codes s = { s with
    mem := { s.mem with dram := (groupStored c q codes s).mem.dram }
    acq := { s.acq with ctx := some (countedGroup s.acq.state q codes c) } } := by
  unfold groupStored storeCodes
  split <;> rfl

/-- R101, R103: what the first group of a segment leaves: the segment stays in flight, and the run, the records and TRG's settings
stand. -/
structure FirstGroup (seq : Nat) (s t : State) : Prop where
  rederives : Rederives s t
  runStart : t.acq.runStart = s.acq.runStart
  table : t.mem.table = s.mem.table
  flight : ∃ c, t.acq.ctx = some c ∧ c.seq = seq
  inFlight : segmentOpen t.acq.state = true

/-- R101: a group stored while a segment is in flight. -/
theorem groupStored_firstGroup {c : Capture} {s : State} (hopen : segmentOpen s.acq.state = true) (q : Nat)
    (codes : Vector Byte 4) : FirstGroup c.seq s (groupStored c q codes s) := by
  have seq : (countGroup s.acq.state q codes c).seq = c.seq := by unfold countGroup; dsimp only; split <;> rfl
  rw [groupStored_only]
  exact { rederives := .of_kept rfl, runStart := rfl, table := rfl, flight := ⟨_, rfl, seq⟩, inFlight := hopen }

/-- R101: an instant at which nothing is stored. -/
theorem countInstant_firstGroup {c : Capture} {s : State} (hctx : s.acq.ctx = some c) (hopen : segmentOpen s.acq.state = true) :
    FirstGroup c.seq s (countInstant s) := by
  rw [countInstant_ctx hctx]
  exact { rederives := .of_kept rfl, runStart := rfl, table := rfl, flight := ⟨_, rfl, rfl⟩, inFlight := hopen }

/-- R103: the entry to READY after it, with a force pending or without. -/
theorem FirstGroup.after_enterReady {seq : Nat} {s t : State} (h : FirstGroup seq s t) : FirstGroup seq s (enterReady t) := by
  obtain ⟨c, hctx, hseq⟩ := h.flight
  exact {
    rederives := h.rederives.trans (enterReady_rederives t)
    runStart := by rw [enterReady_acq]; exact h.runStart
    table := by rw [enterReady_mem]; exact h.table
    flight := by
      rw [enterReady_acq, hctx]
      cases t.acq.forcePending with
      | true => exact ⟨_, rfl, hseq⟩
      | false => exact ⟨_, rfl, hseq⟩
    inFlight := by rw [enterReady_acq]; cases t.acq.forcePending <;> rfl }

/-- R103, R105: the entry to READY completes nothing while post-trigger samples are left. -/
theorem completeIfFull_enterReady {c : Capture} {s : State} (hctx : s.acq.ctx = some c) (hroom : c.p + c.post < c.n) :
    completeIfFull (enterReady s) = enterReady s := by
  have acq := enterReady_acq s
  cases hf : s.acq.forcePending with
  | true =>
    rw [hf, hctx] at acq
    exact completeIfFull_of_room (c := { c with trigger := some s.now, forced := true }) (by rw [acq]; rfl) hroom
  | false =>
    rw [hf] at acq
    exact completeIfFull_of_not_postFill (by rw [acq]; simp)

/-- R101, R103: the first group fills no segment, whose record length is at least 2. -/
theorem firstGroup_of_opens {q : CaptureRequest} {seq : Nat} {s : State} (h : OpensSegment q seq s) (hn : 2 ≤ q.n)
    (codes : Vector Byte 4) : FirstGroup seq s (acqInstant codes s) := by
  obtain ⟨⟨trigger, forced, hctx⟩, hstate⟩ := h
  generalize hc : ({ newContext q seq with trigger := trigger, forced := forced } : Capture) = c at hctx
  obtain ⟨rfl, hcn, hcp, hphase, hring, hpost⟩ :
      c.seq = seq ∧ c.n = q.n ∧ c.p = q.p ∧ c.phase = 0 ∧ c.ring = 0 ∧ c.post = 0 := by
    rw [← hc]; exact ⟨rfl, rfl, rfl, rfl, rfl, rfl⟩
  rw [← hcp] at hstate
  split at hstate
  · rename_i hp
    rcases hstate with hst | hst
    · rw [acqInstant_unstored hctx (by rw [hst]; exact if_pos hp)]
      exact countInstant_firstGroup hctx (by rw [hst]; rfl)
    · have only := groupStored_only c (c.p + c.post) codes s
      rw [hst] at only
      rw [acqInstant_start hctx hphase (by rw [hst]; rfl), readyIfFilled_of_not_preFill (by rw [only, hst]; simp),
        completeIfFull_of_room (by rw [only]) (show c.p + (c.post + 1) < c.n by omega)]
      exact groupStored_firstGroup (by rw [hst]; rfl) _ codes
  · rename_i hp
    have only := groupStored_only c (c.ring % c.p) codes s
    have stored := groupStored_firstGroup (c := c) (by rw [hstate]; rfl) (c.ring % c.p) codes
    rw [hstate] at only
    have ctx : (groupStored c (c.ring % c.p) codes s).acq.ctx = some (countedGroup .preFill (c.ring % c.p) codes c) := by rw [only]
    rw [acqInstant_start hctx hphase (by rw [hstate]; exact if_neg hp)]
    by_cases hfull : c.p ≤ c.ring + 1
    · have entered := completeIfFull_enterReady ctx (show c.p + c.post < c.n by omega)
      rw [readyIfFilled_of_full (by rw [only]; exact hstate) ctx hfull, entered, entered]
      exact stored.after_enterReady
    · rw [readyIfFilled_of_room ctx (show c.ring + 1 < c.p by omega),
        completeIfFull_of_not_postFill (by rw [only, hstate]; simp)]
      exact stored

/-- R2: a request of the active setup asks for at least 1024 samples. -/
theorem two_le_captureRequest_n (s : State) : 2 ≤ (captureRequest s).n := by
  have one : 1 ≤ 2 ^ (s.setup.get 80).toNat := Nat.one_le_two_pow
  show 2 ≤ 1024 * 2 ^ (s.setup.get 80).toNat
  omega

end Sys2Proof.Machine
end

section
/-! PROOF. The last post-trigger write: the completion at its group start, and the end of the run or the next segment. -/

namespace Sys2Proof.Machine

/-! ### After an arming -/

/-- R101: an instant after which no segment is in flight is ACQ's once. -/
theorem acqInstants_of_left_idle {codes : Vector Byte 4} {s : State} (h : (acqInstant codes s).acq.ctx = none) :
    acqInstants codes s = acqInstant codes s := by
  unfold acqInstants
  dsimp only
  rw [if_neg (fun both => by simp [flightSeq, h] at both)]

/-- R101: an instant at which the next segment opens is also its group 0. -/
theorem acqInstants_of_next {codes : Vector Byte 4} {s : State} {c c' : Capture} (hc : s.acq.ctx = some c)
    (hc' : (acqInstant codes s).acq.ctx = some c') (hne : c'.seq ≠ c.seq) :
    acqInstants codes s = acqInstant codes (acqInstant codes s) := by
  unfold acqInstants
  dsimp only
  rw [if_pos ⟨by simp [flightSeq, hc], by simp [flightSeq, hc'], by simpa [flightSeq, hc, hc'] using Ne.symm hne⟩]

/-- R98, R101: an instant that ends in an arming keeps what an arming keeps, and the run's start. -/
theorem rearmed_rederives {codes : Vector Byte 4} {s w : State} {c : Capture} (hc : s.acq.ctx = some c)
    (hrearm : acqInstant codes s = arm w) (hidle : w.acq.ctx = none) :
    Rederives w (acqInstants codes s) ∧ (acqInstants codes s).acq.runStart = w.acq.runStart := by
  have armed := arming_rederives w
  rcases arming_cases w with ⟨_, settling⟩ | ⟨_, seq, _, opens, _, start⟩ | ⟨_, _, starved⟩
  · rw [acqInstants_of_left_idle (by rw [hrearm, settling]; exact hidle), hrearm]
    exact ⟨armed, by rw [settling]; rfl⟩
  · obtain ⟨trigger, forced, hctx⟩ := opens.ctx
    by_cases hseq : seq = c.seq
    · rw [acqInstants_of_same (by rw [hrearm]; simp [flightSeq, hctx, hc, newContext, hseq]), hrearm]
      exact ⟨armed, start⟩
    · have group := firstGroup_of_opens opens (two_le_captureRequest_n w) codes
      rw [acqInstants_of_next hc (by rw [hrearm]; exact hctx) hseq, hrearm]
      exact ⟨armed.trans group.rederives, group.runStart.trans start⟩
  · rw [acqInstants_of_left_idle (by rw [hrearm, starved]; exact hidle), hrearm]
    exact ⟨armed, by rw [starved]⟩

/-- R98: while the settle timer runs, the arming settles. -/
theorem rearmed_of_settling {codes : Vector Byte 4} {s w : State} (hrearm : acqInstant codes s = arm w)
    (hidle : w.acq.ctx = none) (hset : w.fec.settle.isSome = true) : acqInstants codes s = setAcq .settling w := by
  have settling : arm w = setAcq .settling w := if_pos hset
  rw [acqInstants_of_left_idle (by rw [hrearm, settling]; exact hidle), hrearm, settling]

/-- R70, R72, R101: otherwise, with room, it opens a segment under another seq, which takes its first group at this instant; a record
that is found stays found. -/
theorem rearmed_of_room {codes : Vector Byte 4} {s w : State} {c : Capture} {x : SegRec} (hc : s.acq.ctx = some c)
    (hrearm : acqInstant codes s = arm w) (hset : w.fec.settle = none) (hx : findSeg c.seq w = some x)
    (hpool : w.setup.pagesNeeded ≤ w.mem.pool.length) (htable : w.mem.table.length < 1024) :
    segmentOpen (acqInstants codes s).acq.state = true ∧
    (∃ c', (acqInstants codes s).acq.ctx = some c' ∧ c'.seq ≠ c.seq) ∧ findSeg c.seq (acqInstants codes s) = some x := by
  obtain ⟨seq, new, allocated, fresh, appended⟩ :=
    allocate_of_room (q := captureRequest w) (by rw [pagesForRequest_captureRequest]; exact hpool) htable
  rcases arming_cases w with ⟨some, _⟩ | ⟨_, seq', got, opens, mem, _⟩ | ⟨_, none, _⟩
  · rw [hset] at some; cases some
  · obtain rfl : seq = seq' := Option.some.inj (allocated.symm.trans got)
    have hne : seq ≠ c.seq := fun e => fresh (e ▸ seq_mem_of_findSeg hx)
    obtain ⟨trigger, forced, hctx⟩ := opens.ctx
    have group := firstGroup_of_opens opens (two_le_captureRequest_n w) codes
    obtain ⟨c', hctx', hseq'⟩ := group.flight
    rw [acqInstants_of_next hc (by rw [hrearm]; exact hctx) hne, hrearm]
    exact ⟨group.inFlight, ⟨c', hctx', hseq' ▸ hne⟩, findSeg_of_append (by rw [group.table, mem]; exact appended) hx⟩
  · rw [allocated] at none; cases none

/-! ### The last post-trigger write -/

/-- R101: the context that completes. -/
def lastContext (codes : Vector Byte 4) (c : Capture) : Capture :=
  { c with phase := nextPhase c, post := c.post + 1, clips := groupNotes (c.p + c.post) codes c }

/-- R105: the state at the completion, its last group stored. -/
def lastWritten (raw : Vector Byte 4) (ext : Bool) (c : Capture) (r : SegRec) (s : State) : State :=
  { compared raw ext s with
    mem := { s.mem with dram := storedDram c r (c.p + c.post) (correctedCodes raw s) channels s.mem.dram }
    acq := { s.acq with ctx := some (lastContext (correctedCodes raw s) c) } }

/-- R105, R106: the state at which R107 decides, after the last post-trigger write. -/
def lastCompleted (raw : Vector Byte 4) (ext : Bool) (c : Capture) (r : SegRec) (s : State) : State :=
  completed (lastContext (correctedCodes raw s) c) (lastWritten raw ext c r s)

/-- R105: the last post-trigger write completes the segment. -/
theorem lastWrite_completes {raw : Vector Byte 4} {ext : Bool} {c : Capture} {r : SegRec} {s : State}
    (hst : s.acq.state = .postFill) (hctx : s.acq.ctx = some c) (hr : findSeg c.seq s = some r) (hphase : c.phase = 0)
    (hlast : c.p + c.post + 1 = c.n) :
    acqInstant (correctedCodes raw s) (compared raw ext s) = endOrRearm (lastCompleted raw ext c r s) := by
  rw [acqInstant_start (s := compared raw ext s) hctx hphase (by rw [show (compared raw ext s).acq = s.acq from rfl, hst]; rfl),
    groupStored_postFill (s := compared raw ext s) hst hr, readyIfFilled_of_not_preFill (by simp [compared, hst])]
  exact completeIfFull_of_full (s := lastWritten raw ext c r s) (c := lastContext (correctedCodes raw s) c) hst rfl
    (show c.n ≤ c.p + (c.post + 1) by omega)

/-- R46, R106: what R107 finds after the last post-trigger write. -/
theorem lastCompleted_spec (raw : Vector Byte 4) (ext : Bool) {c : Capture} {r : SegRec} {s : State}
    (hr : findSeg c.seq s = some r) (hnone : s.mem.pendingAlloc = none) :
    Completed c.seq (completedRecord (lastContext (correctedCodes raw s) c) (s.acq.runStart.getD 0) r) s
      (lastCompleted raw ext c r s) := by
  have spec := completed_spec (c := lastContext (correctedCodes raw s) c) (s := lastWritten raw ext c r s) hr hnone
  obtain ⟨-, held, change, -⟩ := compared_trg_stands raw ext s
  have settle : (lastWritten raw ext c r s).fec.settle = s.fec.settle := by
    show (sumCodes raw s).fec.settle = _
    rw [sumCodes_only]
  have heldThen := spec.held
  rw [show (lastWritten raw ext c r s).trg = (compared raw ext s).trg from rfl, held, change] at heldThen
  exact {
    setup := spec.setup, acq := spec.acq, held := heldThen, changeHeld := spec.changeHeld
    settles := fun h => spec.settles (by rw [settle]; exact h)
    settle := fun h => (spec.settle (change.trans h)).trans settle
    pool := spec.pool, table := spec.table, record := spec.record }

/-- R104, R106: the completed record of a segment, but for its clip marks and pins. -/
def CompletedFrom (c : Capture) (r : SegRec) (start : Instant) (done : SegRec) : Prop :=
  done.state = .complete ∧ done.pages = r.pages ∧ done.n = r.n ∧ done.forced = c.forced ∧
  done.triggerTime = c.trigger.getD 0 - start ∧ done.origin = if c.p = 0 then 0 else c.ring % c.p

theorem completedFrom_of_last (codes : Vector Byte 4) (c : Capture) (r : SegRec) (start : Instant) (pins : SegPins) :
    CompletedFrom c r start { completedRecord (lastContext codes c) start r with pins := pins } :=
  ⟨rfl, rfl, rfl, rfl, rfl, rfl⟩

/-- SAMPLE_CODE in POST_FILL takes no trigger. -/
theorem exec_sampleCode_postFill {c1 c2 c3 c4 : Byte} {ext : Bool} {s u : State} (hup : s.lnk.startUp = false)
    (hst : s.acq.state = .postFill)
    (h : acqInstants (correctedCodes #v[c1, c2, c3, c4] s) (compared #v[c1, c2, c3, c4] ext s) = u) :
    exec (.sampleCode c1 c2 c3 c4 ext) s = .next (nextInstant u) :=
  exec_sampleCode_next hup ((sampleInstant_of_no_event (by simp [hst])).trans h)

/-- R91, R107: the ACQ_STATE report of the entry to STOPPED. -/
theorem enterStopped_outbound {cause : AcqCause} {s : State} (h : 1 ≤ freeCount s) : (enterStopped cause s).lnk.outbound =
    s.lnk.outbound ++ [.report (.acqState .stopped s.acq.state cause s.acq.runCount s.acq.lastSeq)] :=
  offer_outbound_of_room (alwaysNew_acqState _ _ _ _ _)
    (s := { s with acq := { s.acq with state := .stopped, singlePending := false, forcePending := false } }) h

/-- R107, R108: the last post-trigger write of a run that is over: the run ends in STOPPED, and SEGMENT is offered before ACQ_STATE. -/
theorem lastWrite_ends {raw : Vector Byte 4} {ext : Bool} {c : Capture} {r : SegRec} {s : State}
    (hst : s.acq.state = .postFill) (hctx : s.acq.ctx = some c) (hr : findSeg c.seq s = some r) (hphase : c.phase = 0)
    (hlast : c.p + c.post + 1 = c.n) (hnone : s.mem.pendingAlloc = none) (hover : runIsOver (lastCompleted raw ext c r s)) :
    acqInstants (correctedCodes raw s) (compared raw ext s) =
      enterStopped (if s.acq.singlePending then .singleDone else .stopAfter) (lastCompleted raw ext c r s) := by
  have acq := (lastCompleted_spec raw ext hr hnone).acq
  have ended := (lastWrite_completes (raw := raw) (ext := ext) hst hctx hr hphase hlast).trans (endOrRearm_of_over hover)
  rw [acq] at ended
  rw [acqInstants_of_left_idle (by rw [ended, enterStopped_acq, acq]), ended]

/-- R106 step 5, R107, R108: the two reports of it. -/
theorem lastWrite_reports {raw : Vector Byte 4} {ext : Bool} {c : Capture} {r : SegRec} {s : State} {cause : AcqCause}
    (hst : s.acq.state = .postFill) (hr : findSeg c.seq s = some r) (hnone : s.mem.pendingAlloc = none) (hfree : 2 ≤ freeCount s)
    (hnew : ∀ q f m k, Record.report (.segment q f m k) ∉ s.lnk.outbound) :
    ∃ done, findSeg c.seq (lastCompleted raw ext c r s) = some done ∧
      (enterStopped cause (lastCompleted raw ext c r s)).lnk.outbound = s.lnk.outbound ++
        (if s.setup.get 86 = 1 then [.report (.segment c.seq c.forced done.clipped (min (s.acq.runCount + 1) 4294967295))] else []) ++
        [.report (.acqState .stopped .postFill cause (min (s.acq.runCount + 1) 4294967295) c.seq)] := by
  have spec := lastCompleted_spec raw ext hr hnone
  obtain ⟨pins, found⟩ := spec.record
  obtain ⟨free, out⟩ := completed_outbound (lastContext (correctedCodes raw s) c) (s := lastWritten raw ext c r s) hnone hfree hnew
  refine ⟨_, found, ?_⟩
  rw [enterStopped_outbound (s := lastCompleted raw ext c r s) free, spec.acq, hst]
  exact congrArg (· ++ _) out

/-- R107: whether the run is over after the last post-trigger write, in the setup and the run count. -/
theorem runIsOver_lastCompleted {raw : Vector Byte 4} {ext : Bool} {c : Capture} {r : SegRec} {s : State}
    (hr : findSeg c.seq s = some r) (hnone : s.mem.pendingAlloc = none) :
    runIsOver (lastCompleted raw ext c r s) ↔ s.acq.singlePending = true ∨ (0 < s.setup.get 84 ∧
      s.setup.get 84 ≤ (min (s.acq.runCount + 1) 4294967295 : Nat)) := by
  have spec := lastCompleted_spec raw ext hr hnone
  unfold runIsOver
  rw [spec.acq, spec.setup]

/-- R107: what the last post-trigger write leaves of a run that is over. -/
theorem lastWrite_over {raw : Vector Byte 4} {ext : Bool} {c : Capture} {r : SegRec} {s t : State}
    (hst : s.acq.state = .postFill) (hr : findSeg c.seq s = some r) (hnone : s.mem.pendingAlloc = none)
    (ht : t = enterStopped (if s.acq.singlePending then .singleDone else .stopAfter) (lastCompleted raw ext c r s)) :
    t.acq = { s.acq with
      state := .stopped, singlePending := false, forcePending := false, ctx := none
      runCount := min (s.acq.runCount + 1) 4294967295, lastSeq := c.seq } ∧
    t.trg = (lastCompleted raw ext c r s).trg ∧ t.mem = (lastCompleted raw ext c r s).mem ∧
    (2 ≤ freeCount s → (∀ q f m k, Record.report (.segment q f m k) ∉ s.lnk.outbound) →
      ∃ done, findSeg c.seq t = some done ∧ t.lnk.outbound = s.lnk.outbound ++
        (if s.setup.get 86 = 1 then [.report (.segment c.seq c.forced done.clipped t.acq.runCount)] else []) ++
        [.report (.acqState .stopped .postFill (if s.acq.singlePending then .singleDone else .stopAfter) t.acq.runCount c.seq)]) := by
  have acq : t.acq = { s.acq with
      state := .stopped, singlePending := false, forcePending := false, ctx := none
      runCount := min (s.acq.runCount + 1) 4294967295, lastSeq := c.seq } := by
    rw [ht, enterStopped_acq, (lastCompleted_spec raw ext hr hnone).acq]
  have mem : t.mem = (lastCompleted raw ext c r s).mem := by rw [ht, enterStopped_mem]
  refine ⟨acq, by rw [ht, enterStopped_trg], mem, fun hfree hnew => ?_⟩
  obtain ⟨done, found, out⟩ := lastWrite_reports (raw := raw) (ext := ext)
    (cause := if s.acq.singlePending then .singleDone else .stopAfter) hst hr hnone hfree hnew
  refine ⟨done, (findSeg_congr mem c.seq).trans found, ?_⟩
  rw [acq, ht]
  exact out

/-- R46: an arming after the completion leaves the settings that TRG has taken. -/
theorem held_of_rederives {s t : State} (h : Rederives s t) (hc : s.trg.changeHeld = false) :
    t.trg.held = s.trg.held ∧ t.trg.changeHeld = false := by
  rcases h.held with ⟨held, change⟩ | ⟨change, _, _⟩
  · exact ⟨held, change.trans hc⟩
  · rw [hc] at change; cases change

/-- R98, R99, R107: the last post-trigger write of a run that goes on: the run stands, and ACQ settles or, with room, opens a segment
under another seq. -/
theorem lastWrite_rearms {raw : Vector Byte 4} {ext : Bool} {c : Capture} {r : SegRec} {s u : State}
    (hst : s.acq.state = .postFill) (hctx : s.acq.ctx = some c) (hr : findSeg c.seq s = some r) (hphase : c.phase = 0)
    (hlast : c.p + c.post + 1 = c.n) (hnone : s.mem.pendingAlloc = none) (hover : ¬ runIsOver (lastCompleted raw ext c r s))
    (hu : u = acqInstants (correctedCodes raw s) (compared raw ext s)) :
    (u.acq.runCount = min (s.acq.runCount + 1) 4294967295 ∧ u.acq.lastSeq = c.seq ∧ u.acq.runStart = s.acq.runStart ∧
      u.trg.held = (if s.trg.changeHeld then settingsOf s.setup else s.trg.held) ∧ u.trg.changeHeld = false) ∧
    ((lastCompleted raw ext c r s).fec.settle.isSome = true →
      u.acq.state = .settling ∧ u.acq.ctx = none ∧ u.mem = (lastCompleted raw ext c r s).mem) ∧
    ((lastCompleted raw ext c r s).fec.settle = none → s.setup.pagesNeeded ≤ s.mem.pool.length → s.mem.table.length < 1024 →
      segmentOpen u.acq.state = true ∧ (∃ c', u.acq.ctx = some c' ∧ c'.seq ≠ c.seq) ∧
      ∀ x, findSeg c.seq (lastCompleted raw ext c r s) = some x → findSeg c.seq u = some x) := by
  subst hu
  have spec := lastCompleted_spec raw ext hr hnone
  have idle : (lastCompleted raw ext c r s).acq.ctx = none := by rw [spec.acq]
  have instant := (lastWrite_completes (raw := raw) (ext := ext) hst hctx hr hphase hlast).trans (endOrRearm_of_not_over hover)
  obtain ⟨keeps, runStart⟩ := rearmed_rederives (s := compared raw ext s) hctx instant idle
  obtain ⟨held, change⟩ := held_of_rederives keeps spec.changeHeld
  refine ⟨⟨?_, ?_, ?_, held.trans spec.held, change⟩, fun hset => ?_, fun hset hpool htable => ?_⟩
  · rw [keeps.runCount, spec.acq]
  · rw [keeps.lastSeq, spec.acq]
  · rw [runStart, spec.acq]
  · rw [rearmed_of_settling instant idle hset]
    exact ⟨rfl, idle, rfl⟩
  · obtain ⟨pins, found⟩ := spec.record
    obtain ⟨inFlight, next, stays⟩ := rearmed_of_room (s := compared raw ext s) hctx instant hset found
      (by rw [spec.setup]; exact hpool.trans spec.pool) (lt_of_le_of_lt spec.table htable)
    exact ⟨inFlight, next, fun x hx => by rw [stays, ← found, hx]⟩

/-- Settles O31: the completion at the last group start, and the two ways R107 goes on from it. -/
theorem lastPostWriteCompletesTheSegment : Obligations.LastPostWriteCompletesTheSegment := by
  intro c1 c2 c3 c4 ext c r start s hup hst hctx hr hphase hlast hstart hnone stopAfter goesOn
  refine ⟨_, exec_sampleCode_postFill hup hst rfl, ?_⟩
  generalize (#v[c1, c2, c3, c4] : Vector Byte 4) = raw
  have spec := lastCompleted_spec raw ext hr hnone
  have overIff := runIsOver_lastCompleted (raw := raw) (ext := ext) hr hnone
  obtain ⟨pins, found⟩ := spec.record
  rw [hstart] at found
  have done := completedFrom_of_last (correctedCodes raw s) c r start pins
  generalize hu : acqInstants (correctedCodes raw s) (compared raw ext s) = u
  by_cases hover : runIsOver (lastCompleted raw ext c r s)
  · have goesNot : ¬ goesOn := fun h => (overIff.1 hover).elim (by simp [h.1]) h.2
    obtain ⟨acq, trg, mem, reports⟩ :=
      lastWrite_over hst hr hnone (hu.symm.trans (lastWrite_ends hst hctx hr hphase hlast hnone hover))
    refine ⟨congrArg Acq.runCount acq, congrArg Acq.lastSeq acq, (congrArg Acq.runStart acq).trans hstart,
      (congrArg Trg.held trg).trans spec.held, (congrArg Trg.changeHeld trg).trans spec.changeHeld, fun _ => ?_,
      fun h => absurd h goesNot, fun h => absurd h goesNot, fun _ => ⟨_, (findSeg_congr mem c.seq).trans found, done⟩⟩
    exact ⟨congrArg Acq.state acq, congrArg Acq.singlePending acq, congrArg Acq.ctx acq, reports⟩
  · have notOver : ¬ (s.acq.singlePending = true ∨ stopAfter) := fun h => hover (overIff.2 (h.imp_right And.right))
    obtain ⟨⟨runCount, lastSeq, runStart, held, change⟩, settling, opens⟩ :=
      lastWrite_rearms hst hctx hr hphase hlast hnone hover hu.symm
    refine ⟨runCount, lastSeq, runStart.trans hstart, held, change, fun h => absurd h notOver, fun _ hset _ => ?_,
      fun _ hset hchange hpool htable => ?_, fun h => ⟨_, ?_, done⟩⟩
    · obtain ⟨state, ctx, _⟩ := settling (spec.settles hset)
      exact ⟨state, ctx⟩
    · obtain ⟨inFlight, next, _⟩ := opens ((spec.settle hchange).trans hset) hpool htable
      exact ⟨inFlight, next⟩
    · cases hset : (lastCompleted raw ext c r s).fec.settle with
      | some d =>
        obtain ⟨_, _, mem⟩ := settling (by rw [hset]; rfl)
        exact (findSeg_congr mem c.seq).trans found
      | none =>
        have unsettled : ¬ s.fec.settle.isSome = true := fun hs => by simpa [hset] using spec.settles hs
        have room := ((h.resolve_left fun hs => notOver (.inl hs)).resolve_left fun hs => notOver (.inr hs)).resolve_left unsettled
        obtain ⟨_, _, stays⟩ := opens hset room.1 room.2
        exact stays _ found

end Sys2Proof.Machine
end

section
/-! PROOF. What the laws of the stores, of the pages and of the history read of the state, and the many functions that leave all of it
alone: one relation, and one lemma for each function. -/

namespace Sys2Proof.Machine

/-! ### The relation -/

/-- What the laws of the pages and of the history read: the start-up flag, MEM but for its contents and the seq counter, whether ACQ is
in a segment, STARVED or CALIBRATING, the segment in flight, RND's queue, pass and VIEW pin, the TRANSFER pin, and whether FEC
calibrates. -/
def lawParts (s : State) : Bool × (List Nat × List Nat × List SegRec × Option CaptureRequest × Vector RefSlot 4) ×
    (Bool × Bool × Bool × Option Nat) × (List Nat × Option Pass × Option Nat) × Option XferSource × Bool :=
  (s.lnk.startUp, (s.mem.bad, s.mem.pool, s.mem.table, s.mem.pendingAlloc, s.mem.refs),
   (segmentOpen s.acq.state, decide (s.acq.state = .starved), decide (s.acq.state = .calibrating), flightSeq s),
   (s.rnd.queue, s.rnd.pass, s.rnd.viewPin), transferSource s, s.fec.calStep.isSome)

/-- The stores whose canonical form is a law, and the frame being scanned out. -/
def storeParts (s : State) : Store × (Vector Store 8 × Vector Store 8) × (Store × Store × Store) × Option Frame :=
  (s.mem.dram, (s.rnd.work, s.rnd.shown), (s.cmp.draw, s.cmp.shown, s.cmp.glyphs), s.cmp.frame)

/-- All of it, with the transfer engine. -/
def seenParts (s : State) := (lawParts s, storeParts s, s.xfr)

/-- A change that the laws do not see, but for what it keeps of the stores' form and of the transfer engine's law. -/
structure Quiet (s t : State) : Prop where
  parts : lawParts t = lawParts s
  stores : StoresCanonical s → StoresCanonical t
  transfer : TransferLaw s → TransferLaw t

/-- The canonical form is read off the stores alone. -/
theorem StoresCanonical.congr {s t : State} (h : storeParts t = storeParts s) (hs : StoresCanonical s) : StoresCanonical t := by
  simp only [storeParts, Prod.mk.injEq] at h
  obtain ⟨hdram, ⟨hwork, hshown⟩, ⟨hdraw, hover, hglyphs⟩, hframe⟩ := h
  unfold StoresCanonical at *
  rwa [hdram, hwork, hshown, hdraw, hover, hglyphs, hframe]

namespace Quiet

theorem of_seen {s t : State} (h : seenParts t = seenParts s) : Quiet s t := by
  simp only [seenParts, Prod.mk.injEq] at h
  obtain ⟨hlaw, hstore, hxfr⟩ := h
  exact ⟨hlaw, .congr hstore, fun hs => by unfold TransferLaw at *; rwa [hxfr]⟩

theorem refl (s : State) : Quiet s s := of_seen rfl

theorem trans {s t u : State} (h : Quiet s t) (k : Quiet t u) : Quiet s u :=
  ⟨k.parts.trans h.parts, k.stores ∘ h.stores, k.transfer ∘ h.transfer⟩

/-- A change of what is not seen may go before. -/
theorem after {s t u : State} (k : Quiet t u) (h : seenParts t = seenParts s) : Quiet s u := (of_seen h).trans k

/-- A change of what is not seen may follow. -/
theorem before {s t u : State} (k : Quiet s t) (h : seenParts u = seenParts t) : Quiet s u := k.trans (of_seen h)

theorem foldl {α : Type} {f : State → α → State} (hf : ∀ s x, Quiet s (f s x)) (xs : List α) (s : State) :
    Quiet s (xs.foldl f s) := by
  induction xs generalizing s with
  | nil => exact refl s
  | cons x rest ih => exact (hf s x).trans (ih (f s x))

theorem startUp {s t : State} (h : Quiet s t) : t.lnk.startUp = s.lnk.startUp := congrArg (·.1) h.parts

end Quiet

/-! ### Reports, conditions, requests -/

theorem offer_seen (r : Report) (s : State) : seenParts (offer r s) = seenParts s := by rw [offer_only]; rfl

theorem offer_quiet (r : Report) (s : State) : Quiet s (offer r s) := .of_seen (offer_seen r s)

theorem offerAll_quiet (rs : List Report) (s : State) : Quiet s (offerAll rs s) := .foldl (fun t r => offer_quiet r t) rs s

theorem latchCondition_seen (c : Condition) (d : CauseDetail) (s : State) : seenParts (latchCondition c d s) = seenParts s := by
  unfold latchCondition
  split
  · rfl
  · dsimp only
    split
    · rfl
    · exact offer_seen _ (setLatched c d s)

theorem latchCondition_quiet (c : Condition) (d : CauseDetail) (s : State) : Quiet s (latchCondition c d s) :=
  .of_seen (latchCondition_seen c d s)

theorem reply_quiet (q g : Byte) (st : Status) (b : ReplyBody) (s : State) : Quiet s (reply q g st b s) := .of_seen rfl

theorem handed_quiet (s : State) : Quiet s (handed s) := .of_seen rfl

theorem statusOf_quiet (tag : Byte) (p : List Byte) (s : State) : Quiet s (statusOf tag p s) := by
  unfold statusOf; split <;> exact .of_seen rfl

theorem ackConditionsOf_quiet (tag : Byte) (p : List Byte) (s : State) : Quiet s (ackConditionsOf tag p s) := by
  unfold ackConditionsOf
  split
  · exact reply_quiet ..
  · split
    · exact reply_quiet ..
    · refine (Quiet.foldl (f := fun s c => ackCondition c s) (fun t c => ?_) _ s).trans (reply_quiet ..)
      unfold ackCondition
      split <;> exact .of_seen rfl

theorem routeSetOf_quiet (tag : Byte) (p : List Byte) (s : State) : Quiet s (routeSetOf tag p s) := by
  unfold routeSetOf; split <;> exact .of_seen rfl

theorem getFieldsOf_quiet (tag : Byte) (p : List Byte) (s : State) : Quiet s (getFieldsOf tag p s) := by
  unfold getFieldsOf
  split
  · exact reply_quiet ..
  · split <;> exact reply_quiet ..

theorem counterReadOf_quiet (tag : Byte) (p : List Byte) (s : State) : Quiet s (counterReadOf tag p s) := by
  unfold counterReadOf; split <;> exact .of_seen rfl

theorem segmentListOf_quiet (tag : Byte) (p : List Byte) (s : State) : Quiet s (segmentListOf tag p s) := by
  unfold segmentListOf
  split
  · exact reply_quiet ..
  · split <;> exact reply_quiet ..

theorem pageQueryOf_quiet (tag : Byte) (p : List Byte) (s : State) : Quiet s (pageQueryOf tag p s) := by
  unfold pageQueryOf; split <;> exact reply_quiet ..

theorem peekOf_quiet (tag : Byte) (p : List Byte) (s : State) : Quiet s (peekOf tag p s) := by
  unfold peekOf; split <;> exact reply_quiet ..

theorem cursorReadOf_quiet (tag : Byte) (p : List Byte) (s : State) : Quiet s (cursorReadOf tag p s) := by
  unfold cursorReadOf; split <;> exact reply_quiet ..

theorem keyBindOf_quiet (tag : Byte) (p : List Byte) (s : State) : Quiet s (keyBindOf tag p s) := by
  unfold keyBindOf; split <;> exact .of_seen rfl

theorem encBindOf_quiet (tag : Byte) (p : List Byte) (s : State) : Quiet s (encBindOf tag p s) := by
  unfold encBindOf
  split
  · exact reply_quiet ..
  · split
    · split <;> exact .of_seen rfl
    · exact reply_quiet ..

theorem ledSetOf_quiet (tag : Byte) (p : List Byte) (s : State) : Quiet s (ledSetOf tag p s) := by
  unfold ledSetOf; split <;> exact .of_seen rfl

theorem panelLockOf_quiet (tag : Byte) (p : List Byte) (s : State) : Quiet s (panelLockOf tag p s) := by
  unfold panelLockOf; split <;> exact .of_seen rfl

theorem panelBlankOf_quiet (tag : Byte) (p : List Byte) (s : State) : Quiet s (panelBlankOf tag p s) := by
  unfold panelBlankOf; split <;> exact .of_seen rfl

theorem beepOf_quiet (tag : Byte) (p : List Byte) (s : State) : Quiet s (beepOf tag p s) := by
  unfold beepOf; split <;> exact .of_seen rfl

/-! ### The link -/

theorem sendEnds_quiet (bs : List Byte) (s : State) : Quiet s (sendEnds bs s) := by
  have joined : ∀ f t, Quiet t (joinInbound f t) := by
    intro f t
    unfold joinInbound
    split
    · dsimp only
      split
      · exact (latchCondition_quiet _ _ _).after rfl
      · exact .of_seen rfl
    · exact latchCondition_quiet _ _ t
  unfold sendEnds
  dsimp only
  split
  · exact (latchCondition_quiet _ _ _).after rfl
  · exact (joined _ _).after rfl

theorem fetchClock_seen (n : Nat) (s : State) : seenParts (fetchClock n s) = seenParts s := by unfold fetchClock; split <;> rfl

theorem fetchEvent_quiet (e : FetchEvent) (s : State) : Quiet s (fetchEvent e s) := by
  cases e with
  | transaction n => exact .of_seen (fetchClock_seen n (fetchSelect s))
  | select => exact .of_seen rfl
  | clock n => exact .of_seen (fetchClock_seen n s)
  | csRise => exact .of_seen rfl

/-! ### FEC and TRG -/

theorem extendSettle_seen (dur : Nat) (s : State) : seenParts (extendSettle dur s) = seenParts s := by
  unfold extendSettle; split <;> rfl

theorem applyDrives_seen (new : Vector Drive 4) (s : State) : seenParts (applyDrives new s) = seenParts s :=
  extendSettle_seen _ _

theorem deriveDrives_seen (s : State) : seenParts (deriveDrives s) = seenParts s := by
  unfold deriveDrives
  split
  · rfl
  · exact applyDrives_seen _ s

theorem takeSettings_seen (s : State) : seenParts (takeSettings s) = seenParts s := by
  rw [takeSettings_eq]
  split
  · exact deriveDrives_seen _
  · rfl

theorem leavePhase_seen (s : State) : seenParts (leavePhase s) = seenParts s := by
  unfold leavePhase
  split
  · exact takeSettings_seen _
  · rfl

theorem triggerChange_quiet (s : State) : Quiet s (triggerChange s) := by
  unfold triggerChange
  split
  · exact .of_seen rfl
  · exact .of_seen rfl
  · exact .of_seen (takeSettings_seen s)

theorem holdoffEnds_quiet (s : State) : Quiet s (holdoffEnds s) := by unfold holdoffEnds; split <;> exact .of_seen rfl
theorem triggerPulseEnds_quiet (s : State) : Quiet s (triggerPulseEnds s) := by
  unfold triggerPulseEnds; split <;> exact .of_seen rfl
theorem indicationEnds_quiet (s : State) : Quiet s (indicationEnds s) := by unfold indicationEnds; split <;> exact .of_seen rfl
theorem beeperEnds_quiet (s : State) : Quiet s (beeperEnds s) := by unfold beeperEnds; split <;> exact .of_seen rfl

theorem gateEnds_quiet (s : State) : Quiet s (gateEnds s) := by
  cases h : unreadResult s with
  | true =>
    rw [gateEnds_of_unread h]
    exact .of_seen (latchCondition_seen .counterOverrun (.gate s.trg.held.gate1000) (overrunFlagged s))
  | false => rw [gateEnds_of_read h]; exact .of_seen rfl

theorem clearWrittenLatches_quiet (written : List Nat) (s : State) : Quiet s (clearWrittenLatches written s) := by
  refine Quiet.foldl (fun t n => ?_) channels s
  split <;> exact .of_seen rfl

theorem tripProtect_quiet (ch : Channel) (s : State) : Quiet s (tripProtect ch s) :=
  ((latchCondition_quiet _ _ _).after (extendSettle_seen _ _)).after rfl

theorem soundedTrip_quiet (ch : Channel) (s : State) : Quiet s (soundedTrip ch s) := by
  rw [soundedTrip_only]
  exact (tripProtect_quiet ch s).before rfl

/-- R35: a calibration step begins while another was in progress. -/
theorem setCalScale_seen {k : Fin 52} {s : State} (h : s.fec.calStep.isSome = true) : seenParts (setCalScale k s) = seenParts s := by
  refine (applyDrives_seen _ _).trans ?_
  simp only [seenParts, lawParts, h]
  rfl

theorem comparatorStep_quiet (code : Nat) (ext : Bool) (s : State) : Quiet s (comparatorStep code ext s).1 := by
  rw [comparatorStep_only]; exact .of_seen rfl

theorem sumCodes_quiet (raw : Vector Byte 4) (s : State) : Quiet s (sumCodes raw s) := by
  rw [sumCodes_only]; exact .of_seen rfl

/-! ### The setup store -/

theorem startJob_quiet (j : StoreJob) (s : State) : Quiet s (startJob j s) := .of_seen rfl

theorem startSave_quiet (n : Fin 11) (label : List Byte) (s : State) : Quiet s (startSave n label s) :=
  (startJob_quiet (.save n ⟨1, label, nextSaveCount n s, setupImage s.setup⟩) s).before (u := startSave n label s) rfl

theorem startPendingAutosave_quiet (s : State) : Quiet s (startPendingAutosave s) := by
  unfold startPendingAutosave
  split
  · exact (startSave_quiet _ _ _).after rfl
  · exact .refl s

theorem engineIdle_quiet (s : State) : Quiet s (engineIdle s) := by
  unfold engineIdle
  split
  · exact .refl s
  · exact startPendingAutosave_quiet s

theorem endWell_quiet (j : StoreJob) (o : StoreOutcome) (gen : Option Word32) (s : State) : Quiet s (endWell j o gen s) :=
  (offer_quiet _ _).after rfl

theorem failJob_quiet (j : StoreJob) (cause : StoreCause) (s : State) : Quiet s (failJob j cause s) := by
  have spoiled : seenParts (spoilArea j s) = seenParts s := by cases j <;> rfl
  have marked : ∀ t : State, seenParts (markFailed j t) = seenParts t := by intro t; unfold markFailed; split <;> rfl
  have faulted : seenParts { markFailed j (spoilArea j s) with sto := { (markFailed j (spoilArea j s)).sto with fault := true } } =
      seenParts s := (marked (spoilArea j s)).trans spoiled
  exact .of_seen ((offer_seen _ _).trans ((latchCondition_seen _ _ _).trans faulted))

theorem eraseEnds_quiet (s : State) : Quiet s (eraseEnds s) := by
  unfold eraseEnds
  split
  · exact .refl s
  · split
    · dsimp only
      split <;> split <;> exact .of_seen rfl
    · exact .refl s

theorem programEnds_quiet (s : State) : Quiet s (programEnds s) := by
  unfold programEnds
  split
  · exact .refl s
  · split <;> exact .of_seen rfl

theorem verifyEnds_quiet (agrees : Bool) (s : State) : Quiet s (verifyEnds agrees s) := by
  have checked : ∀ j : StoreJob, Quiet s (verified j s) := by intro j; cases j <;> exact .of_seen rfl
  unfold verifyEnds
  split
  · exact .refl s
  · split
    · refine Quiet.trans ?_ (engineIdle_quiet _)
      split
      · exact (checked _).trans (endWell_quiet _ _ _ _)
      · exact failJob_quiet _ _ s
    · exact .refl s

theorem stepTimesOut_quiet (s : State) : Quiet s (stepTimesOut s) := by
  unfold stepTimesOut
  split
  · exact .refl s
  · rename_i e _
    have reached : Quiet s (reach (e.since + stepLimit e.step) s) := .of_seen rfl
    exact (reached.trans (failJob_quiet _ _ _)).trans (engineIdle_quiet _)

theorem autosaveExpires_quiet (s : State) : Quiet s (autosaveExpires s) := by
  unfold autosaveExpires
  split
  · exact .refl s
  · dsimp only
    split
    · exact .of_seen rfl
    · exact (startSave_quiet _ _ _).after rfl

/-- R183: a store request whose start the laws do not see. -/
theorem storeRequest_quiet {start : State → State} (h : ∀ t, Quiet t (start t)) (code tag : Byte) (refusal : Option Status)
    (s : State) : Quiet s (storeRequest code tag refusal start s) := by
  unfold storeRequest
  split
  · exact reply_quiet ..
  · split
    · exact reply_quiet ..
    · exact (h _).after rfl

theorem storeSaveOf_quiet (tag : Byte) (p : List Byte) (s : State) : Quiet s (storeSaveOf tag p s) := by
  unfold storeSaveOf
  split
  · exact reply_quiet ..
  · split
    · exact reply_quiet ..
    · split
      · exact storeRequest_quiet (startSave_quiet _ _) _ _ _ s
      · exact reply_quiet ..

theorem storeRecallOf_quiet (tag : Byte) (p : List Byte) (s : State) : Quiet s (storeRecallOf tag p s) := by
  unfold storeRecallOf
  split
  · exact reply_quiet ..
  · exact storeRequest_quiet (startJob_quiet _) _ _ _ s

theorem storeEraseOf_quiet (tag : Byte) (p : List Byte) (s : State) : Quiet s (storeEraseOf tag p s) := by
  unfold storeEraseOf
  split
  · exact reply_quiet ..
  · exact storeRequest_quiet (startJob_quiet _) _ _ _ s

theorem storeProtectOf_quiet (tag : Byte) (p : List Byte) (s : State) : Quiet s (storeProtectOf tag p s) := by
  unfold storeProtectOf
  split
  · exact reply_quiet ..
  · split
    · exact reply_quiet ..
    · exact storeRequest_quiet (startJob_quiet _) _ _ _ s

theorem storePowerOnOf_quiet (tag : Byte) (p : List Byte) (s : State) : Quiet s (storePowerOnOf tag p s) := by
  unfold storePowerOnOf
  split
  · exact reply_quiet ..
  · exact storeRequest_quiet (startJob_quiet _) _ _ _ s

theorem calSaveOf_quiet (tag : Byte) (p : List Byte) (s : State) : Quiet s (calSaveOf tag p s) := by
  unfold calSaveOf
  split
  · exact reply_quiet ..
  · exact storeRequest_quiet (startJob_quiet _) _ _ _ s

theorem storeListOf_quiet (tag : Byte) (p : List Byte) (s : State) : Quiet s (storeListOf tag p s) := by
  unfold storeListOf; split <;> exact reply_quiet ..

/-- R190: a waiting autosave that starts behind a store request is not seen. -/
theorem storeOwner_quiet {owner : State → State} (h : ∀ t, Quiet t (owner t)) (s : State) : Quiet s (storeOwner owner s) :=
  (h s).trans (startPendingAutosave_quiet _)

/-! ### The panel's own part -/

theorem offerOldest_quiet (s : State) : Quiet s (offerOldest s) := by
  have offered : ∀ i, Quiet s (offerItem i s) := by
    intro i
    cases i with
    | key k => exact (offer_quiet _ _).after rfl
    | encoder e => exact (offer_quiet _ _).after rfl
  unfold offerOldest
  split
  · split
    · exact .refl s
    · exact offered _
  · exact .refl s

theorem drainPanel_quiet (s : State) : Quiet s (drainPanel s) := by
  have waiting : ∀ fuel t, Quiet t (offerWaiting fuel t) := by
    intro fuel
    induction fuel with
    | zero => exact .refl
    | succ f ih => exact fun t => (offerOldest_quiet t).trans (ih _)
  exact waiting _ s

theorem pushEvent_quiet (key : Nat) (kind : KeyKind) (d : Disposition) (s : State) : Quiet s (pushEvent key kind d s) := by
  unfold pushEvent
  split
  · exact (drainPanel_quiet _).after rfl
  · exact latchCondition_quiet _ _ s

theorem keyClick_quiet (s : State) : Quiet s (keyClick s) := by
  unfold keyClick
  split
  · split
    · exact .of_seen rfl
    · split <;> exact .of_seen rfl
  · exact .refl s

theorem laterEvent_quiet (k : Fin 64) (kind : KeyKind) (s : State) : Quiet s (laterEvent k kind s) := by
  unfold laterEvent
  split
  · exact .refl s
  · exact pushEvent_quiet _ _ _ s

theorem makeHold_quiet (k : Fin 64) (s : State) : Quiet s (makeHold k s) := by
  unfold makeHold
  split
  · exact (laterEvent_quiet k .hold _).after rfl
  · exact .of_seen rfl

theorem keyReleased_quiet (k : Fin 64) (s : State) : Quiet s (keyReleased k s) := (laterEvent_quiet k .release _).after rfl

theorem forwardDetent_quiet (e : Fin 12) (v : Int) (s : State) : Quiet s (forwardDetent e v s) := by
  unfold forwardDetent
  dsimp only
  split
  · rw [noteUpdate_only]; exact .of_seen rfl
  · exact (drainPanel_quiet _).after rfl

theorem holdReached_quiet (k : Fin 64) (s : State) : Quiet s (holdReached k s) := by
  unfold holdReached
  split
  · exact .refl s
  · split
    · exact .of_seen rfl
    · exact (Quiet.foldl (fun t m => makeHold_quiet m t) _ _).after rfl

end Sys2Proof.Machine
end

section
/-! PROOF. The changes of stores that the other laws do not see: overlay requests, frames, decay and the codes of a group. -/

namespace Sys2Proof.Machine

/-! ### The compositor -/

/-- The part of the law that speaks of CMP. -/
def CmpCanonical (c : Cmp) : Prop :=
  Store.wf c.draw = true ∧ Store.wf c.shown = true ∧ Store.wf c.glyphs = true ∧
  (∀ f, c.frame = some f → Store.wf f.overlay = true ∧ ∀ t : Trace, Store.wf f.planes[t] = true)

/-- The part of the law that speaks of RND. -/
def PlanesCanonical (r : Rnd) : Prop := ∀ t : Trace, Store.wf r.work[t] = true ∧ Store.wf r.shown[t] = true

theorem storesCanonical_iff (s : State) :
    StoresCanonical s ↔ Store.wf s.mem.dram = true ∧ PlanesCanonical s.rnd ∧ CmpCanonical s.cmp := Iff.rfl

/-- A change of CMP alone that keeps its stores canonical. -/
theorem Quiet.of_cmp {s : State} {c : Cmp} (h : CmpCanonical s.cmp → CmpCanonical c) : Quiet s { s with cmp := c } where
  parts := rfl
  stores := fun ⟨dram, planes, cmp⟩ => ⟨dram, planes, h cmp⟩
  transfer := id

/-- A change of the contents of sample memory alone. -/
theorem Quiet.of_dram {s : State} {d : Store} (h : Store.wf s.mem.dram = true → Store.wf d = true) :
    Quiet s { s with mem := { s.mem with dram := d } } where
  parts := rfl
  stores := fun ⟨dram, planes, cmp⟩ => ⟨h dram, planes, cmp⟩
  transfer := id

/-- R150 to R153: an executed overlay request keeps CMP's stores canonical. -/
theorem overlayEffect_canonical {r : OverlayRequest} {c c' : Cmp} (he : overlayEffect r c = some c') (h : CmpCanonical c) :
    CmpCanonical c' := by
  obtain ⟨hdraw, hshown, hglyphs, hframe⟩ := h
  unfold overlayEffect at he
  split at he
  · obtain ⟨d, hd, rfl⟩ := Option.map_eq_some_iff.1 he
    refine ⟨?_, hshown, hglyphs, hframe⟩
    unfold fillBuffer at hd
    split at hd
    · cases hd
    · split at hd
      · cases hd; exact wf_storeWriteAll _ _ hdraw
      · cases hd
  · obtain ⟨d, hd, rfl⟩ := Option.map_eq_some_iff.1 he
    refine ⟨?_, hshown, hglyphs, hframe⟩
    unfold textBuffer at hd
    split at hd
    · cases hd
    · split at hd
      · cases hd
      · cases hd; exact wf_storeWriteAll _ _ hdraw
  · obtain ⟨d, hd, rfl⟩ := Option.map_eq_some_iff.1 he
    refine ⟨?_, hshown, hglyphs, hframe⟩
    unfold clearBuffer at hd
    split at hd
    · cases hd
    · split at hd
      · cases hd; exact wf_storeFill _ _
      · cases hd
  · obtain ⟨_, _, rfl⟩ := Option.map_eq_some_iff.1 he
    exact ⟨hdraw, hshown, hglyphs, hframe⟩
  · obtain ⟨g, hg, rfl⟩ := Option.map_eq_some_iff.1 he
    refine ⟨hdraw, hshown, ?_, hframe⟩
    unfold loadGlyphs at hg
    split at hg
    · cases hg
    · split at hg
      · cases hg; exact wf_storeWriteAll _ _ hglyphs
      · cases hg
  · obtain ⟨_, _, rfl⟩ := Option.map_eq_some_iff.1 he
    exact ⟨hdraw, hshown, hglyphs, hframe⟩

theorem executeOverlay_quiet (r : OverlayRequest) (s : State) : Quiet s (executeOverlay r s) := by
  unfold executeOverlay
  split
  · exact reply_quiet ..
  · rename_i c hc
    have drawn : Quiet s { s with cmp := c } := .of_cmp (overlayEffect_canonical hc)
    split
    · exact drawn
    · exact drawn.before rfl

theorem takeOverlay_quiet (r : OverlayRequest) (s : State) : Quiet s (takeOverlay r s) := by
  unfold takeOverlay
  split
  · split <;> exact .of_seen rfl
  · exact executeOverlay_quiet r s

theorem drainHold_quiet (rs : List OverlayRequest) (s : State) : Quiet s (drainHold rs s) := by
  induction rs generalizing s with
  | nil => exact .of_seen rfl
  | cons r rest ih =>
    unfold drainHold
    dsimp only
    split
    · exact (executeOverlay_quiet r s).before rfl
    · exact (executeOverlay_quiet r s).trans (ih _)

/-- R140: a frame start up to its context. -/
def frameBegun (s : State) : State :=
  { reach (frameInstant s.cmp.broughtUp s.cmp.frames) s with
    cmp := { s.cmp with frames := s.cmp.frames + 1, heldBacklight := (s.setup.get 122).toNat } }

/-- R140: a frame start: the frame takes the shown buffer and the shown planes. -/
theorem frameStarts_quiet (s : State) : Quiet s (frameStarts s) := by
  have copied : ∀ t : State, Quiet t (overlayCopy t) := by
    intro t
    unfold overlayCopy
    split
    · refine Quiet.trans ?_ (drainHold_quiet _ _)
      exact (Quiet.of_cmp (s := t) (c := { t.cmp with shown := t.cmp.draw, showPending := false })
        (fun ⟨hdraw, _, hglyphs, hframe⟩ => ⟨hdraw, hdraw, hglyphs, hframe⟩)).before rfl
    · exact .refl t
  have framed : ∀ (t : State) (ctx : FrameContext), Quiet t { t with cmp := { t.cmp with
      frame := some { context := ctx, basis := t.cmp.basis, overlay := t.cmp.shown, planes := t.rnd.shown } } } := by
    intro t ctx
    refine ⟨rfl, fun ⟨hdram, hplanes, hdraw, hshown, hglyphs, _⟩ => ⟨hdram, hplanes, hdraw, hshown, hglyphs, ?_⟩, id⟩
    rintro f ⟨rfl⟩
    exact ⟨hshown, fun k => (hplanes k).2⟩
  have begun : Quiet s (frameBegun s) := .of_seen rfl
  exact (begun.trans (copied _)).trans
    (framed (overlayCopy (frameBegun s)) (frameContext (reach (frameInstant s.cmp.broughtUp s.cmp.frames) s)))

/-! ### Decay and the planes -/

/-- R138: a decay keeps the planes canonical. -/
theorem applyDecay_quiet (s : State) : Quiet s (applyDecay s) := by
  refine ⟨rfl, fun ⟨hdram, hplanes, hcmp⟩ => ⟨hdram, fun t => ?_, hcmp⟩, id⟩
  simp only [applyDecay, Fin.getElem_fin, Vector.getElem_map]
  exact ⟨wf_storeMap _ _ (hplanes t).1, wf_storeMap _ _ (hplanes t).2⟩

theorem decayExpires_quiet (s : State) : Quiet s (decayExpires s) := by
  unfold decayExpires
  split
  · exact .refl s
  · dsimp only
    split
    · exact .of_seen rfl
    · exact (applyDecay_quiet _).after rfl

/-- R137: the decay timer is not seen. -/
theorem decayChange_seen (ids : List Nat) (s : State) : seenParts (decayChange ids s) = seenParts s := by
  unfold decayChange
  dsimp only
  split
  · split <;> rfl
  · split <;> rfl

/-- R133: the hits of a drawing keep a plane canonical. -/
theorem wf_hitAll (weight : Option Nat) (cells : List Nat) {plane : Store} (h : Store.wf plane = true) :
    Store.wf (hitAll weight cells plane) = true :=
  wf_foldl_write cells id (fun m a => hitCell weight (storeRead m a)) plane h

/-- R122, R123: the drawing of a trace. -/
theorem drawTrace_quiet (t : Trace) (clear : Bool) (tab : List ColEntry) (p : Pass) (s : State) :
    Quiet s (drawTrace t clear tab p s) := by
  refine ⟨rfl, fun ⟨hdram, hplanes, hcmp⟩ => ⟨hdram, fun k => ⟨?_, (hplanes k).2⟩, hcmp⟩, id⟩
  by_cases hk : t = k
  · subst hk
    have base : Store.wf (if clear = true then [] else s.rnd.work[t]) = true := by
      split
      · rfl
      · exact (hplanes t).1
    simpa [drawTrace] using wf_hitAll _ _ base
  · have hv : t.val ≠ k.val := fun e => hk (Fin.ext e)
    simpa [drawTrace, hv] using (hplanes k).1

theorem drawPass_quiet (p : Pass) (s : State) : Quiet s (drawPass p s) := by
  have onChannels : Quiet s (channels.foldl (fun t n => drawTrace (chTrace n)
      (decide (p.kind = .redraw) || (channelTable n p t.mem.dram).isEmpty || p.setup.get 116 == 0)
      (channelTable n p t.mem.dram) p t) s) := .foldl (fun t n => drawTrace_quiet _ _ _ p t) channels s
  unfold drawPass
  dsimp only
  split
  · exact onChannels
  · exact onChannels.trans
      (.foldl (f := fun t n => drawTrace (refTrace n) true (refTable n p t.mem.dram) p t) (fun t n => drawTrace_quiet _ _ _ p t)
        channels _)

/-- R124 step 1: the commit. -/
theorem commitPass_quiet (p : Pass) (s : State) : Quiet s (commitPass p s) :=
  ⟨rfl, fun ⟨hdram, hplanes, hcmp⟩ => ⟨hdram, fun k => ⟨(hplanes k).1, (hplanes k).1⟩, hcmp⟩, id⟩

/-! ### Sample memory -/

/-- A fold of writes keeps sample memory canonical. -/
theorem wf_foldl {α : Type} {f : Store → α → Store} (hf : ∀ d x, Store.wf d = true → Store.wf (f d x) = true) (xs : List α)
    {d : Store} (h : Store.wf d = true) : Store.wf (xs.foldl f d) = true := by
  induction xs generalizing d with
  | nil => exact h
  | cons x rest ih => exact ih (hf d x h)

/-- R101: the codes of a group. -/
theorem storeCodes_quiet (c : Capture) (q : Nat) (codes : Vector Byte 4) (s : State) : Quiet s (storeCodes c q codes s) := by
  unfold storeCodes
  split
  · exact .refl s
  · refine .of_dram (wf_foldl (fun d n hd => ?_) channels)
    split
    · exact wf_writePosition hd _ _ _
    · exact hd

/-- R82: what a copy writes. -/
theorem copyWritten_quiet (c : RefCopy) (s : State) : Quiet s (copyWritten c s) := by
  unfold copyWritten
  split
  · exact .refl s
  · exact .of_dram (wf_foldl (fun d i hd => wf_writePosition hd _ _ _) (List.range c.contents.n))

end Sys2Proof.Machine
end

section
/-! PROOF. What the releases of segments and their pins, and the arming and the ends of runs, leave: no page is lost, and of the state
only FEC, TRG, ACQ, MEM's segments and LNK move. -/

namespace Sys2Proof.Machine

/-! ### Pages -/

/-- R66: the pages of the pool and of the segments. -/
def segmentPages (m : Mem) : List Nat := m.pool ++ m.table.flatMap segPages

/-- Blocks of m elements, one after another, one for each channel that `b` holds of. -/
theorem flatMap_blocks (b : Channel → Bool) (m : Nat) (taken : List Nat) :
    channels.flatMap (fun c => if b c = true then
        (taken.drop ((channels.filter (fun d => b d && decide (d < c))).length * m)).take m else []) =
      taken.take ((channels.filter b).length * m) := by
  have next : ∀ k : Nat, taken.take (k * m) ++ (taken.drop (k * m)).take m = taken.take ((k + 1) * m) :=
    fun k => by rw [Nat.succ_mul, List.take_add]
  have one := next 0
  have two := next 1
  have three := next 2
  have four := next 3
  simp only [Nat.zero_mul, Nat.zero_add, Nat.one_mul, List.take_zero, List.nil_append, List.drop_zero, Nat.reduceAdd] at *
  cases h0 : b 0 <;> cases h1 : b 1 <;> cases h2 : b 2 <;> cases h3 : b 3 <;>
    simp [channels, List.filter_cons, h0, h1, h2, h3, ← two, ← three, ← four]

/-- R72 step 1: the page lists of a new record, one after another, are the pages taken. -/
theorem segPages_newSegment (q : CaptureRequest) (seq : Nat) (taken : List Nat) :
    segPages (newSegment q seq taken) = taken.take (pagesForRequest q) := by
  unfold pagesForRequest
  rw [← flatMap_blocks (fun c => q.set[c])]
  simp [segPages, newSegment, pageListFor]

theorem perm_insertAsc (x : Nat) (xs : List Nat) : (insertAsc x xs).Perm (x :: xs) := by
  induction xs with
  | nil => exact .refl _
  | cons y ys ih =>
    unfold insertAsc
    split
    · exact .refl _
    · exact (ih.cons y).trans (.swap x y ys)

/-- R67: the pages of a release join the pool, each once. -/
theorem perm_sortAsc (xs : List Nat) : (sortAsc xs).Perm xs := by
  induction xs with
  | nil => exact .refl _
  | cons x rest ih => exact (perm_insertAsc x (sortAsc rest)).trans (ih.cons x)

/-! ### Releases and the retry -/

/-- What the release of a segment or of one of its pins, and the allocation that can follow, leave of the state. -/
structure Released (s t : State) : Prop where
  only : t = { s with fec := t.fec, trg := t.trg, acq := t.acq, mem := t.mem, lnk := t.lnk }
  calStep : t.fec.calStep = s.fec.calStep
  startUp : t.lnk.startUp = s.lnk.startUp
  dram : t.mem.dram = s.mem.dram
  bad : t.mem.bad = s.mem.bad
  refs : t.mem.refs = s.mem.refs
  pages : (segmentPages t.mem).Perm (segmentPages s.mem)

namespace Released

theorem refl (s : State) : Released s s := ⟨rfl, rfl, rfl, rfl, rfl, rfl, .refl _⟩

theorem trans {s t u : State} (h : Released s t) (k : Released t u) : Released s u where
  only := by rw [k.only, h.only]
  calStep := k.calStep.trans h.calStep
  startUp := k.startUp.trans h.startUp
  dram := k.dram.trans h.dram
  bad := k.bad.trans h.bad
  refs := k.refs.trans h.refs
  pages := k.pages.trans h.pages

theorem rnd {s t : State} (h : Released s t) : t.rnd = s.rnd := by rw [h.only]
theorem xfr {s t : State} (h : Released s t) : t.xfr = s.xfr := by rw [h.only]
theorem cmp {s t : State} (h : Released s t) : t.cmp = s.cmp := by rw [h.only]
theorem setup {s t : State} (h : Released s t) : t.setup = s.setup := by rw [h.only]

/-- A change of MEM's segments alone. -/
theorem of_mem {s t : State} (only : t = { s with mem := t.mem }) (dram : t.mem.dram = s.mem.dram) (bad : t.mem.bad = s.mem.bad)
    (refs : t.mem.refs = s.mem.refs) (pages : (segmentPages t.mem).Perm (segmentPages s.mem)) : Released s t :=
  ⟨by rw [only], by rw [only], by rw [only], dram, bad, refs, pages⟩

/-- A change of ACQ and TRG alone. -/
theorem of_acq {s t : State} (h : t = { s with trg := t.trg, acq := t.acq }) : Released s t := by
  rw [h]; exact ⟨rfl, rfl, rfl, rfl, rfl, rfl, .refl _⟩

theorem foldl {α : Type} {f : State → α → State} (hf : ∀ s x, Released s (f s x)) (xs : List α) (s : State) :
    Released s (xs.foldl f s) := by
  induction xs generalizing s with
  | nil => exact refl s
  | cons x rest ih => exact (hf s x).trans (ih (f s x))

end Released

/-- Changing records without their pages. -/
theorem flatMap_segPages_map {f : SegRec → SegRec} (h : ∀ r, (f r).pages = r.pages) (rs : List SegRec) :
    (rs.map f).flatMap segPages = rs.flatMap segPages := by
  rw [List.flatMap_map]
  exact List.flatMap_congr (fun r _ => by simp [segPages, h])

/-- The change of the record bearing a seq, its pages left. -/
theorem modSeg_released {f : SegRec → SegRec} (h : ∀ r, (f r).pages = r.pages) (seq : Nat) (s : State) :
    Released s (modSeg seq f s) := by
  refine .of_mem rfl rfl rfl rfl ?_
  have same := flatMap_segPages_map (f := fun r => if r.seq == seq then f r else r)
    (fun r => by split <;> simp [h]) s.mem.table
  exact .of_eq (congrArg (s.mem.pool ++ ·) same)

theorem pinSegment_released (h : Holder) (seq : Nat) (s : State) : Released s (pinSegment h seq s).1 := by
  unfold pinSegment
  split
  · exact .refl s
  · split
    · exact modSeg_released (f := fun x => { x with pins := setPin h true x.pins }) (fun _ => rfl) seq s
    · exact .refl s

/-- R76: the pages of a record that leaves the table join the pool. -/
theorem dropSegment_released (seq : Nat) (s : State) : Released s (dropSegment seq s) := by
  unfold dropSegment
  split
  · exact .refl s
  · rename_i r hr
    refine .of_mem rfl rfl rfl rfl ?_
    obtain ⟨hp, a, b, htable, ha⟩ := List.find?_eq_some_iff_append.1 hr
    have erased : s.mem.table.eraseP (fun x => x.seq == seq) = a ++ b := by
      rw [htable, List.eraseP_append_right _ (fun x hx => by simpa using ha x hx), List.eraseP_cons_of_pos (p := fun x : SegRec => x.seq == seq) hp]
    have joined : (sortAsc (segPages r) ++ (a ++ b).flatMap segPages).Perm ((a ++ r :: b).flatMap segPages) := by
      refine ((perm_sortAsc _).append_right _).trans ?_
      simp only [List.flatMap_append, List.flatMap_cons, ← List.append_assoc]
      exact List.perm_append_comm.append_right _
    simp only [segmentPages, freePages, erased]
    rw [htable, List.append_assoc]
    exact joined.append_left _

theorem reclaim_released (fuel k : Nat) (s : State) : Released s (reclaim fuel k s) := by
  induction fuel generalizing s with
  | zero => exact .refl s
  | succ f ih =>
    unfold reclaim
    split
    · split
      · exact .refl s
      · rename_i r _; exact (dropSegment_released r.seq s).trans (ih _)
    · exact .refl s

/-- R72: the pages of an allocation go from the head of the pool to the new record. -/
theorem allocate_released (q : CaptureRequest) (s : State) : Released s (allocate q s).1 := by
  have reclaimed := reclaim_released s.mem.table.length (pagesForRequest q) s
  unfold allocate
  dsimp only
  generalize reclaim s.mem.table.length (pagesForRequest q) s = u at reclaimed
  split
  · exact reclaimed
  · refine reclaimed.trans (.of_mem rfl rfl rfl rfl ?_)
    simp only [segmentPages, List.flatMap_append, List.flatMap_cons, List.flatMap_nil, List.append_nil, segPages_newSegment,
      List.take_take, Nat.min_self]
    conv_rhs => rw [← List.take_append_drop (pagesForRequest q) u.mem.pool]
    rw [← List.append_assoc]
    refine List.perm_append_comm.trans ?_
    rw [← List.append_assoc]

theorem leavePhase_released (s : State) : Released s (leavePhase s) := by
  have calStep : (leavePhase s).fec.calStep = s.fec.calStep := (leavePhase_rederives s).calStep
  rw [leavePhase_only] at calStep ⊢
  exact ⟨rfl, calStep, rfl, rfl, rfl, rfl, .refl _⟩

theorem enterReady_released (s : State) : Released s (enterReady s) := by
  have left : Released s (leavePhase (setAcq .ready s)) := (Released.of_acq (t := setAcq .ready s) rfl).trans (leavePhase_released _)
  have waits : ∀ t : State, Released t (if t.setup.get 83 = 0 then startAutoWait t else t) := by
    intro t
    split
    · exact .of_acq rfl
    · exact .refl t
  have forced : ∀ t : State, Released t
      (if t.acq.forcePending then forceTrigger { t with acq := { t.acq with forcePending := false } } else t) := by
    intro t
    split
    · exact .of_acq rfl
    · exact .refl t
  exact (left.trans (waits _)).trans (forced _)

theorem enterPreFill_released (q : CaptureRequest) (seq : Nat) (s : State) : Released s (enterPreFill q seq s) := by
  have entered : Released s (setAcq .preFill { s with acq := { s.acq with ctx := some (newContext q seq) } }) := .of_acq rfl
  unfold enterPreFill
  dsimp only
  split
  · exact entered.trans (enterReady_released _)
  · exact entered

theorem retryPending_released (s : State) : Released s (retryPending s) := by
  unfold retryPending
  split
  · exact .refl s
  · rename_i q _
    have alloc := allocate_released q s
    split
    · rename_i h; rw [h] at alloc; exact alloc
    · rename_i s1 seq h
      rw [h] at alloc
      have withdrawn : Released s1 { s1 with mem := { s1.mem with pendingAlloc := none } } := .of_mem rfl rfl rfl rfl (.refl _)
      exact (alloc.trans withdrawn).trans (enterPreFill_released q seq _)

theorem removeSegment_released (seq : Nat) (s : State) : Released s (removeSegment seq s) :=
  (dropSegment_released seq s).trans (retryPending_released _)

theorem releaseSegPin_released (h : Holder) (seq : Nat) (s : State) : Released s (releaseSegPin h seq s) := by
  unfold releaseSegPin
  split
  · exact .refl s
  · split
    · refine (modSeg_released (f := fun x => { x with pins := setPin h false x.pins }) (fun _ => rfl) seq s).trans ?_
      split
      · exact removeSegment_released seq _
      · exact retryPending_released _
    · exact .refl s

/-! ### Arming and the ends of runs -/

theorem latchCondition_startUp (c : Condition) (d : CauseDetail) (s : State) :
    (latchCondition c d s).lnk.startUp = s.lnk.startUp := (latchCondition_quiet c d s).startUp

theorem requestAllocation_released (s : State) : Released s (requestAllocation s) := by
  have alloc := allocate_released (captureRequest s) s
  unfold requestAllocation
  dsimp only
  split
  · rename_i h; rw [h] at alloc; exact alloc.trans (enterPreFill_released _ _ _)
  · rename_i s1 h
    rw [h] at alloc
    refine alloc.trans (Released.trans (t := setAcq .starved { s1 with mem := { s1.mem with
      pendingAlloc := some (captureRequest s) } }) ⟨rfl, rfl, rfl, rfl, rfl, rfl, .refl _⟩ ?_)
    have up := latchCondition_startUp .starved (.pages (pagesForRequest (captureRequest s)))
      (setAcq .starved { s1 with mem := { s1.mem with pendingAlloc := some (captureRequest s) } })
    rw [latchCondition_only] at up ⊢
    exact ⟨rfl, rfl, up, rfl, rfl, rfl, .refl _⟩

theorem arm_released (s : State) : Released s (arm s) := by
  unfold arm
  split
  · exact .of_acq rfl
  · exact requestAllocation_released s

theorem discard_released (s : State) : Released s (discard s) := by
  have removed : Released s (match s.acq.ctx with | some c => removeSegment c.seq s | none => s) := by
    split
    · exact removeSegment_released _ s
    · exact .refl s
  exact (removed.trans (leavePhase_released _)).trans (.of_acq rfl)

theorem withdraw_released (s : State) : Released s (withdraw s) := .of_mem rfl rfl rfl rfl (.refl _)

theorem reportAcq_released (left : AcqState) (cause : AcqCause) (s : State) : Released s (reportAcq left cause s) := by
  unfold reportAcq
  rw [offer_only]
  exact ⟨rfl, rfl, rfl, rfl, rfl, rfl, .refl _⟩

theorem enterStopped_released (cause : AcqCause) (s : State) : Released s (enterStopped cause s) :=
  Released.trans (t := { s with acq := { s.acq with state := .stopped, singlePending := false, forcePending := false } })
    (.of_acq rfl) (reportAcq_released _ _ _)

theorem endRun_released (cause : AcqCause) (s : State) : Released s (endRun cause s) := by
  have discarded := (discard_released s).trans (enterStopped_released cause _)
  unfold endRun
  split
  · exact .refl s
  · exact .refl s
  · exact enterStopped_released cause s
  · exact (withdraw_released s).trans (enterStopped_released cause _)
  · exact discarded
  · exact discarded
  · exact discarded

theorem captureChange_released (s : State) : Released s (captureChange s) := by
  have discarded := (discard_released s).trans (arm_released _)
  unfold captureChange
  split
  · exact .refl s
  · exact .refl s
  · exact .refl s
  · exact (withdraw_released s).trans (arm_released _)
  · exact discarded
  · exact discarded
  · exact discarded

end Sys2Proof.Machine
end

section
/-! PROOF. The laws of the segment table under the releases of segments and pins and under an allocation: who holds a pin is a
parameter, so that the laws can be stated between the steps of one operation. -/

namespace Sys2Proof.Machine

/-! ### The laws of the table -/

/-- R71, R73: between two segments of a run, and outside a run: no segment is in flight. -/
structure Vacant (s : State) : Prop where
  nodup : (s.mem.table.map (·.seq)).Nodup
  ctx : s.acq.ctx = none
  filling : ∀ r ∈ s.mem.table, r.state ≠ .filling
  calStep : s.fec.calStep = none

/-- R70, R71, R73: the law of the segments, or, between the end of a segment and what follows it, that of a table without one. -/
def Segments (between : Bool) (s : State) : Prop :=
  if between = true then Vacant s ∧ s.mem.pendingAlloc = none else SegmentLaw s

/-- R78: the pins of a table, for holders `H`: every record's pins are exactly those held, a FILLING one has none and a STALE one some,
each segment held is in the table, and those that `C` names are COMPLETE and held. -/
structure Pinned (H : Holder → Nat → Prop) (C : Nat → Prop) (table : List SegRec) : Prop where
  pins : ∀ r ∈ table, ∀ h, hasPin h r.pins = true ↔ H h r.seq
  filling : ∀ r ∈ table, r.state = .filling → unpinned r = true
  stale : ∀ r ∈ table, r.state = .stale → unpinned r = false
  present : ∀ h q, H h q → ∃ r ∈ table, r.seq = q
  complete : ∀ q, C q → ∃ r ∈ table, r.seq = q ∧ r.state = .complete
  held : ∀ q, C q → ∃ h, H h q

/-- The two laws of a table. -/
structure TableLaw (between : Bool) (H : Holder → Nat → Prop) (C : Nat → Prop) (s : State) : Prop where
  segs : Segments between s
  pinned : Pinned H C s.mem.table

theorem Segments.nodup {b : Bool} {s : State} (h : Segments b s) : (s.mem.table.map (·.seq)).Nodup := by
  cases b with
  | true => exact h.1.nodup
  | false => exact h.1

/-- R78: the pin count is 0 when no holder holds a pin. -/
theorem unpinned_iff (r : SegRec) : unpinned r = true ↔ ∀ h, hasPin h r.pins = false := by
  refine ⟨fun hu h => ?_, fun hall => ?_⟩
  · simp only [unpinned, Bool.and_eq_true, Bool.not_eq_true'] at hu
    obtain ⟨⟨⟨hv, hr⟩, ht⟩, hc⟩ := hu
    cases h <;> assumption
  · have hv := hall .view
    have hr := hall .render
    have ht := hall .transfer
    have hc := hall .copy
    simp only [hasPin] at hv hr ht hc
    simp [unpinned, hv, hr, ht, hc]

theorem Pinned.unheld {H : Holder → Nat → Prop} {C : Nat → Prop} {table : List SegRec} (h : Pinned H C table) {r : SegRec}
    (hr : r ∈ table) (hu : unpinned r = true) (k : Holder) : ¬ H k r.seq := by
  rw [← h.pins r hr k, (unpinned_iff r).1 hu k]
  simp

/-- R70: the one record of a seq. -/
theorem eq_of_seq {table : List SegRec} (hn : (table.map (·.seq)).Nodup) {r x : SegRec} (hr : r ∈ table) (hx : x ∈ table)
    (h : r.seq = x.seq) : r = x := List.inj_on_of_nodup_map hn hr hx h

theorem findSeg_mem {seq : Nat} {s : State} {r : SegRec} (h : findSeg seq s = some r) : r ∈ s.mem.table ∧ r.seq = seq :=
  ⟨List.mem_of_find?_eq_some h, by simpa using List.find?_some h⟩

/-- R70: a record of the table is what its seq finds. -/
theorem findSeg_of_mem {s : State} (hn : (s.mem.table.map (·.seq)).Nodup) {r : SegRec} (hr : r ∈ s.mem.table) :
    findSeg r.seq s = some r := by
  cases hx : findSeg r.seq s with
  | none => exact absurd (List.find?_eq_none.1 hx r hr) (by simp)
  | some x =>
    obtain ⟨hmem, hseq⟩ := findSeg_mem hx
    rw [eq_of_seq hn hmem hr hseq]

/-! ### A record leaves the table -/

/-- R76: the table without the record of a seq. -/
theorem dropSegment_table {s : State} (hn : (s.mem.table.map (·.seq)).Nodup) (seq : Nat) :
    (dropSegment seq s).mem.table = s.mem.table.filter (fun r => r.seq != seq) := by
  have erased : ∀ l : List SegRec, (l.map (·.seq)).Nodup →
      l.eraseP (fun r => r.seq == seq) = l.filter (fun r => r.seq != seq) := by
    intro l
    induction l with
    | nil => exact fun _ => rfl
    | cons x xs ih =>
      intro hl
      rw [List.map_cons, List.nodup_cons] at hl
      by_cases hx : x.seq = seq
      · have others : xs.filter (fun r => r.seq != seq) = xs := by
          rw [List.filter_eq_self]
          intro y hy
          have : y.seq ≠ x.seq := fun e => hl.1 (e ▸ List.mem_map_of_mem hy)
          simpa [← hx] using this
        simp [hx, others]
      · simp [hx, ih hl.2]
  unfold dropSegment
  split
  · rename_i hnone
    refine (List.filter_eq_self.2 fun r hr => ?_).symm
    simpa using List.find?_eq_none.1 hnone r hr
  · exact erased _ hn

theorem mem_dropSegment {s : State} (hn : (s.mem.table.map (·.seq)).Nodup) {seq : Nat} {r : SegRec} :
    r ∈ (dropSegment seq s).mem.table ↔ r ∈ s.mem.table ∧ r.seq ≠ seq := by
  rw [dropSegment_table hn, List.mem_filter]
  simp

theorem dropSegment_nodup {s : State} (hn : (s.mem.table.map (·.seq)).Nodup) (seq : Nat) :
    ((dropSegment seq s).mem.table.map (·.seq)).Nodup := by
  rw [dropSegment_table hn]
  exact hn.sublist (List.filter_sublist.map _)

/-- R78: a record without pins is no holder's. -/
theorem Pinned.drop {H : Holder → Nat → Prop} {C : Nat → Prop} {s : State} (hn : (s.mem.table.map (·.seq)).Nodup)
    (h : Pinned H C s.mem.table) {r : SegRec} (hr : r ∈ s.mem.table) (hu : unpinned r = true) :
    Pinned H C (dropSegment r.seq s).mem.table where
  pins x hx := h.pins x ((mem_dropSegment hn).1 hx).1
  filling x hx := h.filling x ((mem_dropSegment hn).1 hx).1
  stale x hx := h.stale x ((mem_dropSegment hn).1 hx).1
  present k q hq := by
    obtain ⟨x, hx, rfl⟩ := h.present k q hq
    exact ⟨x, (mem_dropSegment hn).2 ⟨hx, fun e => h.unheld hr hu k (e ▸ hq)⟩, rfl⟩
  complete q hq := by
    obtain ⟨x, hx, rfl, hc⟩ := h.complete q hq
    obtain ⟨k, hk⟩ := h.held _ hq
    exact ⟨x, (mem_dropSegment hn).2 ⟨hx, fun e => h.unheld hr hu k (e ▸ hk)⟩, rfl, hc⟩
  held := h.held

theorem Vacant.drop {s : State} (h : Vacant s) (seq : Nat) : Vacant (dropSegment seq s) where
  nodup := dropSegment_nodup h.nodup seq
  ctx := by rw [dropSegment_only]; exact h.ctx
  filling r hr := h.filling r ((mem_dropSegment h.nodup).1 hr).1
  calStep := by rw [dropSegment_only]; exact h.calStep

/-- The last element stays last when a filter keeps it. -/
theorem getLast?_filter {α : Type} {p : α → Bool} {l : List α} {x : α} (hl : l.getLast? = some x) (hx : p x = true) :
    (l.filter p).getLast? = some x := by
  obtain ⟨xs, rfl⟩ := List.getLast?_eq_some_iff.1 hl
  simp [List.filter_append, hx]

theorem SegmentLaw.drop {s : State} (h : SegmentLaw s) {r : SegRec} (hr : r ∈ s.mem.table) (hf : r.state ≠ .filling) :
    SegmentLaw (dropSegment r.seq s) := by
  obtain ⟨hn, hctx, hfill, hlast, hpend, hcal⟩ := h
  have acq : (dropSegment r.seq s).acq = s.acq := by rw [dropSegment_only]
  have calStep : (dropSegment r.seq s).fec.calStep = s.fec.calStep := by rw [dropSegment_only]
  refine ⟨dropSegment_nodup hn _, by rw [acq]; exact hctx, fun x hx => ?_, fun c hc => ?_, ?_, by rw [acq, calStep]; exact hcal⟩
  · rw [acq]
    exact hfill x ((mem_dropSegment hn).1 hx).1
  · rw [acq] at hc
    have hlastc := hlast c hc
    obtain ⟨x, hx, hseq⟩ := Option.map_eq_some_iff.1 hlastc
    have flying : r.seq ≠ x.seq := fun e => hf ((hfill r hr).2 (by rw [hc, e, hseq]; rfl))
    rw [dropSegment_table hn, getLast?_filter hx (by simpa using flying.symm), ← hseq]
    rfl
  · rw [acq, dropSegment_pendingAlloc]
    exact hpend

theorem Segments.drop {b : Bool} {s : State} (h : Segments b s) {r : SegRec} (hr : r ∈ s.mem.table) (hf : r.state ≠ .filling) :
    Segments b (dropSegment r.seq s) := by
  cases b with
  | true => exact ⟨h.1.drop _, (dropSegment_pendingAlloc _ s).trans h.2⟩
  | false => exact SegmentLaw.drop h hr hf

theorem TableLaw.drop {b : Bool} {H : Holder → Nat → Prop} {C : Nat → Prop} {s : State} (h : TableLaw b H C s) {r : SegRec}
    (hr : r ∈ s.mem.table) (hf : r.state ≠ .filling) (hu : unpinned r = true) : TableLaw b H C (dropSegment r.seq s) :=
  ⟨h.segs.drop hr hf, h.pinned.drop h.segs.nodup hr hu⟩

/-- R72: a record that can be reclaimed. -/
theorem oldestReclaimable_spec {s : State} {r : SegRec} (h : oldestReclaimable s = some r) :
    r ∈ s.mem.table ∧ r.state = .complete ∧ unpinned r = true := by
  have hp := List.find?_some h
  simp only [Bool.and_eq_true, decide_eq_true_eq] at hp
  exact ⟨List.mem_of_find?_eq_some h, hp⟩

/-- R72: what every removal of a COMPLETE record without pins keeps, a reclaim keeps. -/
theorem reclaim_keeps {P : State → Prop}
    (hP : ∀ t r, P t → r ∈ t.mem.table → r.state = .complete → unpinned r = true → P (dropSegment r.seq t))
    (fuel k : Nat) {s : State} (h : P s) : P (reclaim fuel k s) := by
  induction fuel generalizing s with
  | zero => exact h
  | succ f ih =>
    unfold reclaim
    split
    · split
      · exact h
      · rename_i r hr
        obtain ⟨hmem, hc, hu⟩ := oldestReclaimable_spec hr
        exact ih (hP s r h hmem hc hu)
    · exact h

/-! ### An allocation -/

/-- R72: a new record without pins, under a seq that none bears. -/
theorem Pinned.append {H : Holder → Nat → Prop} {C : Nat → Prop} {table : List SegRec} (h : Pinned H C table) {x : SegRec}
    (hfresh : x.seq ∉ table.map (·.seq)) (hstate : x.state = .filling) (hu : unpinned x = true) : Pinned H C (table ++ [x]) where
  pins r hr k := by
    rcases List.mem_append.1 hr with hr | hr
    · exact h.pins r hr k
    · obtain rfl := List.mem_singleton.1 hr
      have unheld : ¬ H k r.seq := fun hk => by
        obtain ⟨y, hy, hseq⟩ := h.present k _ hk
        exact hfresh (hseq ▸ List.mem_map_of_mem hy)
      simp [(unpinned_iff r).1 hu k, unheld]
  filling r hr hf := by
    rcases List.mem_append.1 hr with hr | hr
    · exact h.filling r hr hf
    · obtain rfl := List.mem_singleton.1 hr
      exact hu
  stale r hr hs := by
    rcases List.mem_append.1 hr with hr | hr
    · exact h.stale r hr hs
    · obtain rfl := List.mem_singleton.1 hr
      rw [hstate] at hs; cases hs
  present k q hq := by
    obtain ⟨r, hr, hseq⟩ := h.present k q hq
    exact ⟨r, List.mem_append_left _ hr, hseq⟩
  complete q hq := by
    obtain ⟨r, hr, hseq, hc⟩ := h.complete q hq
    exact ⟨r, List.mem_append_left _ hr, hseq, hc⟩
  held := h.held

/-- R72: an allocation, from a table without a FILLING record: the record it appends, or the reclaimed table. -/
structure Allocated (H : Holder → Nat → Prop) (C : Nat → Prop) (s : State) (a : State × Option Nat) : Prop where
  pending : a.1.mem.pendingAlloc = s.mem.pendingAlloc
  some : ∀ seq, a.2 = some seq → ∃ table x, a.1.mem.table = table ++ [x] ∧ x.seq = seq ∧ x.state = .filling ∧
    (a.1.mem.table.map (·.seq)).Nodup ∧ (∀ r ∈ table, r.state ≠ .filling) ∧ Pinned H C a.1.mem.table
  none : a.2 = none → Vacant a.1 ∧ Pinned H C a.1.mem.table

theorem allocate_allocated {H : Holder → Nat → Prop} {C : Nat → Prop} {s : State} (hv : Vacant s) (hp : Pinned H C s.mem.table)
    (q : CaptureRequest) : Allocated H C s (allocate q s) := by
  have reclaimed : Vacant (reclaim s.mem.table.length (pagesForRequest q) s) ∧
      Pinned H C (reclaim s.mem.table.length (pagesForRequest q) s).mem.table ∧
      (reclaim s.mem.table.length (pagesForRequest q) s).mem.pendingAlloc = s.mem.pendingAlloc :=
    reclaim_keeps (P := fun t => Vacant t ∧ Pinned H C t.mem.table ∧ t.mem.pendingAlloc = s.mem.pendingAlloc)
      (fun t r ⟨hv, hp, hpend⟩ hr _ hu =>
        ⟨hv.drop _, hp.drop hv.nodup hr hu, (dropSegment_pendingAlloc _ t).trans hpend⟩) _ _ ⟨hv, hp, rfl⟩
  unfold allocate
  dsimp only
  generalize reclaim s.mem.table.length (pagesForRequest q) s = u at reclaimed
  obtain ⟨huv, hup, hupend⟩ := reclaimed
  split
  · exact ⟨hupend, fun seq h => by simp at h, fun _ => ⟨huv, hup⟩⟩
  · rename_i room
    have short : u.mem.table.length < 1024 := by
      simp only [captureShort, Config.tableSize, Bool.or_eq_true, decide_eq_true_eq, not_or] at room
      exact Nat.lt_of_not_le (fun h => room.2 (decide_eq_true h))
    have fresh := freeSeq_fresh u.mem.seqCounter short
    refine ⟨hupend, fun seq h => ?_, fun h => by simp at h⟩
    obtain rfl := Option.some.inj h
    refine ⟨_, _, rfl, rfl, rfl, ?_, huv.filling, hup.append fresh rfl rfl⟩
    simp only [List.map_append, List.map_cons, List.map_nil]
    exact huv.nodup.append (List.nodup_singleton _) (List.disjoint_singleton.2 fresh)

theorem OpensSegment.segmentOpen {q : CaptureRequest} {seq : Nat} {s : State} (h : OpensSegment q seq s) :
    segmentOpen s.acq.state = true ∧ s.acq.state ≠ .starved ∧ s.acq.state ≠ .calibrating ∧ s.acq.ctx.isSome = true ∧
    s.acq.ctx.map (·.seq) = some seq := by
  obtain ⟨⟨trigger, forced, hctx⟩, hst⟩ := h
  rw [hctx]
  split at hst
  · rcases hst with hst | hst <;> rw [hst] <;> simp [Machine.segmentOpen, newContext]
  · rw [hst]; simp [Machine.segmentOpen, newContext]

/-- R98, R102: ACQ in PRE_FILL, or beyond, with the segment of an allocation. -/
theorem segmentLaw_of_opens {H : Holder → Nat → Prop} {C : Nat → Prop} {q : CaptureRequest} {s t : State} {a : State × Option Nat}
    {seq : Nat} (ha : Allocated H C s a) (hseq : a.2 = some seq) (hopen : OpensSegment q seq t)
    (htable : t.mem.table = a.1.mem.table) (hpend : t.mem.pendingAlloc = none) (hcal : t.fec.calStep = none) :
    TableLaw false H C t := by
  obtain ⟨table, x, hx, hxs, hxf, hn, hold, hp⟩ := ha.some seq hseq
  obtain ⟨hopen, hst, hsc, hctx, hseq⟩ := hopen.segmentOpen
  refine ⟨⟨by rw [htable]; exact hn, by rw [hctx, hopen], fun r hr => ?_, fun c hc => ?_, ?_, ?_⟩, by rw [htable]; exact hp⟩
  · rw [htable, hx] at hr
    rw [hseq]
    rcases List.mem_append.1 hr with hr | hr
    · refine ⟨fun hf => absurd hf (hold r hr), fun hs => ?_⟩
      have fresh : x.seq ∉ table.map (·.seq) := by
        rw [hx, List.map_append] at hn
        exact fun hm => (List.disjoint_of_nodup_append hn) hm (by simp)
      exact absurd (List.mem_map_of_mem (f := fun r : SegRec => r.seq) hr) (by rw [← Option.some.inj hs, ← hxs]; exact fresh)
    · obtain rfl := List.mem_singleton.1 hr
      simp [hxf, hxs]
  · rw [htable, hx]
    rw [hc] at hseq
    simpa [hxs] using hseq.symm
  · simp [hpend, hst]
  · simp [hcal, hsc]

/-! ### The retry -/

theorem SegmentLaw.vacant {s : State} (h : SegmentLaw s) (hst : segmentOpen s.acq.state = false) (hcal : s.acq.state ≠ .calibrating) :
    Vacant s := by
  obtain ⟨hn, hctx, hfill, _, _, hstep⟩ := h
  have none : s.acq.ctx = none := by rw [hst] at hctx; simpa using hctx
  refine ⟨hn, none, fun r hr hf => ?_, ?_⟩
  · have := (hfill r hr).1 hf
    rw [none] at this; cases this
  · have : ¬ s.fec.calStep.isSome = true := fun hs => hcal (hstep.1 hs)
    simpa using this

/-- R73: a retry keeps the laws: a failed one reclaims, one that succeeds opens a segment. -/
theorem retryPending_law {b : Bool} {H : Holder → Nat → Prop} {C : Nat → Prop} {s : State} (h : TableLaw b H C s) :
    TableLaw b H C (retryPending s) := by
  cases hpend : s.mem.pendingAlloc with
  | none => rw [retryPending_of_none hpend]; exact h
  | some q =>
    cases b with
    | true => have := h.segs.2; rw [hpend] at this; cases this
    | false =>
      have law : SegmentLaw s := h.segs
      obtain ⟨_, _, _, _, hstarved, hcal⟩ := id law
      have starved : s.acq.state = .starved := hstarved.1 (by rw [hpend]; rfl)
      have vacant : Vacant s := law.vacant (by rw [starved]; rfl) (by rw [starved]; simp)
      have alloc := allocate_allocated vacant h.pinned q
      have only := allocate_only q s
      unfold retryPending
      rw [hpend]
      dsimp only
      generalize allocate q s = a at alloc only
      obtain ⟨s1, got⟩ := a
      dsimp only at only
      have acq : s1.acq = s.acq := by rw [only]
      have calStep : s1.fec.calStep = none := by rw [only]; exact vacant.calStep
      cases got with
      | none =>
        obtain ⟨hv, hp⟩ := alloc.none rfl
        have pending : s1.mem.pendingAlloc = some q := alloc.pending.trans hpend
        refine ⟨⟨hv.nodup, by rw [hv.ctx, acq, starved]; rfl, fun r hr => ?_, fun c hc => ?_, ?_, ?_⟩, hp⟩
        · rw [hv.ctx]
          simp [hv.filling r hr]
        · rw [hv.ctx] at hc; cases hc
        · simp [pending, acq, starved]
        · simp [calStep, acq, starved]
      | some seq =>
        obtain ⟨opens, mem, _⟩ := enterPreFill_opens q seq { s1 with mem := { s1.mem with pendingAlloc := none } }
        have cal := (enterPreFill_released q seq { s1 with mem := { s1.mem with pendingAlloc := none } }).calStep
        exact segmentLaw_of_opens alloc rfl opens (by rw [mem]) (by rw [mem]) (cal.trans calStep)

/-! ### Pins -/

/-- The holders without one. -/
def without (h : Holder) (seq : Nat) (H : Holder → Nat → Prop) (k : Holder) (q : Nat) : Prop := H k q ∧ ¬ (k = h ∧ q = seq)

/-- The holders with one more. -/
def withPin (h : Holder) (seq : Nat) (H : Holder → Nat → Prop) (k : Holder) (q : Nat) : Prop := H k q ∨ (k = h ∧ q = seq)

theorem hasPin_setPin (h k : Holder) (b : Bool) (p : SegPins) :
    hasPin k (setPin h b p) = if k = h then b else hasPin k p := by
  cases h <;> cases k <;> rfl

/-- R78: the record bearing a seq, with one pin changed. -/
def repinned (h : Holder) (b : Bool) (seq : Nat) (r : SegRec) : SegRec :=
  if r.seq == seq then { r with pins := setPin h b r.pins } else r

@[simp] theorem repinned_seq (h : Holder) (b : Bool) (seq : Nat) (r : SegRec) : (repinned h b seq r).seq = r.seq := by
  unfold repinned; split <;> rfl

@[simp] theorem repinned_state (h : Holder) (b : Bool) (seq : Nat) (r : SegRec) : (repinned h b seq r).state = r.state := by
  unfold repinned; split <;> rfl

theorem hasPin_repinned (h k : Holder) (b : Bool) (seq : Nat) (r : SegRec) :
    hasPin k (repinned h b seq r).pins = if k = h ∧ r.seq = seq then b else hasPin k r.pins := by
  unfold repinned
  by_cases hs : r.seq = seq
  · simp [hs, hasPin_setPin]
  · simp [hs]

theorem modPins_table (h : Holder) (b : Bool) (seq : Nat) (s : State) :
    (modSeg seq (fun x => { x with pins := setPin h b x.pins }) s).mem.table = s.mem.table.map (repinned h b seq) := rfl

/-- Changing records without their seqs, and without making or ending a FILLING one. -/
theorem Segments.map {b : Bool} {s : State} {g : SegRec → SegRec} (hs : Segments b s) (hseq : ∀ r, (g r).seq = r.seq)
    (hfilling : ∀ r ∈ s.mem.table, (g r).state = .filling ↔ r.state = .filling) :
    Segments b { s with mem := { s.mem with table := s.mem.table.map g } } := by
  have seqs : (s.mem.table.map g).map (·.seq) = s.mem.table.map (·.seq) := by
    rw [List.map_map]; exact List.map_congr_left (fun r _ => hseq r)
  cases b with
  | true =>
    obtain ⟨⟨hn, hctx, hfill, hcal⟩, hpend⟩ := hs
    refine ⟨⟨by rw [seqs]; exact hn, hctx, fun r hr => ?_, hcal⟩, hpend⟩
    obtain ⟨x, hx, rfl⟩ := List.mem_map.1 hr
    exact fun hf => hfill x hx ((hfilling x hx).1 hf)
  | false =>
    obtain ⟨hn, hctx, hfill, hlast, hpend, hcal⟩ := hs
    refine ⟨by rw [seqs]; exact hn, hctx, fun r hr => ?_, fun c hc => ?_, hpend, hcal⟩
    · obtain ⟨x, hx, rfl⟩ := List.mem_map.1 hr
      rw [hfilling x hx, hseq]
      exact hfill x hx
    · have := hlast c hc
      rw [List.getLast?_map, Option.map_map]
      simpa [Function.comp_def, hseq] using this

theorem Segments.repin {b : Bool} {s : State} (hs : Segments b s) (h : Holder) (p : Bool) (seq : Nat) :
    Segments b (modSeg seq (fun x => { x with pins := setPin h p x.pins }) s) :=
  hs.map (g := repinned h p seq) (repinned_seq h p seq) (fun r _ => by rw [repinned_state])

/-- R78: a pin granted on a COMPLETE record. -/
theorem Pinned.pin {H : Holder → Nat → Prop} {C : Nat → Prop} {table : List SegRec} (hp : Pinned H C table)
    (hn : (table.map (·.seq)).Nodup) {r : SegRec} (hr : r ∈ table) (hc : r.state = .complete) (h : Holder) :
    Pinned (withPin h r.seq H) C (table.map (repinned h true r.seq)) where
  pins x hx k := by
    obtain ⟨y, hy, rfl⟩ := List.mem_map.1 hx
    rw [hasPin_repinned, repinned_seq]
    have := hp.pins y hy k
    unfold withPin
    by_cases hk : k = h ∧ y.seq = r.seq
    · simp [hk]
    · simp [hk, this]
  filling x hx hf := by
    obtain ⟨y, hy, rfl⟩ := List.mem_map.1 hx
    rw [repinned_state] at hf
    have other : y.seq ≠ r.seq := fun e => by rw [eq_of_seq hn hy hr e, hc] at hf; cases hf
    simpa [repinned, other] using hp.filling y hy hf
  stale x hx hs := by
    obtain ⟨y, hy, rfl⟩ := List.mem_map.1 hx
    rw [repinned_state] at hs
    have other : y.seq ≠ r.seq := fun e => by rw [eq_of_seq hn hy hr e, hc] at hs; cases hs
    simpa [repinned, other] using hp.stale y hy hs
  present k q hq := by
    rcases hq with hq | ⟨_, rfl⟩
    · obtain ⟨y, hy, hseq⟩ := hp.present k q hq
      exact ⟨_, List.mem_map_of_mem hy, by simpa using hseq⟩
    · exact ⟨_, List.mem_map_of_mem hr, by simp⟩
  complete q hq := by
    obtain ⟨y, hy, hseq, hyc⟩ := hp.complete q hq
    exact ⟨_, List.mem_map_of_mem hy, by simpa using hseq, by simpa using hyc⟩
  held q hq := by
    obtain ⟨k, hk⟩ := hp.held q hq
    exact ⟨k, .inl hk⟩

/-- R78: a pin request is granted on a COMPLETE record, and then held. -/
theorem pinSegment_granted {h : Holder} {seq : Nat} {s : State} (hg : (pinSegment h seq s).2 = true) :
    ∃ r, findSeg seq s = some r ∧ r.state = .complete ∧
      (pinSegment h seq s).1 = modSeg seq (fun x => { x with pins := setPin h true x.pins }) s := by
  unfold pinSegment at hg ⊢
  split at hg
  · cases hg
  · rename_i r hr
    split at hg
    · rename_i hc
      exact ⟨r, hr, hc, by simp [hc]⟩
    · cases hg

theorem pinSegment_refused {h : Holder} {seq : Nat} {s : State} (hg : (pinSegment h seq s).2 = false) : (pinSegment h seq s).1 = s := by
  unfold pinSegment at hg ⊢
  split at hg
  · rfl
  · split at hg
    · cases hg
    · rename_i hc
      simp [hc]

theorem pinSegment_law {b : Bool} {H : Holder → Nat → Prop} {C : Nat → Prop} {s : State} (hl : TableLaw b H C s) {h : Holder}
    {seq : Nat} (hg : (pinSegment h seq s).2 = true) : TableLaw b (withPin h seq H) C (pinSegment h seq s).1 := by
  obtain ⟨r, hr, hc, he⟩ := pinSegment_granted hg
  obtain ⟨hmem, rfl⟩ := findSeg_mem hr
  rw [he]
  exact ⟨hl.segs.repin h true _, hl.pinned.pin hl.segs.nodup hmem hc h⟩

/-! ### The release of a pin -/

/-- The pins of a table but for one record, which may be STALE and without pins. -/
theorem Pinned.unpin {H : Holder → Nat → Prop} {C : Nat → Prop} {table : List SegRec} (hp : Pinned H C table)
    (hn : (table.map (·.seq)).Nodup) {r : SegRec} (hr : r ∈ table) {h : Holder} (hh : hasPin h r.pins = true)
    (hC : ∀ q, C q → ∃ k, without h r.seq H k q)
    (hkeep : ¬ (r.state = .stale ∧ unpinned { r with pins := setPin h false r.pins } = true)) :
    Pinned (without h r.seq H) C (table.map (repinned h false r.seq)) where
  pins x hx k := by
    obtain ⟨y, hy, rfl⟩ := List.mem_map.1 hx
    rw [hasPin_repinned, repinned_seq]
    have := hp.pins y hy k
    unfold without
    by_cases hk : k = h ∧ y.seq = r.seq
    · simp [hk]
    · simp [hk, this]
  filling x hx hf := by
    obtain ⟨y, hy, rfl⟩ := List.mem_map.1 hx
    rw [repinned_state] at hf
    have hu := hp.filling y hy hf
    have other : y.seq ≠ r.seq := fun e => by
      rw [eq_of_seq hn hy hr e] at hu
      rw [(unpinned_iff r).1 hu h] at hh; cases hh
    simpa [repinned, other] using hu
  stale x hx hs := by
    obtain ⟨y, hy, rfl⟩ := List.mem_map.1 hx
    rw [repinned_state] at hs
    by_cases e : y.seq = r.seq
    · obtain rfl := eq_of_seq hn hy hr e
      simpa [repinned, hs] using hkeep
    · simpa [repinned, e] using hp.stale y hy hs
  present k q hq := by
    obtain ⟨y, hy, hseq⟩ := hp.present k q hq.1
    exact ⟨_, List.mem_map_of_mem hy, by simpa using hseq⟩
  complete q hq := by
    obtain ⟨y, hy, hseq, hyc⟩ := hp.complete q hq
    exact ⟨_, List.mem_map_of_mem hy, by simpa using hseq, by simpa using hyc⟩
  held := hC

/-- R78: the pins of a table from which a STALE record has gone with its last pin. -/
theorem Pinned.unpin_drop {H : Holder → Nat → Prop} {C : Nat → Prop} {s : State} (hp : Pinned H C s.mem.table)
    {r : SegRec} (hr : r ∈ s.mem.table) {h : Holder} (hC : ∀ q, C q → ∃ k, without h r.seq H k q)
    (hu : unpinned { r with pins := setPin h false r.pins } = true) :
    Pinned (without h r.seq H) C (s.mem.table.filter (fun x => x.seq != r.seq)) := by
  have kept : ∀ x, x ∈ s.mem.table.filter (fun x => x.seq != r.seq) ↔ x ∈ s.mem.table ∧ x.seq ≠ r.seq := by
    intro x; simp [List.mem_filter]
  have only : ∀ k, H k r.seq → k = h := by
    intro k hk
    have hpin := (hp.pins r hr k).2 hk
    have hfree := (unpinned_iff _).1 hu k
    rw [show (({ r with pins := setPin h false r.pins } : SegRec).pins) = setPin h false r.pins from rfl, hasPin_setPin] at hfree
    by_contra hne
    rw [if_neg hne, hpin] at hfree; cases hfree
  have elsewhere : ∀ k q, without h r.seq H k q → q ≠ r.seq := by
    rintro k q ⟨hk, hne⟩ rfl
    exact hne ⟨only k hk, rfl⟩
  refine ⟨fun x hx k => ?_, fun x hx => hp.filling x ((kept x).1 hx).1, fun x hx => hp.stale x ((kept x).1 hx).1, fun k q hq => ?_,
    fun q hq => ?_, hC⟩
  · obtain ⟨hx, hne⟩ := (kept x).1 hx
    rw [hp.pins x hx k]
    exact ⟨fun hk => ⟨hk, fun e => hne e.2⟩, And.left⟩
  · obtain ⟨x, hx, rfl⟩ := hp.present k q hq.1
    exact ⟨x, (kept x).2 ⟨hx, elsewhere k _ hq⟩, rfl⟩
  · obtain ⟨x, hx, rfl, hc⟩ := hp.complete q hq
    obtain ⟨k, hk⟩ := hC _ hq
    exact ⟨x, (kept x).2 ⟨hx, elsewhere k _ hk⟩, rfl, hc⟩

theorem Pinned.congr {H H' : Holder → Nat → Prop} {C C' : Nat → Prop} {table : List SegRec} (hp : Pinned H C table)
    (hH : ∀ k q, H' k q ↔ H k q) (hC : ∀ q, C' q ↔ C q) : Pinned H' C' table := by
  obtain rfl : H = H' := by funext k q; exact propext (hH k q).symm
  obtain rfl : C = C' := by funext q; exact propext (hC q).symm
  exact hp

theorem TableLaw.congr {b : Bool} {H H' : Holder → Nat → Prop} {C C' : Nat → Prop} {s : State} (h : TableLaw b H C s)
    (hH : ∀ k q, H' k q ↔ H k q) (hC : ∀ q, C' q ↔ C q) : TableLaw b H' C' s := ⟨h.segs, h.pinned.congr hH hC⟩

/-- R78: a release keeps the laws for the holders without the one that released. -/
theorem releaseSegPin_law {b : Bool} {H : Holder → Nat → Prop} {C : Nat → Prop} {s : State} (hl : TableLaw b H C s) (h : Holder)
    (seq : Nat) (hC : ∀ q, C q → ∃ k, without h seq H k q) : TableLaw b (without h seq H) C (releaseSegPin h seq s) := by
  have unheld : ¬ H h seq → TableLaw b (without h seq H) C s := fun hno =>
    hl.congr (fun k q => ⟨And.left, fun hk => ⟨hk, fun ⟨e1, e2⟩ => hno (e1 ▸ e2 ▸ hk)⟩⟩) (fun _ => Iff.rfl)
  have hn := hl.segs.nodup
  unfold releaseSegPin
  split
  · rename_i hnone
    refine unheld fun hk => ?_
    obtain ⟨r, hr, rfl⟩ := hl.pinned.present h seq hk
    rw [findSeg_of_mem hn hr] at hnone; cases hnone
  · rename_i r hr
    obtain ⟨hmem, rfl⟩ := findSeg_mem hr
    split
    · rename_i hh
      have segs := hl.segs.repin h false r.seq
      dsimp only
      split
      · rename_i hstale
        obtain ⟨hs, hu⟩ := hstale
        have dropped := segs.drop (r := repinned h false r.seq r) (List.mem_map_of_mem hmem) (by rw [repinned_state, hs]; simp)
        rw [repinned_seq] at dropped
        refine retryPending_law ⟨dropped, ?_⟩
        rw [dropSegment_table segs.nodup, modPins_table]
        have gone : (s.mem.table.map (repinned h false r.seq)).filter (fun x => x.seq != r.seq) =
            s.mem.table.filter (fun x => x.seq != r.seq) := by
          rw [List.filter_map]
          have same : ((fun x : SegRec => x.seq != r.seq) ∘ repinned h false r.seq) = fun x => x.seq != r.seq := by
            funext x; simp
          rw [same]
          refine (List.map_congr_left fun x hx => ?_).trans (List.map_id _)
          have : x.seq ≠ r.seq := by simpa using (List.mem_filter.1 hx).2
          simp [repinned, this]
        rw [gone]
        exact hl.pinned.unpin_drop hmem hC hu
      · rename_i hkeep
        exact retryPending_law ⟨segs, hl.pinned.unpin hn hmem hh hC hkeep⟩
    · rename_i hh
      exact unheld fun hk => hh ((hl.pinned.pins r hmem h).2 hk)

end Sys2Proof.Machine
end

section
/-! PROOF. The laws of the segment table under arming, completion and the ends of runs. -/

namespace Sys2Proof.Machine

/-! ### What the law of the segments reads -/

theorem Vacant.of_table {s t : State} (h : Vacant s) (htable : t.mem.table = s.mem.table) (hctx : t.acq.ctx = none)
    (hcal : t.fec.calStep = none) : Vacant t :=
  ⟨by rw [htable]; exact h.nodup, hctx, by rw [htable]; exact h.filling, hcal⟩

theorem flightSeq_isSome (s : State) : (flightSeq s).isSome = s.acq.ctx.isSome := Option.isSome_map

/-- The law of the segments is read off the parts that are seen. -/
theorem Segments.congr {b : Bool} {s t : State} (h : lawParts t = lawParts s) (hs : Segments b s) : Segments b t := by
  simp only [lawParts, Prod.mk.injEq] at h
  obtain ⟨_, ⟨_, _, htable, hpend, _⟩, ⟨hopen, hstarved, hcalib, hflight⟩, _, _, hcal⟩ := h
  have ctx : t.acq.ctx.isSome = s.acq.ctx.isSome := by rw [← flightSeq_isSome, ← flightSeq_isSome, hflight]
  have flight : t.acq.ctx.map (·.seq) = s.acq.ctx.map (·.seq) := hflight
  cases b with
  | true =>
    refine ⟨hs.1.of_table htable ?_ ?_, hpend.trans hs.2⟩
    · have := ctx.trans (by rw [hs.1.ctx]; rfl : s.acq.ctx.isSome = false)
      simpa using this
    · have := hcal.trans (by rw [hs.1.calStep]; rfl : s.fec.calStep.isSome = false)
      simpa using this
  | false =>
    obtain ⟨hn, hctx, hfill, hlast, hp, hc⟩ := hs
    have starved : t.acq.state = .starved ↔ s.acq.state = .starved := by simpa using hstarved
    have calib : t.acq.state = .calibrating ↔ s.acq.state = .calibrating := by simpa using hcalib
    refine ⟨by rw [htable]; exact hn, by rw [ctx, hopen]; exact hctx, fun r hr => ?_, fun c hc => ?_, ?_, ?_⟩
    · rw [flight]; exact hfill r (htable ▸ hr)
    · rw [hc] at flight
      obtain ⟨c', hc', hseq⟩ := Option.map_eq_some_iff.1 flight.symm
      rw [htable, hlast c' hc', hseq]
    · rw [hpend, starved]; exact hp
    · rw [hcal, calib]; exact hc

theorem TableLaw.seen {b : Bool} {H : Holder → Nat → Prop} {C : Nat → Prop} {s t : State} (h : TableLaw b H C s)
    (hp : lawParts t = lawParts s) : TableLaw b H C t := by
  refine ⟨h.segs.congr hp, ?_⟩
  have table : t.mem.table = s.mem.table := congrArg (fun p => p.2.1.2.2.1) hp
  rw [table]; exact h.pinned

/-- R90: outside a segment, STARVED and CALIBRATING nothing is in flight and nothing pends. -/
theorem SegmentLaw.between {s : State} (h : SegmentLaw s) (hst : segmentOpen s.acq.state = false) (hcal : s.acq.state ≠ .calibrating)
    (hstarved : s.acq.state ≠ .starved) : Segments true s := by
  refine ⟨h.vacant hst hcal, ?_⟩
  obtain ⟨_, _, _, _, hpend, _⟩ := h
  have : ¬ s.mem.pendingAlloc.isSome = true := fun hs => hstarved (hpend.1 hs)
  simpa using this

/-- R90: ACQ in a state without a segment, not STARVED and not CALIBRATING. -/
theorem segmentLaw_of_between {s t : State} (h : Segments true s) (htable : t.mem.table = s.mem.table)
    (hpend : t.mem.pendingAlloc = none) (hctx : t.acq.ctx = none) (hcal : t.fec.calStep = none)
    (hst : t.acq.state = .stopped ∨ t.acq.state = .settling) : SegmentLaw t := by
  refine ⟨by rw [htable]; exact h.1.nodup, ?_, fun r hr => ?_, fun c hc => ?_, ?_, ?_⟩
  · rw [hctx]; rcases hst with hst | hst <;> rw [hst] <;> rfl
  · rw [hctx]
    simp [h.1.filling r (htable ▸ hr)]
  · rw [hctx] at hc; cases hc
  · rw [hpend]; rcases hst with hst | hst <;> rw [hst] <;> simp
  · rw [hcal]; rcases hst with hst | hst <;> rw [hst] <;> simp

section
variable {H : Holder → Nat → Prop} {C : Nat → Prop} {s : State}

/-! ### Arming -/

theorem requestAllocation_law (h : TableLaw true H C s) : TableLaw false H C (requestAllocation s) := by
  have alloc := allocate_allocated h.segs.1 h.pinned (captureRequest s)
  have only := allocate_only (captureRequest s) s
  unfold requestAllocation
  dsimp only
  generalize allocate (captureRequest s) s = a at alloc only
  obtain ⟨s1, got⟩ := a
  dsimp only at only
  have calStep : s1.fec.calStep = none := by rw [only]; exact h.segs.1.calStep
  cases got with
  | some seq =>
    obtain ⟨opens, mem, _⟩ := enterPreFill_opens (captureRequest s) seq s1
    have cal := (enterPreFill_released (captureRequest s) seq s1).calStep
    exact segmentLaw_of_opens alloc rfl opens (by rw [mem]) (by rw [mem]; exact alloc.pending.trans h.segs.2) (cal.trans calStep)
  | none =>
    obtain ⟨hv, hp⟩ := alloc.none rfl
    refine TableLaw.seen (s := setAcq .starved { s1 with mem := { s1.mem with pendingAlloc := some (captureRequest s) } })
      ⟨⟨hv.nodup, ?_, fun r hr => ?_, fun c hc => ?_, ?_, ?_⟩, hp⟩ (latchCondition_quiet _ _ _).parts
    · exact (congrArg Option.isSome hv.ctx : _)
    · rw [show (setAcq .starved { s1 with mem := { s1.mem with pendingAlloc := some (captureRequest s) } }).acq.ctx = none from hv.ctx]
      simp [hv.filling r hr]
    · rw [show (setAcq .starved { s1 with mem := { s1.mem with pendingAlloc := some (captureRequest s) } }).acq.ctx = none from hv.ctx]
        at hc
      cases hc
    · simp [setAcq]
    · simp [setAcq, calStep]

theorem arm_law (h : TableLaw true H C s) : TableLaw false H C (arm s) := by
  unfold arm
  split
  · exact ⟨segmentLaw_of_between h.segs rfl h.segs.2 h.segs.1.ctx h.segs.1.calStep (.inr rfl), h.pinned⟩
  · exact requestAllocation_law h

theorem enterStopped_law (cause : AcqCause) (h : TableLaw true H C s) : TableLaw false H C (enterStopped cause s) := by
  refine TableLaw.seen (s := { s with acq := { s.acq with state := .stopped, singlePending := false, forcePending := false } })
    ⟨segmentLaw_of_between h.segs rfl h.segs.2 h.segs.1.ctx h.segs.1.calStep (.inl rfl), h.pinned⟩ ?_
  exact (offer_quiet _ _).parts

/-! ### The ends of a segment -/

theorem withdraw_law (h : TableLaw false H C s) (hst : s.acq.state = .starved) : TableLaw true H C (withdraw s) :=
  ⟨⟨(SegmentLaw.vacant h.segs (by rw [hst]; rfl) (by rw [hst]; simp)).of_table rfl
    (SegmentLaw.vacant h.segs (by rw [hst]; rfl) (by rw [hst]; simp)).ctx
    (SegmentLaw.vacant h.segs (by rw [hst]; rfl) (by rw [hst]; simp)).calStep, rfl⟩, h.pinned⟩

/-- R71: while a segment is in flight its record is in the table, no allocation pends and no calibration runs. -/
theorem SegmentLaw.flight (h : SegmentLaw s) (hopen : segmentOpen s.acq.state = true) :
    ∃ c r, s.acq.ctx = some c ∧ r ∈ s.mem.table ∧ r.seq = c.seq ∧ r.state = .filling ∧ s.mem.pendingAlloc = none ∧
      s.fec.calStep = none := by
  obtain ⟨hn, hctx, hfill, hlast, hpend, hcal⟩ := h
  obtain ⟨c, hc⟩ := Option.isSome_iff_exists.1 (hctx.trans hopen)
  obtain ⟨r, hr, hseq⟩ := Option.map_eq_some_iff.1 (hlast c hc)
  have hmem := List.mem_of_getLast? hr
  have pend : ¬ s.mem.pendingAlloc.isSome = true := fun hs => by rw [hpend.1 hs] at hopen; cases hopen
  have cal : ¬ s.fec.calStep.isSome = true := fun hs => by rw [hcal.1 hs] at hopen; cases hopen
  exact ⟨c, r, hc, hmem, hseq, (hfill r hmem).2 (by rw [hc, hseq]; rfl), by simpa using pend, by simpa using cal⟩

/-- R109: the FILLING record leaves, and nothing is in flight. -/
theorem discard_law (h : TableLaw false H C s) (hopen : segmentOpen s.acq.state = true) : TableLaw true H C (discard s) := by
  obtain ⟨c, r, hc, hmem, hseq, hf, hpend, hcal⟩ := SegmentLaw.flight h.segs hopen
  obtain ⟨hn, _, hfill, _⟩ := id h.segs
  have pinned := h.pinned.drop hn hmem (h.pinned.filling r hmem hf)
  have pending : (dropSegment r.seq s).mem.pendingAlloc = none := (dropSegment_pendingAlloc _ s).trans hpend
  have removed : removeSegment r.seq s = dropSegment r.seq s := retryPending_of_none pending
  have left := leavePhase_seen (dropSegment r.seq s)
  have mem : (leavePhase (dropSegment r.seq s)).mem = (dropSegment r.seq s).mem := by rw [leavePhase_only]
  have calStep : (leavePhase (dropSegment r.seq s)).fec.calStep = none := by
    rw [(leavePhase_rederives _).calStep, dropSegment_only]; exact hcal
  have gone : discard s = { stopAutoWait (leavePhase (dropSegment r.seq s)) with
      acq := { (leavePhase (dropSegment r.seq s)).acq with forcePending := false, ctx := none } } := by
    unfold discard
    rw [hc]
    dsimp only
    rw [← hseq, removed]
    rfl
  rw [gone]
  refine ⟨⟨⟨?_, rfl, fun x hx => ?_, calStep⟩, ?_⟩, ?_⟩
  · exact mem ▸ dropSegment_nodup hn _
  · obtain ⟨hx, hne⟩ := (mem_dropSegment hn).1 (mem ▸ hx)
    intro hxf
    have := (hfill x hx).1 hxf
    rw [hc] at this
    exact hne ((Option.some.inj this).symm.trans hseq.symm)
  · exact mem ▸ pending
  · exact mem ▸ pinned

/-- R106: the record of a completed segment. -/
theorem completed_pinned {c : Capture} {r : SegRec} (hp : Pinned H C s.mem.table) (hn : (s.mem.table.map (·.seq)).Nodup)
    (hr : r ∈ s.mem.table) (hseq : r.seq = c.seq) (hf : r.state = .filling) (start : Instant) :
    Pinned H C (modSeg c.seq (completedRecord c start) s).mem.table := by
  have hu := hp.filling r hr hf
  have one : ∀ x ∈ s.mem.table, x.seq = c.seq → x = r := fun x hx e => eq_of_seq hn hx hr (e.trans hseq.symm)
  have same : ∀ x : SegRec, (if x.seq == c.seq then completedRecord c start x else x).seq = x.seq ∧
      (if x.seq == c.seq then completedRecord c start x else x).pins = x.pins := by
    intro x; split <;> exact ⟨rfl, rfl⟩
  have other : ∀ x : SegRec, x.seq ≠ c.seq → (if x.seq == c.seq then completedRecord c start x else x) = x := by
    intro x hx; simp [hx]
  refine ⟨fun x hx k => ?_, fun x hx hxf => ?_, fun x hx hxs => ?_, fun k q hq => ?_, fun q hq => ?_, hp.held⟩
  · obtain ⟨y, hy, rfl⟩ := List.mem_map.1 hx
    rw [(same y).1, (same y).2]
    exact hp.pins y hy k
  · obtain ⟨y, hy, rfl⟩ := List.mem_map.1 hx
    by_cases e : y.seq = c.seq
    · simp [e, completedRecord] at hxf
    · rw [other y e] at hxf ⊢
      exact hp.filling y hy hxf
  · obtain ⟨y, hy, rfl⟩ := List.mem_map.1 hx
    by_cases e : y.seq = c.seq
    · simp [e, completedRecord] at hxs
    · rw [other y e] at hxs ⊢
      exact hp.stale y hy hxs
  · obtain ⟨x, hx, rfl⟩ := hp.present k q hq
    exact ⟨_, List.mem_map_of_mem hx, (same x).1⟩
  · obtain ⟨x, hx, rfl, hxc⟩ := hp.complete q hq
    refine ⟨_, List.mem_map_of_mem hx, (same x).1, ?_⟩
    split
    · rfl
    · exact hxc

/-- R106: a completion leaves a table without a FILLING record, and the segment COMPLETE and without pins. -/
theorem recordCompletion_law {c : Capture} (h : TableLaw false H C s) (hopen : segmentOpen s.acq.state = true)
    (hc : s.acq.ctx = some c) : TableLaw true H C (recordCompletion c s) ∧
      ∃ r, findSeg c.seq (recordCompletion c s) = some r ∧ r.state = .complete ∧ unpinned r = true := by
  obtain ⟨c', r, hc', hmem, hseq, hf, hpend, hcal⟩ := SegmentLaw.flight h.segs hopen
  obtain rfl := Option.some.inj (hc.symm.trans hc')
  obtain ⟨hn, _, hfill, _⟩ := id h.segs
  obtain ⟨mem, acq, _⟩ := recordCompletion_only c s
  have calStep : (recordCompletion c s).fec.calStep = none := by
    rw [recordCompletion_eq]
    exact (leavePhase_rederives _).calStep.trans hcal
  have seqs : ((modSeg c.seq (completedRecord c (s.acq.runStart.getD 0)) s).mem.table.map (·.seq)) = s.mem.table.map (·.seq) := by
    refine (List.map_map ..).trans (List.map_congr_left fun x _ => ?_)
    dsimp only [Function.comp]
    split <;> rfl
  have found : findSeg c.seq (recordCompletion c s) = some (completedRecord c (s.acq.runStart.getD 0) r) := by
    rw [findSeg_congr mem, findSeg_modSeg_self (f := completedRecord c (s.acq.runStart.getD 0)) (fun _ => rfl) s, ← hseq,
      findSeg_of_mem hn hmem]
    rfl
  refine ⟨⟨⟨⟨?_, by rw [acq], fun x hx => ?_, calStep⟩, by rw [mem]; exact hpend⟩, ?_⟩, _, found, rfl,
    h.pinned.filling r hmem hf⟩
  · rw [mem, seqs]; exact hn
  · rw [mem] at hx
    obtain ⟨y, hy, rfl⟩ := List.mem_map.1 hx
    split
    · simp [completedRecord]
    · rename_i e
      intro hyf
      have := (hfill y hy).1 hyf
      rw [hc] at this
      exact e (by simpa using (Option.some.inj this).symm)
  · rw [mem]
    exact completed_pinned h.pinned hn hmem hseq hf _

/-! ### The ends of a run -/

theorem endRun_law (cause : AcqCause) (h : TableLaw false H C s) : TableLaw false H C (endRun cause s) := by
  have ended : segmentOpen s.acq.state = true → TableLaw false H C (enterStopped cause (discard s)) :=
    fun hopen => enterStopped_law cause (discard_law h hopen)
  unfold endRun
  split
  · exact h
  · exact h
  · rename_i hst
    exact enterStopped_law cause ⟨SegmentLaw.between h.segs (by rw [hst]; rfl) (by rw [hst]; simp) (by rw [hst]; simp), h.pinned⟩
  · rename_i hst
    exact enterStopped_law cause (withdraw_law h hst)
  · rename_i hst; exact ended (by rw [hst]; rfl)
  · rename_i hst; exact ended (by rw [hst]; rfl)
  · rename_i hst; exact ended (by rw [hst]; rfl)

theorem captureChange_law (h : TableLaw false H C s) : TableLaw false H C (captureChange s) := by
  have armed : segmentOpen s.acq.state = true → TableLaw false H C (arm (discard s)) := fun hopen => arm_law (discard_law h hopen)
  unfold captureChange
  split
  · exact h
  · exact h
  · exact h
  · rename_i hst
    exact arm_law (withdraw_law h hst)
  · rename_i hst; exact armed (by rw [hst]; rfl)
  · rename_i hst; exact armed (by rw [hst]; rfl)
  · rename_i hst; exact armed (by rw [hst]; rfl)

end

end Sys2Proof.Machine
end

section
/-! PROOF. The laws of the history as one law with its holders named, what an operation keeps, and the operations of ACQ. -/

namespace Sys2Proof.Machine

/-! ### Holders -/

/-- R78: the segments that each holder holds. -/
def holds (s : State) : Holder → Nat → Prop
  | .view, q => s.rnd.viewPin = some q
  | .render, q => q ∈ s.rnd.queue ∨ passSeq s = some q
  | .transfer, q => ∃ ch, transferSource s = some (.segment q ch)
  | .copy, q => copiesFrom q s

/-- R117, R126: the segments that must be COMPLETE: those of the render queue and of the view. -/
def mustBeComplete (s : State) (q : Nat) : Prop := s.rnd.viewPin = some q ∨ q ∈ s.rnd.queue

/-- R85: the slots that RND (`false`) and XFR (`true`) hold. -/
def slotHolds (s : State) : Bool → Fin 4 → Prop
  | false, n => ∃ p, s.rnd.pass = some p ∧ (p.refs[n]).isSome = true
  | true, n => transferSource s = some (.reference n)

/-- R80, R85: the pins of the slots, for holders `R`; one slot at most is COPYING, and exactly while it has a copy. -/
structure SlotLaw (R : Bool → Fin 4 → Prop) (refs : Vector RefSlot 4) : Prop where
  render : ∀ n : Fin 4, refs[n].pinRender = true ↔ R false n
  transfer : ∀ n : Fin 4, refs[n].pinTransfer = true ↔ R true n
  copies : ∀ n : Fin 4, refs[n].state = .copying ↔ refs[n].copy.isSome = true
  one : ∀ n m : Fin 4, refs[n].state = .copying → refs[m].state = .copying → n = m

/-- R117: the render queue holds no seq twice, and not that of the pass. -/
def QueueLaw (s : State) : Prop := s.rnd.queue.Nodup ∧ ∀ q, passSeq s = some q → q ∉ s.rnd.queue

/-- R70, R71, R78, R117: the laws of the segments and of their pins, for holders `H` and `R`. -/
structure Law (between : Bool) (H : Holder → Nat → Prop) (R : Bool → Fin 4 → Prop) (C : Nat → Prop) (s : State) : Prop where
  table : TableLaw between H C s
  slots : SlotLaw R s.mem.refs
  queue : QueueLaw s

/-- The same with the holders that the state shows. -/
def Held (between : Bool) (s : State) : Prop := Law between (holds s) (slotHolds s) (mustBeComplete s) s

theorem mustBeComplete_held {s : State} (q : Nat) (h : mustBeComplete s q) : ∃ k, holds s k q := by
  rcases h with h | h
  · exact ⟨.view, h⟩
  · exact ⟨.render, .inl h⟩

theorem historyLaw_iff (s : State) : HistoryLaw s ↔ Held false s ∧ TransferLaw s := by
  constructor
  · rintro ⟨hseg, ⟨hrec, hslot, hone, hnodup, hpass, hcomplete, hpresent⟩, hxfr⟩
    refine ⟨⟨⟨hseg, ⟨fun r hr k => ?_, fun r hr => ?_, fun r hr => ?_, fun k q hq => ?_, hcomplete, mustBeComplete_held⟩⟩,
      ⟨fun n => (hslot n).1, fun n => (hslot n).2.1, fun n => (hslot n).2.2, hone⟩, hnodup, hpass⟩, hxfr⟩
    · obtain ⟨hv, hre, ht, hc, _, _⟩ := hrec r hr
      cases k with
      | view => exact hv
      | render => exact hre
      | transfer => exact ht
      | copy => exact hc
    · obtain ⟨_, _, _, _, hf, _⟩ := hrec r hr; exact hf
    · obtain ⟨_, _, _, _, _, hst⟩ := hrec r hr; exact hst
    · cases k with
      | view => obtain ⟨r, hr, hseq, _⟩ := hcomplete q (.inl hq); exact ⟨r, hr, hseq⟩
      | render =>
        rcases hq with hq | hq
        · obtain ⟨r, hr, hseq, _⟩ := hcomplete q (.inr hq); exact ⟨r, hr, hseq⟩
        · exact hpresent q (.inl hq)
      | transfer => exact hpresent q (.inr (.inl hq))
      | copy => exact hpresent q (.inr (.inr hq))
  · rintro ⟨⟨⟨hseg, hp⟩, hslot, hnodup, hpass⟩, hxfr⟩
    refine ⟨hseg, ⟨fun r hr => ⟨hp.pins r hr .view, hp.pins r hr .render, hp.pins r hr .transfer, hp.pins r hr .copy,
      hp.filling r hr, hp.stale r hr⟩, fun n => ⟨hslot.render n, hslot.transfer n, hslot.copies n⟩, hslot.one, hnodup, hpass,
      hp.complete, fun q hq => ?_⟩, hxfr⟩
    rcases hq with hq | hq | hq
    · exact hp.present .render q (.inr hq)
    · exact hp.present .transfer q hq
    · exact hp.present .copy q hq

/-- The holders are read off RND, XFR and the slots. -/
theorem holds_congr {s t : State} (hr : t.rnd = s.rnd) (hx : t.xfr = s.xfr) (hm : t.mem.refs = s.mem.refs) : holds t = holds s := by
  funext k q
  cases k <;> simp only [holds, passSeq, transferSource, copiesFrom, hr, hx, hm]

theorem slotHolds_congr {s t : State} (hr : t.rnd = s.rnd) (hx : t.xfr = s.xfr) : slotHolds t = slotHolds s := by
  funext b n
  cases b <;> simp only [slotHolds, transferSource, hr, hx]

theorem mustBeComplete_congr {s t : State} (hr : t.rnd = s.rnd) : mustBeComplete t = mustBeComplete s := by
  funext q
  simp only [mustBeComplete, hr]

theorem QueueLaw.congr {s t : State} (h : QueueLaw s) (hr : t.rnd = s.rnd) : QueueLaw t := by
  unfold QueueLaw passSeq at *; rwa [hr]

theorem holds_seen {s t : State} (h : lawParts t = lawParts s) : holds t = holds s := by
  simp only [lawParts, Prod.mk.injEq] at h
  obtain ⟨_, ⟨_, _, _, _, hrefs⟩, _, ⟨hqueue, hpass, hview⟩, hsource, _⟩ := h
  funext k q
  cases k <;> simp only [holds, passSeq, copiesFrom, hqueue, hpass, hview, hsource, hrefs]

theorem slotHolds_seen {s t : State} (h : lawParts t = lawParts s) : slotHolds t = slotHolds s := by
  simp only [lawParts, Prod.mk.injEq] at h
  obtain ⟨_, _, _, ⟨_, hpass, _⟩, hsource, _⟩ := h
  funext b n
  cases b <;> simp only [slotHolds, hpass, hsource]

theorem mustBeComplete_seen {s t : State} (h : lawParts t = lawParts s) : mustBeComplete t = mustBeComplete s := by
  simp only [lawParts, Prod.mk.injEq] at h
  obtain ⟨_, _, _, ⟨hqueue, _, hview⟩, _, _⟩ := h
  funext q
  simp only [mustBeComplete, hqueue, hview]

theorem Law.seen {b : Bool} {H : Holder → Nat → Prop} {R : Bool → Fin 4 → Prop} {C : Nat → Prop} {s t : State} (h : Law b H R C s)
    (hp : lawParts t = lawParts s) : Law b H R C t := by
  refine ⟨h.table.seen hp, ?_, ?_⟩
  · have refs : t.mem.refs = s.mem.refs := congrArg (fun p => p.2.1.2.2.2.2) hp
    rw [refs]; exact h.slots
  · simp only [lawParts, Prod.mk.injEq] at hp
    obtain ⟨_, _, _, ⟨hqueue, hpass, _⟩, _, _⟩ := hp
    have := h.queue
    unfold QueueLaw passSeq at *
    rwa [hqueue, hpass]

theorem Held.seen {b : Bool} {s t : State} (h : Held b s) (hp : lawParts t = lawParts s) : Held b t := by
  unfold Held
  rw [holds_seen hp, slotHolds_seen hp, mustBeComplete_seen hp]
  exact Law.seen h hp

/-! ### What an operation keeps -/

/-- R66: once start-up has placed the pages: each is in one place, and the copies of the slots stand as R79 has them. -/
def Placed (m : Mem) : Prop :=
  m.bad.Nodup ∧ (∀ p ∈ m.bad, p < Config.pageCount) ∧ (pagesInUse m ++ m.bad).Perm (List.range Config.pageCount) ∧
  ∀ n : Fin 4, (m.refs[n].state = .copying ↔ m.refs[n].copy.isSome = true) ∧
    ∀ c, m.refs[n].copy = some c → c.phase = .waitSetup → c.pages = []

/-- What an operation of the device in use keeps but for the history. -/
structure Tidy (s t : State) : Prop where
  startUp : t.lnk.startUp = s.lnk.startUp
  stores : StoresCanonical s → StoresCanonical t
  placed : Placed s.mem → Placed t.mem
  transfer : TransferLaw s → TransferLaw t

namespace Tidy

theorem refl (s : State) : Tidy s s := ⟨rfl, id, id, id⟩

theorem trans {s t u : State} (h : Tidy s t) (k : Tidy t u) : Tidy s u :=
  ⟨k.startUp.trans h.startUp, k.stores ∘ h.stores, k.placed ∘ h.placed, k.transfer ∘ h.transfer⟩

theorem foldl {α : Type} {f : State → α → State} (hf : ∀ s x, Tidy s (f s x)) (xs : List α) (s : State) :
    Tidy s (xs.foldl f s) := by
  induction xs generalizing s with
  | nil => exact refl s
  | cons x rest ih => exact (hf s x).trans (ih (f s x))

end Tidy

/-- R66: the pages that are placed are read off the pool, the table and the slots. -/
theorem Placed.of_perm {m m' : Mem} (h : Placed m) (hbad : m'.bad = m.bad) (hrefs : m'.refs = m.refs)
    (hp : (segmentPages m').Perm (segmentPages m)) : Placed m' := by
  obtain ⟨hn, hlt, hperm, hslots⟩ := h
  refine ⟨by rw [hbad]; exact hn, by rw [hbad]; exact hlt, ?_, by rw [hrefs]; exact hslots⟩
  rw [hbad]
  refine List.Perm.trans (.append_right _ ?_) hperm
  show (segmentPages m' ++ _).Perm (segmentPages m ++ _)
  rw [hrefs]
  exact hp.append_right _

theorem Quiet.tidy {s t : State} (h : Quiet s t) : Tidy s t where
  startUp := h.startUp
  stores := h.stores
  placed hp := by
    have hparts := h.parts
    simp only [lawParts, Prod.mk.injEq] at hparts
    obtain ⟨_, ⟨hbad, hpool, htable, _, hrefs⟩, _, _, _, _⟩ := hparts
    exact hp.of_perm hbad hrefs (by simp only [segmentPages, hpool, htable]; exact .refl _)
  transfer := h.transfer

theorem Released.tidy {s t : State} (h : Released s t) : Tidy s t where
  startUp := h.startUp
  stores hs := by
    obtain ⟨dram, planes, cmp⟩ := (storesCanonical_iff s).1 hs
    exact (storesCanonical_iff t).2 ⟨by rw [h.dram]; exact dram, by rw [h.rnd]; exact planes, by rw [h.cmp]; exact cmp⟩
  placed hp := hp.of_perm h.bad h.refs h.pages
  transfer hx := by unfold TransferLaw at *; rw [h.xfr]; exact hx

/-- What an operation keeps: it leads from a table with a segment in flight or none (`false`), or between two (`true`), to such a
one. -/
structure Keeps (b b' : Bool) (s t : State) : Prop where
  tidy : Tidy s t
  held : Held b s → Held b' t

namespace Keeps

theorem refl (b : Bool) (s : State) : Keeps b b s s := ⟨.refl s, id⟩

theorem trans {b b' b'' : Bool} {s t u : State} (h : Keeps b b' s t) (k : Keeps b' b'' t u) : Keeps b b'' s u :=
  ⟨h.tidy.trans k.tidy, k.held ∘ h.held⟩

theorem foldl {α : Type} {b : Bool} {f : State → α → State} (hf : ∀ s x, Keeps b b s (f s x)) (xs : List α) (s : State) :
    Keeps b b s (xs.foldl f s) := by
  induction xs generalizing s with
  | nil => exact refl b s
  | cons x rest ih => exact (hf s x).trans (ih (f s x))

/-- A change that moves no pin and no slot. -/
theorem of_released {b b' : Bool} {s t : State} (h : Released s t) (k : ∀ H C, TableLaw b H C s → TableLaw b' H C t) :
    Keeps b b' s t where
  tidy := h.tidy
  held hs := by
    unfold Held
    rw [holds_congr h.rnd h.xfr h.refs, slotHolds_congr h.rnd h.xfr, mustBeComplete_congr h.rnd]
    exact ⟨k _ _ hs.table, by rw [h.refs]; exact hs.slots, hs.queue.congr h.rnd⟩

end Keeps

theorem Quiet.keeps {s t : State} (h : Quiet s t) (b : Bool) : Keeps b b s t := ⟨h.tidy, fun hs => hs.seen h.parts⟩

theorem Keeps.of_seen {b : Bool} {s t : State} (h : seenParts t = seenParts s) : Keeps b b s t := (Quiet.of_seen h).keeps b

/-! ### ACQ -/

theorem arm_keeps (s : State) : Keeps true false s (arm s) := .of_released (arm_released s) (fun _ _ => arm_law)

theorem enterStopped_keeps (cause : AcqCause) (s : State) : Keeps true false s (enterStopped cause s) :=
  .of_released (enterStopped_released cause s) (fun _ _ => enterStopped_law cause)

theorem endRun_keeps (cause : AcqCause) (s : State) : Keeps false false s (endRun cause s) :=
  .of_released (endRun_released cause s) (fun _ _ => endRun_law cause)

theorem captureChange_keeps (s : State) : Keeps false false s (captureChange s) :=
  .of_released (captureChange_released s) (fun _ _ => captureChange_law)

theorem acqTrip_keeps (s : State) : Keeps false false s (acqTrip s) := by
  rw [acqTrip_eq]
  split
  · exact endRun_keeps _ s
  · exact captureChange_keeps s

theorem tripChannel_keeps (ch : Channel) (s : State) : Keeps false false s (tripChannel ch s) := by
  rw [tripChannel_eq]
  exact ((soundedTrip_quiet ch s).keeps false).trans (acqTrip_keeps _)

theorem checkTrips_keeps (s : State) : Keeps false false s (checkTrips s) := by
  refine Keeps.foldl (fun t n => ?_) channels s
  split
  · exact tripChannel_keeps n t
  · exact .refl false t

theorem senseActive_keeps (ch : Channel) (s : State) : Keeps false false s (senseActive ch s) := by
  have sensed : Keeps false false s { s with fec := { s.fec with sense := s.fec.sense.set ch true } } :=
    .of_seen rfl
  unfold senseActive
  dsimp only
  split
  · exact sensed.trans (tripChannel_keeps ch _)
  · exact sensed

theorem deriveDrives_keeps (b : Bool) (s : State) : Keeps b b s (deriveDrives s) := .of_seen (deriveDrives_seen s)

theorem clearProtectChannel_keeps (ch : Channel) (s : State) : Keeps false false s (clearProtectChannel ch s) := by
  have cleared : Keeps false false s (clearLatch ch s) := .of_seen rfl
  unfold clearProtectChannel
  dsimp only
  split
  · exact cleared
  · exact ((cleared.trans (deriveDrives_keeps false _)).trans (.of_seen (extendSettle_seen _ _))).trans
      (captureChange_keeps _)

theorem clearProtectOf_keeps (tag : Byte) (p : List Byte) (s : State) : Keeps false false s (clearProtectOf tag p s) := by
  have answered : ∀ st t, Keeps false false t (reply 0x35 tag st .empty t) := fun st t => (reply_quiet ..).keeps false
  unfold clearProtectOf
  split
  · exact answered _ s
  · split
    · exact answered _ s
    · split
      · split
        · exact answered _ s
        · exact (clearProtectChannel_keeps _ s).trans (answered _ _)
      · exact answered _ s

theorem settleExpires_keeps (s : State) : Keeps false false s (settleExpires s) := by
  unfold settleExpires
  split
  · exact .refl false s
  · rename_i d _
    have idle : Keeps false false s (reach d { s with fec := { s.fec with settle := none } }) := .of_seen rfl
    dsimp only
    split
    · rename_i hst
      exact idle.trans (.of_released (requestAllocation_released _) fun H C h =>
        requestAllocation_law ⟨SegmentLaw.between h.segs (by rw [hst]; rfl) (by rw [hst]; simp) (by rw [hst]; simp), h.pinned⟩)
    · exact idle

/-! ### Calibration -/

/-- ACQ leaves STOPPED for CALIBRATING, and FEC begins the first step. -/
theorem calStarts_keeps {s : State} (hst : s.acq.state = .stopped) : Keeps false false s (calStarts s) := by
  have started : Keeps false false s { s with
      fec := { s.fec with staged := .replicate 52 0, calStep := some 0, calSum := 0, calCodes := 0 }
      acq := { s.acq with state := .calibrating } } := by
    refine ⟨⟨rfl, id, id, id⟩, fun h => ⟨⟨?_, h.table.pinned⟩, h.slots, h.queue⟩⟩
    obtain ⟨hn, hctx, hfill, hlast, hpend, _⟩ := h.table.segs
    refine ⟨hn, by rw [hctx, hst]; rfl, hfill, hlast, ?_, by simp⟩
    rw [hst] at hpend
    simpa using hpend
  have driven := applyDrives_seen (.replicate 4 calDrive) { s with
      fec := { s.fec with staged := .replicate 52 0, calStep := some 0, calSum := 0, calCodes := 0 }
      acq := { s.acq with state := .calibrating } }
  have same : setAcq .calibrating (applyDrives (.replicate 4 calDrive) { s with
        fec := { s.fec with staged := .replicate 52 0, calStep := some 0, calSum := 0, calCodes := 0 } }) =
      applyDrives (.replicate 4 calDrive) { s with
        fec := { s.fec with staged := .replicate 52 0, calStep := some 0, calSum := 0, calCodes := 0 }
        acq := { s.acq with state := .calibrating } } := by
    unfold applyDrives extendSettle
    split <;> simp_all [setAcq]
  unfold calStarts reportAcq
  dsimp only
  rw [same]
  exact (started.trans (.of_seen driven)).trans ((offer_quiet _ _).keeps false)

/-- R39: in CALIBRATING, or with a calibration step in progress, nothing else is. -/
theorem calEnds_keeps (o : CalOutcome) (f : Option CalFailure) (cause : AcqCause) {s : State}
    (h : s.acq.state = .calibrating ∨ s.fec.calStep.isSome = true) : Keeps false false s (calEnds o f cause s) := by
  have idle : Keeps false true s { s with fec := { s.fec with calStep := none, calSum := 0, calCodes := 0 } } := by
    refine ⟨⟨rfl, id, id, id⟩, fun hs => ⟨⟨?_, hs.table.pinned⟩, hs.slots, hs.queue⟩⟩
    obtain ⟨hn, hctx, hfill, _, hpend, hcal⟩ := hs.table.segs
    have hst : s.acq.state = .calibrating := h.elim id hcal.1
    have none : s.acq.ctx = none := by rw [hst] at hctx; simpa [segmentOpen] using hctx
    refine ⟨⟨hn, none, fun r hr hf => ?_, rfl⟩, ?_⟩
    · have := (hfill r hr).1 hf
      rw [none] at this; cases this
    · rw [hst] at hpend; simpa using hpend
  unfold calEnds
  exact (((idle.trans (deriveDrives_keeps true _)).trans ((offer_quiet _ _).keeps true)).trans (enterStopped_keeps cause _)).trans
    (checkTrips_keeps _)

theorem calStepEnds_keeps (sum : Nat) (s : State) : Keeps false false s (calStepEnds sum s) := by
  unfold calStepEnds
  split
  · exact .refl false s
  · rename_i k hk
    have some : s.fec.calStep.isSome = true := by rw [hk]; rfl
    dsimp only
    split
    · exact .refl false s
    · split
      · exact calEnds_keeps _ _ _ (.inr some)
      · have staged : Keeps false false s { s with fec := { s.fec with
            staged := s.fec.staged.set k (clampInt (-32) 31 (calValue s.fec.calSum)) } } := .of_seen rfl
        split
        · exact staged.trans (.of_seen (setCalScale_seen some))
        · have adopted : ∀ t, Keeps false false t (adoptStaged t) := fun t => .of_seen rfl
          exact (staged.trans (adopted _)).trans (calEnds_keeps .ok none .request (.inr some))

theorem calibrateOf_keeps (tag : Byte) (p : List Byte) (s : State) : Keeps false false s (calibrateOf tag p s) := by
  have answered : ∀ st t, Keeps false false t (reply 0x34 tag st .empty t) := fun st t => (reply_quiet ..).keeps false
  unfold calibrateOf
  split
  · exact answered _ s
  · split
    · exact answered _ s
    · split
      · exact answered _ s
      · split
        · rename_i hst
          exact (answered _ s).trans (calStarts_keeps hst)
        · exact answered _ s

theorem lockLost_keeps (s : State) : Keeps false false s (lockLost s) := by
  have unlocked : Keeps false false s { s with fec := { s.fec with locked := false } } := .of_seen rfl
  have faulted := unlocked.trans ((latchCondition_quiet .clockFault (.acqState s.acq.state) _).keeps false)
  unfold lockLost
  dsimp only
  split
  · rename_i h
    exact (faulted.trans (calEnds_keeps _ _ _ (.inr h))).trans (endRun_keeps _ _)
  · exact faulted.trans (endRun_keeps _ _)

end Sys2Proof.Machine
end

section
/-! PROOF. RND's pins: the start of a pass and the render queue keep the laws. -/

namespace Sys2Proof.Machine

/-! ### Small changes -/

/-- A change of RND alone that keeps its planes canonical. -/
theorem Tidy.of_rnd {s : State} {r : Rnd} (h : PlanesCanonical s.rnd → PlanesCanonical r) : Tidy s { s with rnd := r } where
  startUp := rfl
  stores := fun ⟨dram, planes, cmp⟩ => ⟨dram, h planes, cmp⟩
  placed := id
  transfer := id

/-- Fewer segments must be COMPLETE. -/
theorem Pinned.mono {H : Holder → Nat → Prop} {C C' : Nat → Prop} {table : List SegRec} (hp : Pinned H C table)
    (hC : ∀ q, C' q → C q) : Pinned H C' table :=
  ⟨hp.pins, hp.filling, hp.stale, hp.present, fun q hq => hp.complete q (hC q hq), fun q hq => hp.held q (hC q hq)⟩

/-- The laws of the table are not RND's. -/
theorem TableLaw.withRnd {b : Bool} {H : Holder → Nat → Prop} {C : Nat → Prop} {s : State} (h : TableLaw b H C s) (r : Rnd) :
    TableLaw b H C { s with rnd := r } := by
  refine ⟨?_, h.pinned⟩
  have := h.segs
  cases b with
  | true => exact ⟨⟨this.1.nodup, this.1.ctx, this.1.filling, this.1.calStep⟩, this.2⟩
  | false => exact this

/-- Nor are they the slots'. -/
theorem TableLaw.withRefs {b : Bool} {H : Holder → Nat → Prop} {C : Nat → Prop} {s : State} (h : TableLaw b H C s)
    (refs : Vector RefSlot 4) : TableLaw b H C { s with mem := { s.mem with refs := refs } } := by
  refine ⟨?_, h.pinned⟩
  have := h.segs
  cases b with
  | true => exact ⟨⟨this.1.nodup, this.1.ctx, this.1.filling, this.1.calStep⟩, this.2⟩
  | false => exact this

/-! ### The pins of references -/

/-- R122 step 4: a slot after a REDRAW has pinned what it shows. -/
def renderPinned (visible : Bool) (r : RefSlot) : RefSlot :=
  if visible = true ∧ r.contents.isSome = true then { r with pinRender := true } else r

@[simp] theorem renderPinned_copy (v : Bool) (r : RefSlot) : (renderPinned v r).copy = r.copy := by unfold renderPinned; split <;> rfl
@[simp] theorem renderPinned_state (v : Bool) (r : RefSlot) : (renderPinned v r).state = r.state := by unfold renderPinned; split <;> rfl
@[simp] theorem renderPinned_pages (v : Bool) (r : RefSlot) : (renderPinned v r).pages = r.pages := by unfold renderPinned; split <;> rfl
@[simp] theorem renderPinned_contents (v : Bool) (r : RefSlot) : (renderPinned v r).contents = r.contents := by
  unfold renderPinned; split <;> rfl
@[simp] theorem renderPinned_pinTransfer (v : Bool) (r : RefSlot) : (renderPinned v r).pinTransfer = r.pinTransfer := by
  unfold renderPinned; split <;> rfl

theorem modRef_get (n m : Fin 4) (f : RefSlot → RefSlot) (s : State) :
    (modRef n f s).mem.refs[m] = if n = m then f s.mem.refs[n] else s.mem.refs[m] := by
  by_cases h : n = m
  · subst h; simp [vmod]
  · have hv : n.val ≠ m.val := fun e => h (Fin.ext e)
    simp [vmod, hv, h]

/-- R122 step 4: the slots after the pins of a REDRAW, and nothing else moves. -/
theorem pinVisibleRefs_spec (s : State) : pinVisibleRefs s = { s with mem := { s.mem with refs := (pinVisibleRefs s).mem.refs } } ∧
    ∀ m : Fin 4, (pinVisibleRefs s).mem.refs[m] = renderPinned (refVisible s.setup m) s.mem.refs[m] := by
  have one : ∀ (n : Channel) (t : State), (if refVisible t.setup n then (pinRef false n t).1 else t) =
      { t with mem := { t.mem with refs := vmod t.mem.refs n (renderPinned (refVisible t.setup n)) } } := by
    intro n t
    have same : vmod t.mem.refs n (renderPinned false) = t.mem.refs := by simp [vmod, renderPinned]
    have empty : t.mem.refs[n].contents.isSome = false → vmod t.mem.refs n (renderPinned true) = t.mem.refs := by
      intro h
      have : renderPinned true t.mem.refs[n] = t.mem.refs[n] := by simp only [renderPinned, h]; rfl
      unfold vmod
      rw [this]
      simp
    cases hv : refVisible t.setup n with
    | false => rw [same]; rfl
    | true =>
      rw [if_pos rfl]
      unfold pinRef
      split
      · rename_i hc
        have pinned : renderPinned true t.mem.refs[n] = { t.mem.refs[n] with pinRender := true } := by
          simp only [renderPinned, hc]; rfl
        unfold modRef vmod
        rw [pinned]
        rfl
      · rename_i hc
        rw [empty (by simpa using hc)]
  have all : ∀ (ns : List Channel) (t : State), ns.Nodup →
      ns.foldl (fun t n => if refVisible t.setup n then (pinRef false n t).1 else t) t = { t with mem := { t.mem with refs :=
        (ns.foldl (fun t n => if refVisible t.setup n then (pinRef false n t).1 else t) t).mem.refs } } ∧
      ∀ m : Fin 4, (ns.foldl (fun t n => if refVisible t.setup n then (pinRef false n t).1 else t) t).mem.refs[m] =
        if m ∈ ns then renderPinned (refVisible t.setup m) t.mem.refs[m] else t.mem.refs[m] := by
    intro ns
    induction ns with
    | nil => exact fun t _ => ⟨rfl, fun m => by simp⟩
    | cons n rest ih =>
      intro t hn
      obtain ⟨hnew, hrest⟩ := List.nodup_cons.1 hn
      rw [List.foldl_cons, one]
      obtain ⟨only, refs⟩ := ih { t with mem := { t.mem with refs := vmod t.mem.refs n (renderPinned (refVisible t.setup n)) } } hrest
      refine ⟨only, fun m => (refs m).trans ?_⟩
      have got := modRef_get n m (renderPinned (refVisible t.setup n)) t
      dsimp only [modRef] at got
      by_cases hm : n = m
      · subst hm
        rw [if_neg hnew, got, if_pos rfl, if_pos (List.mem_cons_self ..)]
      · simp only [List.mem_cons, Ne.symm hm, false_or, got, if_neg hm]
  obtain ⟨only, refs⟩ := all channels s (by decide)
  refine ⟨only, fun m => (refs m).trans (if_pos (mem_channels m))⟩

/-! ### The queue -/

/-- R118: releases of RENDER, one after another. -/
theorem releaseAll_law {b : Bool} {C : Nat → Prop} (qs : List Nat) {H : Holder → Nat → Prop} {s : State} (h : TableLaw b H C s)
    (hC : ∀ q, C q → H .view q) :
    TableLaw b (fun k q => H k q ∧ ¬ (k = .render ∧ q ∈ qs)) C (qs.foldl (fun s q => releaseSegPin .render q s) s) := by
  induction qs generalizing H s with
  | nil => exact h.congr (fun k q => by simp) (fun _ => Iff.rfl)
  | cons x rest ih =>
    have view : ∀ q, C q → without .render x H .view q := fun q hq => ⟨hC q hq, by simp⟩
    have first := releaseSegPin_law h .render x (fun q hq => ⟨.view, view q hq⟩)
    refine (ih first view).congr (fun k q => ?_) (fun _ => Iff.rfl)
    simp only [without, List.mem_cons]
    tauto

theorem releaseAll_released (qs : List Nat) (s : State) : Released s (qs.foldl (fun s q => releaseSegPin .render q s) s) :=
  .foldl (fun t q => releaseSegPin_released .render q t) qs s

/-- R118: after the emptying of the queue RND holds the view and the pass, and what `H` has beside its queue. -/
theorem emptyQueue_law {b : Bool} {H : Holder → Nat → Prop} {C : Nat → Prop} (keep : Option Nat) {s : State} (h : TableLaw b H C s)
    (hview : ∀ q, s.rnd.viewPin = some q → C q ∧ H .view q) :
    TableLaw b (fun k q => H k q ∧ ¬ (k = .render ∧ q ∈ s.rnd.queue ∧ some q ≠ keep)) (fun q => s.rnd.viewPin = some q)
      (emptyQueue keep s) := by
  have emptied : TableLaw b H (fun q => s.rnd.viewPin = some q) { s with rnd := { s.rnd with queue := [] } } :=
    ⟨(h.withRnd _).segs, h.pinned.mono (fun q hq => (hview q hq).1)⟩
  refine (releaseAll_law _ emptied (fun q hq => (hview q hq).2)).congr (fun k q => ?_) (fun _ => Iff.rfl)
  simp [List.mem_filter]

theorem emptyQueue_released (keep : Option Nat) (s : State) :
    Released { s with rnd := { s.rnd with queue := [] } } (emptyQueue keep s) := releaseAll_released _ _

theorem emptyQueue_keeps (b : Bool) (s : State) : Keeps b b s (emptyQueue none s) := by
  have released := emptyQueue_released none s
  refine ⟨(Tidy.of_rnd (s := s) (r := { s.rnd with queue := [] }) id).trans released.tidy, fun h => ?_⟩
  unfold Held
  rw [holds_congr released.rnd released.xfr released.refs, slotHolds_congr released.rnd released.xfr,
    mustBeComplete_congr released.rnd]
  refine ⟨(emptyQueue_law none h.table (fun q hq => ⟨.inl hq, hq⟩)).congr (fun k q => ?_) (fun q => ?_), by rw [released.refs]; exact h.slots,
    QueueLaw.congr ⟨List.nodup_nil, fun _ _ => List.not_mem_nil⟩ released.rnd⟩
  · cases k with
    | render =>
      have := h.queue.2 q
      simp only [holds, passSeq] at this ⊢
      simp only [List.not_mem_nil, false_or, ne_eq, reduceCtorEq, not_false_eq_true, and_true, true_and]
      tauto
    | view => simp [holds]
    | transfer => simp [holds, transferSource]
    | copy => simp [holds, copiesFrom]
  · simp [mustBeComplete]

/-! ### The start of a pass -/

/-- R122 step 2: the viewed segment is pinned RENDER, or nothing is. -/
theorem pinViewed_cases (s : State) : (pinViewed s = (s, none)) ∨
    ∃ q, (pinSegment .render q s).2 = true ∧ pinViewed s = ((pinSegment .render q s).1, some q) := by
  unfold pinViewed
  split
  · exact .inl rfl
  · rename_i q _
    split
    · rename_i hg; exact .inr ⟨q, hg, rfl⟩
    · exact .inl rfl

/-- R122 step 2: what holds RENDER once the viewed segment is pinned. -/
theorem pinViewed_law {b : Bool} {H : Holder → Nat → Prop} {C : Nat → Prop} {s : State} (h : TableLaw b H C s) :
    TableLaw b (fun k q => H k q ∨ (k = .render ∧ (pinViewed s).2 = some q)) C (pinViewed s).1 := by
  rcases pinViewed_cases s with he | ⟨q, hg, he⟩
  · rw [he]
    exact h.congr (fun k q => by simp) (fun _ => Iff.rfl)
  · rw [he]
    exact (pinSegment_law h hg).congr (fun k x => by simp only [withPin, Option.some.injEq]; exact Iff.rfl.or (and_congr_right fun _ => eq_comm))
      (fun _ => Iff.rfl)

theorem pinViewed_released (s : State) : Released s (pinViewed s).1 := by
  rcases pinViewed_cases s with he | ⟨q, _, he⟩
  · rw [he]; exact .refl s
  · rw [he]; exact pinSegment_released ..

/-- R122 steps 2 to 4, before the pass is entered. -/
def redrawPinned (s : State) : State :=
  pinVisibleRefs (emptyQueue (pinViewed { s with rnd := { s.rnd with redraw := false } }).2
    (pinViewed { s with rnd := { s.rnd with redraw := false } }).1)

/-- R122: the pass that a REDRAW starts. -/
def redrawPass (s : State) : Pass :=
  { kind := .redraw
    seg := (pinViewed { s with rnd := { s.rnd with redraw := false } }).2.bind (fun q => findSeg q (redrawPinned s))
    refs := .ofFn (fun n => refData n (redrawPinned s)), setup := (redrawPinned s).setup }

theorem startRedraw_eq (s : State) : startRedraw s = { redrawPinned s with rnd := { (redrawPinned s).rnd with
    work := .replicate 8 [], workTab := .replicate 8 [], pass := some (redrawPass s) } } := by
  simp only [startRedraw, redrawPass, redrawPinned]

/-- R122: before the pass is entered, RND holds the view and the viewed segment; the visible slots with contents are pinned. -/
theorem redrawPinned_spec (s : State) : ∃ u, Released { s with rnd := { s.rnd with redraw := false, queue := [] } } u ∧
    redrawPinned s = { u with mem := { u.mem with refs := (redrawPinned s).mem.refs } } ∧
    (∀ m : Fin 4, (redrawPinned s).mem.refs[m] = renderPinned (refVisible s.setup m) s.mem.refs[m]) ∧
    ∀ b H C, TableLaw b H C s → (∀ q, s.rnd.viewPin = some q → C q ∧ H .view q) →
      TableLaw b (fun k q => (H k q ∧ ¬ (k = .render ∧ q ∈ s.rnd.queue)) ∨
        (k = .render ∧ (pinViewed { s with rnd := { s.rnd with redraw := false } }).2 = some q)) (fun q => s.rnd.viewPin = some q) u := by
  have viewed := pinViewed_released { s with rnd := { s.rnd with redraw := false } }
  have law := fun b H C (h : TableLaw b H C s) => pinViewed_law (h.withRnd { s.rnd with redraw := false })
  unfold redrawPinned
  generalize pinViewed { s with rnd := { s.rnd with redraw := false } } = pv at *
  obtain ⟨v, keep⟩ := pv
  dsimp only at *
  have rnd : v.rnd = { s.rnd with redraw := false } := viewed.rnd
  have emptied := emptyQueue_released keep v
  have from_ : Released { s with rnd := { s.rnd with redraw := false, queue := [] } } { v with rnd := { v.rnd with queue := [] } } := by
    rw [rnd]
    refine ⟨?_, viewed.calStep, viewed.startUp, viewed.dram, viewed.bad, viewed.refs, viewed.pages⟩
    conv_lhs => rw [show v = _ from viewed.only]
  obtain ⟨only, refs⟩ := pinVisibleRefs_spec (emptyQueue keep v)
  have total := from_.trans emptied
  refine ⟨emptyQueue keep v, total, only, fun m => ?_, fun b H C h hview => ?_⟩
  · rw [refs m, total.setup, show (emptyQueue keep v).mem.refs = s.mem.refs from total.refs]
  · have view : v.rnd.viewPin = s.rnd.viewPin := by rw [rnd]
    have queue : v.rnd.queue = s.rnd.queue := by rw [rnd]
    have out := emptyQueue_law keep (law b H C h) (fun q hq => by rw [view] at hq; exact ⟨(hview q hq).1, .inl (hview q hq).2⟩)
    refine out.congr (fun k q => ?_) (fun q => by rw [view])
    rw [queue]
    by_cases hk : some q = keep
    · simp only [hk]
      by_cases hr : k = .render <;> simp [hr]
    · have : ¬ keep = some q := fun e => hk e.symm
      simp [hk, this]

end Sys2Proof.Machine
end

section
/-! PROOF. The selection of passes, the arrival of a completed segment, and with them completions and sample-clock instants keep the
laws. -/

namespace Sys2Proof.Machine

/-! ### The selection of a pass -/

/-- R66: pins of RENDER are not read by the places of pages. -/
theorem Placed.renderPinned {m : Mem} (h : Placed m) {refs : Vector RefSlot 4} {v : Fin 4 → Bool}
    (hr : ∀ n : Fin 4, refs[n] = Machine.renderPinned (v n) m.refs[n]) : Placed { m with refs := refs } := by
  obtain ⟨hn, hlt, hperm, hslots⟩ := h
  refine ⟨hn, hlt, ?_, fun n => ?_⟩
  · have same : pagesInUse { m with refs := refs } = pagesInUse m := by
      unfold pagesInUse slotPages
      dsimp only
      congr 1
      exact List.flatMap_congr (fun n _ => by rw [hr n, renderPinned_pages, renderPinned_copy])
    rw [same]; exact hperm
  · dsimp only
    rw [hr n, renderPinned_state, renderPinned_copy]
    exact hslots n

/-- R66: so are those of the whole device. -/
theorem Tidy.of_renderPinned {s : State} {refs : Vector RefSlot 4} {v : Fin 4 → Bool}
    (hr : ∀ n : Fin 4, refs[n] = Machine.renderPinned (v n) s.mem.refs[n]) : Tidy s { s with mem := { s.mem with refs := refs } } where
  startUp := rfl
  stores := id
  placed h := h.renderPinned hr
  transfer := id

/-- R122: a REDRAW, with no pass running. -/
theorem startRedraw_keeps (b : Bool) {s : State} (hpass : s.rnd.pass = none) : Keeps b b s (startRedraw s) := by
  obtain ⟨u, released, only, refs, law⟩ := redrawPinned_spec s
  have urefs : u.mem.refs = s.mem.refs := released.refs
  have rnd : (redrawPinned s).rnd = { s.rnd with redraw := false, queue := [] } := by rw [only]; exact released.rnd
  have xfr : (redrawPinned s).xfr = s.xfr := by rw [only]; exact released.xfr
  have setup : (redrawPinned s).setup = s.setup := by rw [only]; exact released.setup
  have queued : Tidy s { s with rnd := { s.rnd with redraw := false, queue := [] } } := .of_rnd id
  have pinned : Tidy u (redrawPinned s) := by
    rw [only]
    exact .of_renderPinned (v := fun n => refVisible s.setup n) (fun n => by rw [refs n, urefs])
  have blank : Tidy (redrawPinned s) (startRedraw s) := by
    rw [startRedraw_eq]
    refine .of_rnd fun h t => ⟨?_, (h t).2⟩
    simp only [Fin.getElem_fin, Vector.getElem_replicate]
    rfl
  refine ⟨((queued.trans released.tidy).trans pinned).trans blank, fun h => ?_⟩
  have table := law b _ _ h.table (fun q hq => ⟨.inl hq, hq⟩)
  generalize hkeep : (pinViewed { s with rnd := { s.rnd with redraw := false } }).2 = keep at table
  have found : ∀ q, findSeg q (redrawPinned s) = findSeg q u := fun q => by unfold findSeg; rw [only]
  have seg : (redrawPass s).seg.map (·.seq) = keep := by
    unfold redrawPass
    rw [hkeep]
    cases hk : keep with
    | none => rfl
    | some q =>
      obtain ⟨r, hr, hseq⟩ := table.pinned.present .render q (.inr ⟨rfl, hk⟩)
      have := findSeg_of_mem table.segs.nodup hr
      rw [hseq, ← found] at this
      rw [Option.bind_some, this]
      exact congrArg some hseq
  have passed : passSeq (startRedraw s) = keep := by rw [startRedraw_eq]; exact seg
  have source : transferSource (startRedraw s) = transferSource s := by
    rw [startRedraw_eq]; unfold transferSource; dsimp only; rw [xfr]
  have slots : (startRedraw s).mem.refs = (redrawPinned s).mem.refs := by rw [startRedraw_eq]
  have queue : (startRedraw s).rnd.queue = [] := by rw [startRedraw_eq]; dsimp only; rw [rnd]
  have view : (startRedraw s).rnd.viewPin = s.rnd.viewPin := by rw [startRedraw_eq]; dsimp only; rw [rnd]
  have tables : ∀ H C, TableLaw b H C u → TableLaw b H C (startRedraw s) := fun H C h => by
    rw [startRedraw_eq]
    refine TableLaw.withRnd ?_ _
    rw [only]
    exact h.withRefs _
  refine ⟨(tables _ _ table).congr (fun k q => ?_) (fun q => ?_), ?_, ?_⟩
  · cases k with
    | view => simp [holds, view]
    | render =>
      have idle : passSeq s = none := by unfold passSeq; rw [hpass]; rfl
      simp only [holds, queue, passed, idle]
      simp
    | transfer => simp [holds, source]
    | copy =>
      simp only [holds, copiesFrom, slots, refs, renderPinned_copy]
      simp
  · simp [mustBeComplete, view, queue]
  · rw [slots]
    refine ⟨fun n => ?_, fun n => ?_, fun n => ?_, fun n m => ?_⟩
    · have off : s.mem.refs[n].pinRender = true ↔ False := by
        rw [h.slots.render n]
        simp [slotHolds, hpass]
      have shown : (redrawPass s).refs[n] = refData n (redrawPinned s) := by simp [redrawPass]
      have running : (startRedraw s).rnd.pass = some (redrawPass s) := by rw [startRedraw_eq]
      rw [refs n]
      simp only [slotHolds, running, Option.some.injEq, exists_eq_left', shown, refData, setup]
      have hc : (redrawPinned s).mem.refs[n].contents = s.mem.refs[n].contents := by rw [refs n, renderPinned_contents]
      simp only [hc, Machine.renderPinned]
      cases hv : refVisible s.setup n with
      | false => simp only [Bool.false_eq_true, false_and, if_false, off, Option.isSome_none]
      | true =>
        cases hs : s.mem.refs[n].contents.isSome with
        | false => simp only [Bool.false_eq_true, and_false, if_false, if_true, off, Option.isSome_map, hs]
        | true => simp only [and_self, if_true, Option.isSome_map, hs]
    · rw [refs n, renderPinned_pinTransfer, h.slots.transfer n]
      simp only [slotHolds, source]
    · rw [refs n, renderPinned_state, renderPinned_copy]
      exact h.slots.copies n
    · rw [refs n, refs m, renderPinned_state, renderPinned_state]
      exact h.slots.one n m
  · exact ⟨by rw [queue]; exact List.nodup_nil, fun q _ => by rw [queue]; exact List.not_mem_nil⟩

/-- R123: the head entry becomes the pass's segment. -/
theorem startSegmentPass_keeps (b : Bool) {s : State} {q : Nat} {rest : List Nat} (hpass : s.rnd.pass = none)
    (hq : s.rnd.queue = q :: rest) : Keeps b b s (startSegmentPass q rest s) := by
  refine ⟨Tidy.of_rnd id, fun h => ?_⟩
  obtain ⟨hnodup, _⟩ := h.queue
  rw [hq] at hnodup
  obtain ⟨hnew, hrest⟩ := List.nodup_cons.1 hnodup
  have idle : passSeq s = none := by unfold passSeq; rw [hpass]; rfl
  obtain ⟨r, hr, hseq, _⟩ := h.table.pinned.complete q (.inr (by rw [hq]; exact List.mem_cons_self ..))
  have passed : passSeq (startSegmentPass q rest s) = some q := by
    have := findSeg_of_mem h.table.segs.nodup hr
    rw [hseq] at this
    simp only [passSeq, startSegmentPass, Option.bind_some, this, Option.map_some, hseq]
  have table : TableLaw b (holds s) (mustBeComplete (startSegmentPass q rest s)) (startSegmentPass q rest s) := by
    refine ⟨(h.table.withRnd _).segs, h.table.pinned.mono fun x hx => hx.imp id fun hx => ?_⟩
    rw [hq]; exact List.mem_cons_of_mem _ hx
  refine ⟨table.congr (fun k x => ?_) (fun _ => Iff.rfl), ?_, ?_⟩
  · cases k with
    | render =>
      simp only [holds, passed, idle, hq]
      simp only [startSegmentPass, List.mem_cons, Option.some.injEq, reduceCtorEq, or_false]
      rw [or_comm, eq_comm]
    | view => exact Iff.rfl
    | transfer => exact Iff.rfl
    | copy => exact Iff.rfl
  · refine ⟨fun n => ?_, h.slots.transfer, h.slots.copies, h.slots.one⟩
    refine (h.slots.render n).trans ?_
    simp [slotHolds, hpass, startSegmentPass]
  · refine ⟨hrest, fun x hx => ?_⟩
    rw [passed] at hx
    obtain rfl := Option.some.inj hx
    exact hnew

/-- R121: the selection of a pass. -/
theorem selectPass_keeps (b : Bool) (s : State) : Keeps b b s (selectPass s) := by
  unfold selectPass
  split
  · exact .refl b s
  · rename_i hpass
    have none : s.rnd.pass = none := by simpa using hpass
    split
    · exact startRedraw_keeps b none
    · split
      · exact .refl b s
      · rename_i q rest hq
        exact startSegmentPass_keeps b none hq

/-- R119: redraw pending is not seen. -/
theorem setRedraw_keeps (b : Bool) (s : State) : Keeps b b s (setRedraw s) := by
  have flagged : Keeps b b s { s with rnd := { s.rnd with redraw := true } } := ⟨.of_rnd id, fun h => h.seen rfl⟩
  exact flagged.trans (selectPass_keeps b _)

/-! ### The arrival of a segment -/

/-- R117 step 2: the release of the oldest entry of a full queue. -/
theorem dropOldestEntry_released (s : State) : ∃ queue, Released { s with rnd := { s.rnd with queue := queue } } (dropOldestEntry s) := by
  unfold dropOldestEntry
  split
  · exact ⟨s.rnd.queue, .refl s⟩
  · rename_i q rest _
    split
    · exact ⟨rest, releaseSegPin_released .render q _⟩
    · exact ⟨s.rnd.queue, .refl s⟩

theorem renderArrival_tidy (seq : Nat) (s : State) : Tidy s (renderArrival seq s) := by
  unfold renderArrival
  split
  · obtain ⟨queue, dropped⟩ := dropOldestEntry_released (pinSegment .render seq s).1
    have joined : ∀ t : State, Tidy t { t with rnd := { t.rnd with queue := t.rnd.queue ++ [seq] } } := fun t => .of_rnd id
    exact ((((pinSegment_released .render seq s).tidy.trans (.of_rnd (r := { (pinSegment .render seq s).1.rnd with queue := queue })
      id)).trans dropped.tidy).trans
      (joined _)).trans (selectPass_keeps true _).tidy
  · exact .refl s

/-- R117: a queue with room, after a full one has dropped its oldest entry; the laws hold for the holders with the newcomer, which is
COMPLETE, pinned and in neither the queue nor the pass. -/
theorem dropOldestEntry_law {b : Bool} {seq : Nat} {s : State}
    (h : TableLaw b (withPin .render seq (holds s)) (fun q => mustBeComplete s q ∨ q = seq) s) (hqueue : QueueLaw s)
    (hnew : seq ∉ s.rnd.queue ∧ passSeq s ≠ some seq) :
    ∃ queue, queue.Sublist s.rnd.queue ∧ Released { s with rnd := { s.rnd with queue := queue } } (dropOldestEntry s) ∧
      TableLaw b (withPin .render seq (holds { s with rnd := { s.rnd with queue := queue } }))
        (fun q => mustBeComplete { s with rnd := { s.rnd with queue := queue } } q ∨ q = seq) (dropOldestEntry s) := by
  unfold dropOldestEntry
  split
  · exact ⟨s.rnd.queue, .refl _, .refl s, h⟩
  · rename_i q rest hq
    split
    · obtain ⟨hnodup, hpass⟩ := hqueue
      rw [hq] at hnodup
      obtain ⟨hout, _⟩ := List.nodup_cons.1 hnodup
      have qs : q ≠ seq := fun e => hnew.1 (by rw [hq, e]; exact List.mem_cons_self ..)
      have qp : passSeq s ≠ some q := fun e => hpass q e (by rw [hq]; exact List.mem_cons_self ..)
      have fewer : TableLaw b (withPin .render seq (holds s)) (fun x => (s.rnd.viewPin = some x ∨ x ∈ rest) ∨ x = seq)
          { s with rnd := { s.rnd with queue := rest } } := by
        refine ⟨(h.withRnd _).segs, h.pinned.mono fun x hx => hx.imp (Or.imp id fun hx => ?_) id⟩
        rw [hq]; exact List.mem_cons_of_mem _ hx
      have released := releaseSegPin_law fewer .render q (fun x hx => ?_)
      · refine ⟨rest, by rw [hq]; exact List.sublist_cons_self .., releaseSegPin_released .render q _,
          released.congr (fun k x => ?_) (fun _ => Iff.rfl)⟩
        cases k with
        | render =>
          simp only [withPin, without, holds, hq, List.mem_cons, true_and]
          constructor
          · rintro ((hx | hx) | rfl)
            · exact ⟨.inl (.inl (.inr hx)), fun e => hout (e ▸ hx)⟩
            · exact ⟨.inl (.inr hx), fun e => qp (e ▸ hx)⟩
            · exact ⟨.inr rfl, fun e => qs e.symm⟩
          · rintro ⟨((rfl | hx) | hx) | rfl, hne⟩
            · exact absurd rfl hne
            · exact .inl (.inl hx)
            · exact .inl (.inr hx)
            · exact .inr rfl
        | view => simp [withPin, without, holds]
        | transfer => simp [withPin, without, holds, transferSource]
        | copy => simp [withPin, without, holds, copiesFrom]
      · rcases hx with (hx | hx) | rfl
        · exact ⟨.view, .inl hx, by simp⟩
        · exact ⟨.render, .inl (.inl (by rw [hq]; exact List.mem_cons_of_mem _ hx)), fun e => hout (e.2 ▸ hx)⟩
        · exact ⟨.render, .inr ⟨rfl, rfl⟩, fun e => qs e.2.symm⟩
    · exact ⟨s.rnd.queue, .refl _, .refl s, h⟩

/-- R117: RND takes a segment that it does not hold yet. -/
theorem renderArrival_held {b : Bool} {seq : Nat} {s : State} (h : Held b s) (hnew : ¬ holds s .render seq) :
    Held b (renderArrival seq s) := by
  unfold renderArrival
  split
  · rename_i hg
    obtain ⟨r, hr, hc, _⟩ := pinSegment_granted hg
    obtain ⟨hmem, rfl⟩ := findSeg_mem hr
    have released := pinSegment_released .render r.seq s
    have pinned := pinSegment_law h.table hg
    have stands : ∃ x ∈ (pinSegment .render r.seq s).1.mem.table, x.seq = r.seq ∧ x.state = .complete := by
      obtain ⟨_, _, _, he⟩ := pinSegment_granted hg
      rw [he, modPins_table]
      exact ⟨_, List.mem_map_of_mem hmem, by simp, by simpa using hc⟩
    have full : TableLaw b (withPin .render r.seq (holds (pinSegment .render r.seq s).1))
        (fun q => mustBeComplete (pinSegment .render r.seq s).1 q ∨ q = r.seq) (pinSegment .render r.seq s).1 := by
      rw [holds_congr released.rnd released.xfr released.refs, mustBeComplete_congr released.rnd]
      refine ⟨pinned.segs, pinned.pinned.pins, pinned.pinned.filling, pinned.pinned.stale, pinned.pinned.present, fun q hq => ?_,
        fun q hq => ?_⟩
      · rcases hq with hq | rfl
        · exact pinned.pinned.complete q hq
        · exact stands
      · rcases hq with hq | rfl
        · exact pinned.pinned.held q hq
        · exact ⟨.render, .inr ⟨rfl, rfl⟩⟩
    have passes : passSeq (pinSegment .render r.seq s).1 = passSeq s := by unfold passSeq; rw [released.rnd]
    have absent : r.seq ∉ (pinSegment .render r.seq s).1.rnd.queue ∧ passSeq (pinSegment .render r.seq s).1 ≠ some r.seq := by
      rw [passes, released.rnd]
      exact ⟨fun e => hnew (.inl e), fun e => hnew (.inr e)⟩
    obtain ⟨queue, sub, dropped, law⟩ := dropOldestEntry_law full (h.queue.congr released.rnd) absent
    have slots : SlotLaw (slotHolds s) (pinSegment .render r.seq s).1.mem.refs := by rw [released.refs]; exact h.slots
    obtain ⟨hnodup, hpass⟩ := h.queue.congr released.rnd
    have xfr : (pinSegment .render r.seq s).1.xfr = s.xfr := released.xfr
    have rnd := released.rnd
    generalize (pinSegment .render r.seq s).1 = u at *
    have drnd : (dropOldestEntry u).rnd = { u.rnd with queue := queue } := dropped.rnd
    have dxfr : (dropOldestEntry u).xfr = u.xfr := dropped.xfr
    have drefs : (dropOldestEntry u).mem.refs = u.mem.refs := dropped.refs
    refine (selectPass_keeps b _).held ⟨(law.withRnd _).congr (fun k x => ?_) (fun x => ?_), ?_, ?_, fun x hx => ?_⟩
    · cases k with
      | render =>
        simp only [holds, withPin, passSeq, drnd, List.mem_append, List.mem_singleton, true_and]
        tauto
      | view => simp [holds, withPin, drnd]
      | transfer => simp [holds, withPin, transferSource, dxfr]
      | copy => simp [holds, withPin, copiesFrom, drefs]
    · simp only [mustBeComplete, drnd, List.mem_append, List.mem_singleton]
      tauto
    · dsimp only
      rw [drefs]
      refine ⟨fun n => ?_, fun n => ?_, slots.copies, slots.one⟩
      · refine (slots.render n).trans ?_
        simp only [slotHolds, drnd, rnd]
      · refine (slots.transfer n).trans ?_
        simp only [slotHolds, transferSource, dxfr, xfr]
    · dsimp only
      rw [drnd]
      refine (hnodup.sublist sub).append (List.nodup_singleton _) (List.disjoint_singleton.2 fun e => absent.1 (sub.subset e))
    · have passing : passSeq u = some x := by
        simp only [passSeq, drnd] at hx
        exact hx
      dsimp only
      rw [drnd]
      simp only [List.mem_append, List.mem_singleton, not_or]
      exact ⟨fun e => hpass x passing (sub.subset e), fun e => absent.2 (e ▸ passing)⟩
  · exact h

/-! ### Completions -/

theorem recordCompletion_released (c : Capture) (s : State) : Released s (recordCompletion c s) := by
  have done : Released s (modSeg c.seq (completedRecord c (s.acq.runStart.getD 0)) s) := 
    modSeg_released (f := completedRecord c (s.acq.runStart.getD 0)) (fun _ => rfl) _ s
  have left : ∀ t : State, Released t (leavePhase { t with acq := { t.acq with ctx := none } }) := fun t =>
    (Released.of_acq (t := { t with acq := { t.acq with ctx := none } }) rfl).trans (leavePhase_released _)
  exact (done.trans (left _)).trans (.of_acq rfl)

theorem notifySegment_quiet (c : Capture) (s : State) : Quiet s (notifySegment c s) := by
  unfold notifySegment
  split
  · exact offer_quiet _ s
  · exact .refl s

/-- R107. -/
theorem endOrRearm_keeps (s : State) : Keeps true false s (endOrRearm s) := by
  unfold endOrRearm
  split
  · exact enterStopped_keeps _ s
  · split
    · exact enterStopped_keeps _ s
    · exact arm_keeps s

/-- R106: a completion. -/
theorem complete_keeps {c : Capture} {s : State} (hopen : segmentOpen s.acq.state = true) (hc : s.acq.ctx = some c) :
    Keeps false false s (complete c s) := by
  have recorded := recordCompletion_released c s
  have queued : Tidy (recordCompletion c s) (queueForRender c.seq (recordCompletion c s)) := by
    unfold queueForRender
    split
    · exact .refl _
    · exact renderArrival_tidy ..
  have ended : Keeps true false _ (complete c s) :=
    ((notifySegment_quiet c (queueForRender c.seq (recordCompletion c s))).keeps true).trans (endOrRearm_keeps _)
  refine ⟨(recorded.tidy.trans queued).trans ended.tidy, fun h => ended.held ?_⟩
  obtain ⟨law, r, hr, _, hu⟩ := recordCompletion_law h.table hopen hc
  have done : Held true (recordCompletion c s) := by
    unfold Held
    rw [holds_congr recorded.rnd recorded.xfr recorded.refs, slotHolds_congr recorded.rnd recorded.xfr,
      mustBeComplete_congr recorded.rnd]
    exact ⟨law, by rw [recorded.refs]; exact h.slots, h.queue.congr recorded.rnd⟩
  unfold queueForRender
  split
  · exact done
  · refine renderArrival_held done fun hk => ?_
    obtain ⟨hmem, hseq⟩ := findSeg_mem hr
    exact done.table.pinned.unheld hmem hu .render (hseq ▸ hk)

theorem completeIfFull_keeps (s : State) : Keeps false false s (completeIfFull s) := by
  unfold completeIfFull
  split
  · rename_i c hst hc
    split
    · exact complete_keeps (by rw [hst]; rfl) hc
    · exact .refl false s
  · exact .refl false s

/-! ### Sample-clock instants -/

theorem phase_of_open {a : AcqState} (h : segmentOpen a = true) : decide (a = .starved) = false ∧ decide (a = .calibrating) = false := by
  cases a <;> simp_all [segmentOpen]

/-- A change of ACQ's segment in flight, from one phase to another, that keeps its seq. -/
theorem Keeps.of_phase {s t : State} (only : t = { s with fec := t.fec, trg := t.trg, acq := t.acq })
    (hopen : segmentOpen s.acq.state = true) (hopen' : segmentOpen t.acq.state = true) (hflight : flightSeq t = flightSeq s)
    (hcal : t.fec.calStep = s.fec.calStep) : Keeps false false s t := by
  have moved : ∀ f g a, segmentOpen a.state = true → a.ctx.map (·.seq) = flightSeq s → f.calStep = s.fec.calStep →
      Keeps false false s { s with fec := f, trg := g, acq := a } := by
    intro f g a ha hctx hf
    refine .of_seen ?_
    simp only [seenParts, lawParts, flightSeq, hopen, ha, hf, hctx, (phase_of_open hopen).1,
      (phase_of_open hopen).2, (phase_of_open ha).1, (phase_of_open ha).2]
    rfl
  rw [only]
  exact moved _ _ _ hopen' hflight hcal

theorem enterReady_keeps {s : State} (hopen : segmentOpen s.acq.state = true) : Keeps false false s (enterReady s) := by
  have released := enterReady_released s
  have acq := enterReady_acq s
  have lnk : (enterReady s).lnk = s.lnk := by
    rw [enterReady_eq]; split <;> rfl
  refine .of_phase ?_ hopen ?_ ?_ released.calStep
  · conv_lhs => rw [released.only]
    rw [enterReady_mem, lnk]
  · rw [acq]; dsimp only; split <;> rfl
  · unfold flightSeq; rw [acq]; dsimp only
    split
    · rw [Option.map_map]; rfl
    · rfl

theorem countInstant_keeps (b : Bool) (s : State) : Keeps b b s (countInstant s) := by
  refine .of_seen ?_
  have flight : flightSeq (countInstant s) = flightSeq s := by simp only [flightSeq, countInstant, Option.map_map]; rfl
  unfold seenParts lawParts
  rw [flight]
  rfl

theorem readyIfFilled_keeps (s : State) : Keeps false false s (readyIfFilled s) := by
  unfold readyIfFilled
  split
  · rename_i c hst _
    split
    · exact (enterReady_keeps (by rw [hst]; rfl)).trans (completeIfFull_keeps _)
    · exact .refl false s
  · exact .refl false s

theorem countGroup_seq (st : AcqState) (q : Nat) (codes : Vector Byte 4) (c : Capture) : (countGroup st q codes c).seq = c.seq := by
  cases st <;> rfl

theorem acqInstant_keeps (codes : Vector Byte 4) (s : State) : Keeps false false s (acqInstant codes s) := by
  unfold acqInstant
  split
  · exact .refl false s
  · rename_i c hc
    split
    · split
      · exact countInstant_keeps false s
      · rename_i q _
        have stored := (storeCodes_quiet c q codes s).keeps false
        have acq : (storeCodes c q codes s).acq = s.acq := by unfold storeCodes; split <;> rfl
        have counted : Keeps false false (storeCodes c q codes s) { storeCodes c q codes s with
            acq := { (storeCodes c q codes s).acq with ctx := some (countGroup s.acq.state q codes c) } } := by
          refine .of_seen ?_
          have flight : flightSeq (storeCodes c q codes s) = some c.seq := by unfold flightSeq; rw [acq, hc]; rfl
          simp only [seenParts, lawParts, flight]
          simp only [flightSeq, Option.map_some, countGroup_seq]
          rfl
        exact (((stored.trans counted).trans (countInstant_keeps false _)).trans (readyIfFilled_keeps _)).trans
          (completeIfFull_keeps _)
    · exact countInstant_keeps false s

theorem acqInstants_keeps (codes : Vector Byte 4) (s : State) : Keeps false false s (acqInstants codes s) := by
  unfold acqInstants
  dsimp only
  split
  · exact (acqInstant_keeps codes s).trans (acqInstant_keeps codes _)
  · exact acqInstant_keeps codes s

theorem acqTrigger_flight (forced : Bool) (s : State) : flightSeq (acqTrigger forced s) = flightSeq s := by
  simp only [flightSeq, acqTrigger, setAcq, Option.map_map]
  rfl

theorem forceTrigger_keeps {s : State} (hst : s.acq.state = .ready) : Keeps false false s (forceTrigger s) :=
  .of_phase rfl (by rw [hst]; rfl) rfl (acqTrigger_flight true (stopAutoWait s)) rfl

theorem acceptTrigger_keeps {s : State} (hst : s.acq.state = .ready) : Keeps false false s (acceptTrigger s) := by
  have held : startHoldoff (stopAutoWait s) = { s with trg := (startHoldoff (stopAutoWait s)).trg } := by
    unfold startHoldoff; split <;> rfl
  refine .of_phase ?_ (by rw [hst]; rfl) rfl ?_ ?_
  · unfold acceptTrigger; rw [held]; rfl
  · refine (acqTrigger_flight false (startHoldoff (stopAutoWait s))).trans ?_
    rw [held]; rfl
  · unfold acceptTrigger; rw [held]; rfl

theorem offerEvent_keeps (hit : Bool) (s : State) : Keeps false false s (offerEvent hit s) := by
  unfold offerEvent
  split
  · rename_i h
    obtain ⟨_, hst, _⟩ := h
    exact (acceptTrigger_keeps hst).trans (completeIfFull_keeps _)
  · exact .refl false s

theorem sampleInstant_keeps (raw : Vector Byte 4) (ext : Bool) (s : State) : Keeps false false s (sampleInstant raw ext s) :=
  ((((sumCodes_quiet raw s).keeps false).trans ((comparatorStep_quiet _ _ _).keeps false)).trans (offerEvent_keeps _ _)).trans
    (acqInstants_keeps _ _)

theorem autoWaitExpires_keeps (s : State) : Keeps false false s (autoWaitExpires s) := by
  unfold autoWaitExpires
  split
  · exact .refl false s
  · rename_i t _
    have stopped : Keeps false false s (reach t (stopAutoWait s)) := .of_seen rfl
    dsimp only
    split
    · rename_i hst
      exact (stopped.trans (forceTrigger_keeps hst)).trans (completeIfFull_keeps _)
    · exact stopped

theorem takeForce_keeps (s : State) : Keeps false false s (takeForce s).1 := by
  unfold takeForce
  split
  · rename_i hst
    exact (forceTrigger_keeps hst).trans (completeIfFull_keeps _)
  · exact .of_seen rfl
  · exact .refl false s

theorem takeStop_keeps (s : State) : Keeps false false s (takeStop s) := by
  unfold takeStop
  split
  · rename_i hst
    exact calEnds_keeps _ _ _ (.inl hst)
  · exact endRun_keeps _ s

end Sys2Proof.Machine
end

section
/-! PROOF. The reference slots: what a change of one slot leaves, and how the last pin of a slot settles it. -/

namespace Sys2Proof.Machine

/-! ### A change of one slot -/

/-- The slots but one. -/
theorem perm_slots (n : Fin 4) : channels.Perm (n :: channels.filter (fun m => m != n)) := by revert n; decide

/-- R66: the pages of a device whose slot `n` stands apart. -/
theorem perm_pagesInUse (n : Fin 4) (m : Mem) : (pagesInUse m).Perm
    ((m.pool ++ slotPages m.refs[n]) ++ (m.table.flatMap segPages ++
      (channels.filter (fun k => k != n)).flatMap (fun k => slotPages m.refs[k]))) := by
  have slots := (perm_slots n).flatMap_right (fun k => slotPages m.refs[k])
  unfold pagesInUse
  refine (slots.append_left _).trans ?_
  rw [List.flatMap_cons, List.append_assoc, List.append_assoc]
  refine List.Perm.append_left _ ?_
  rw [← List.append_assoc, ← List.append_assoc]
  exact List.perm_append_comm.append_right _

/-- R66: a change of one slot, and of the pool, that keeps their pages together. -/
theorem Placed.slot {m m' : Mem} (h : Placed m) (n : Fin 4) (hbad : m'.bad = m.bad) (htable : m'.table = m.table)
    (hother : ∀ k : Fin 4, k ≠ n → m'.refs[k] = m.refs[k])
    (hpages : (m'.pool ++ slotPages m'.refs[n]).Perm (m.pool ++ slotPages m.refs[n]))
    (hslot : (m'.refs[n].state = .copying ↔ m'.refs[n].copy.isSome = true) ∧
      ∀ c, m'.refs[n].copy = some c → c.phase = .waitSetup → c.pages = []) : Placed m' := by
  obtain ⟨hn, hlt, hperm, hslots⟩ := h
  refine ⟨by rw [hbad]; exact hn, by rw [hbad]; exact hlt, ?_, fun k => ?_⟩
  · rw [hbad]
    refine List.Perm.trans (.append_right _ ?_) hperm
    refine (perm_pagesInUse n m').trans (List.Perm.trans ?_ (perm_pagesInUse n m).symm)
    rw [htable]
    have others : (channels.filter (fun k => k != n)).flatMap (fun k => slotPages m'.refs[k]) =
        (channels.filter (fun k => k != n)).flatMap (fun k => slotPages m.refs[k]) :=
      List.flatMap_congr fun k hk => by rw [hother k (by simpa using (List.mem_filter.1 hk).2)]
    rw [others]
    exact hpages.append_right _
  · by_cases hk : k = n
    · subst hk; exact hslot
    · rw [hother k hk]; exact hslots k

/-- A change of MEM alone, but for its contents. -/
theorem Tidy.of_mem {s t : State} (only : t = { s with mem := t.mem }) (dram : t.mem.dram = s.mem.dram)
    (placed : Placed s.mem → Placed t.mem) : Tidy s t where
  startUp := by rw [only]
  stores := fun ⟨hdram, rest⟩ => by
    refine ⟨by rw [dram]; exact hdram, ?_⟩
    rw [only]; exact rest
  placed := placed
  transfer := fun h => by rw [only]; exact h

theorem modRef_self (n : Fin 4) (f : RefSlot → RefSlot) (s : State) : (modRef n f s).mem.refs[n] = f s.mem.refs[n] := by
  rw [modRef_get, if_pos rfl]

theorem modRef_ne {n m : Fin 4} (h : m ≠ n) (f : RefSlot → RefSlot) (s : State) : (modRef n f s).mem.refs[m] = s.mem.refs[m] := by
  rw [modRef_get, if_neg h.symm]

/-- A change of one slot that leaves its pages, its state and its copy. -/
theorem modRef_tidy {n : Fin 4} {f : RefSlot → RefSlot} (hf : ∀ r, (f r).pages = r.pages ∧ (f r).state = r.state ∧ (f r).copy = r.copy)
    (s : State) : Tidy s (modRef n f s) := by
  refine Tidy.of_mem rfl rfl fun h => h.slot n rfl rfl (fun k hk => modRef_ne hk f s) ?_ ?_
  · have := modRef_self n f s
    obtain ⟨pages, _, copy⟩ := hf s.mem.refs[n]
    rw [this]
    unfold slotPages
    rw [pages, copy]
    exact .refl _
  · obtain ⟨_, state, copy⟩ := hf s.mem.refs[n]
    rw [modRef_self n f s, state, copy]
    exact h.2.2.2 n

/-! ### The laws and a slot -/

section
variable {b : Bool} {H : Holder → Nat → Prop} {R : Bool → Fin 4 → Prop} {C : Nat → Prop} {s : State}

/-- R80: a change of one slot that leaves its pins and makes no second copy. -/
theorem SlotLaw.slot {R : Bool → Fin 4 → Prop} {refs refs' : Vector RefSlot 4} (h : SlotLaw R refs) (n : Fin 4)
    (hother : ∀ k : Fin 4, k ≠ n → refs'[k] = refs[k]) (hrender : refs'[n].pinRender = refs[n].pinRender)
    (htransfer : refs'[n].pinTransfer = refs[n].pinTransfer) (hcopies : refs'[n].state = .copying ↔ refs'[n].copy.isSome = true)
    (hone : refs'[n].state = .copying → ∀ m : Fin 4, refs[m].state = .copying → m = n) : SlotLaw R refs' := by
  have at' : ∀ (P : RefSlot → Fin 4 → Prop), P refs'[n] n → (∀ k, P refs[k] k) → ∀ k, P refs'[k] k := by
    intro P hn hall k
    by_cases hk : k = n
    · subst hk; exact hn
    · rw [hother k hk]; exact hall k
  refine ⟨at' (fun r k => r.pinRender = true ↔ R false k) (by rw [hrender]; exact h.render n) h.render,
    at' (fun r k => r.pinTransfer = true ↔ R true k) (by rw [htransfer]; exact h.transfer n) h.transfer,
    at' (fun r _ => r.state = .copying ↔ r.copy.isSome = true) hcopies h.copies, fun k m hk hm => ?_⟩
  by_cases hkn : k = n
  · subst hkn
    by_cases hmn : m = k
    · exact hmn.symm
    · rw [hother m hmn] at hm
      exact (hone hk m hm).symm
  · rw [hother k hkn] at hk
    by_cases hmn : m = n
    · subst hmn
      exact hone hm k hk
    · rw [hother m hmn] at hm
      exact h.one k m hk hm

theorem Law.withSlots (h : Law b H R C s) {R' : Bool → Fin 4 → Prop} {refs : Vector RefSlot 4} (hr : SlotLaw R' refs) :
    Law b H R' C { s with mem := { s.mem with refs := refs } } := ⟨h.table.withRefs refs, hr, h.queue⟩

theorem Law.withPool (h : Law b H R C s) (pool : List Nat) : Law b H R C { s with mem := { s.mem with pool := pool } } := by
  refine ⟨⟨?_, h.table.pinned⟩, h.slots, h.queue⟩
  have := h.table.segs
  cases b with
  | true => exact ⟨⟨this.1.nodup, this.1.ctx, this.1.filling, this.1.calStep⟩, this.2⟩
  | false => exact this

theorem Law.retry (h : Law b H R C s) : Law b H R C (retryPending s) := by
  have released := retryPending_released s
  exact ⟨retryPending_law h.table, by rw [released.refs]; exact h.slots, h.queue.congr released.rnd⟩

/-- R85: the slots' holders without one. -/
def withoutSlot (t : Bool) (n : Fin 4) (R : Bool → Fin 4 → Prop) (t' : Bool) (m : Fin 4) : Prop := R t' m ∧ ¬ (t' = t ∧ m = n)

/-- R85: a pin of a slot that is released. -/
def refUnpin (t : Bool) (r : RefSlot) : RefSlot := if t then { r with pinTransfer := false } else { r with pinRender := false }

theorem refUnpin_kept (t : Bool) (r : RefSlot) : (refUnpin t r).pages = r.pages ∧ (refUnpin t r).state = r.state ∧
    (refUnpin t r).copy = r.copy ∧ (refUnpin t r).contents = r.contents := by cases t <;> exact ⟨rfl, rfl, rfl, rfl⟩

theorem Law.unpinSlot (h : Law b H R C s) (t : Bool) (n : Fin 4) : Law b H (withoutSlot t n R) C (modRef n (refUnpin t) s) := by
  refine h.withSlots ?_
  have got : ∀ k : Fin 4, (vmod s.mem.refs n (refUnpin t))[k] = if n = k then refUnpin t s.mem.refs[n] else s.mem.refs[k] :=
    fun k => modRef_get n k (refUnpin t) s
  refine ⟨fun k => ?_, fun k => ?_, fun k => ?_, fun k m => ?_⟩
  · rw [got]
    have := h.slots.render k
    by_cases hk : n = k
    · subst hk
      cases t <;> simp [refUnpin, withoutSlot]
      exact this
    · have hk' : ¬ k = n := fun e => hk e.symm
      rw [if_neg hk, this]
      simp [withoutSlot, hk']
  · rw [got]
    have := h.slots.transfer k
    by_cases hk : n = k
    · subst hk
      cases t <;> simp [refUnpin, withoutSlot]
      exact this
    · have hk' : ¬ k = n := fun e => hk e.symm
      rw [if_neg hk, this]
      simp [withoutSlot, hk']
  · rw [got]
    by_cases hk : n = k
    · subst hk
      obtain ⟨_, state, copy, _⟩ := refUnpin_kept t s.mem.refs[n]
      rw [if_pos rfl, state, copy]
      exact h.slots.copies n
    · rw [if_neg hk]; exact h.slots.copies k
  · have state : ∀ k : Fin 4, (vmod s.mem.refs n (refUnpin t))[k].state = s.mem.refs[k].state := by
      intro k
      rw [got]
      by_cases hk : n = k
      · subst hk; rw [if_pos rfl]; exact (refUnpin_kept t _).2.1
      · rw [if_neg hk]
    rw [state, state]
    exact h.slots.one k m

end

/-! ### The last pin of a slot -/

/-- R83, R85: what settling a slot leaves, but for the redraw that can follow: RND and XFR stand, and the laws hold for whichever
holders they held for. -/
structure Settles (s u : State) : Prop where
  tidy : Tidy s u
  rnd : u.rnd = s.rnd
  xfr : u.xfr = s.xfr
  law : ∀ b H R C, Law b H R C s → Law b H R C u

theorem Settles.refl (s : State) : Settles s s := ⟨.refl s, rfl, rfl, fun _ _ _ _ => id⟩

theorem Settles.trans {s t u : State} (h : Settles s t) (k : Settles t u) : Settles s u :=
  ⟨h.tidy.trans k.tidy, k.rnd.trans h.rnd, k.xfr.trans h.xfr, fun b H R C hl => k.law b H R C (h.law b H R C hl)⟩

theorem Settles.retry (s : State) : Settles s (retryPending s) :=
  have released := retryPending_released s
  ⟨released.tidy, released.rnd, released.xfr, fun _ _ _ _ h => h.retry⟩

/-- R67: pages that a slot gives up join the pool. -/
def slotFreed (n : Fin 4) (f : RefSlot → RefSlot) (old : List Nat) (s : State) : State := freePages old (modRef n f s)

theorem slotFreed_refs (n m : Fin 4) (f : RefSlot → RefSlot) (old : List Nat) (s : State) :
    (slotFreed n f old s).mem.refs[m] = if n = m then f s.mem.refs[n] else s.mem.refs[m] := modRef_get n m f s

/-- R83, R85: a slot gives up its current list, and makes no copy. -/
theorem Settles.slotFreed {n : Fin 4} {f : RefSlot → RefSlot} {old : List Nat} {s : State}
    (hrender : (f s.mem.refs[n]).pinRender = s.mem.refs[n].pinRender)
    (htransfer : (f s.mem.refs[n]).pinTransfer = s.mem.refs[n].pinTransfer)
    (hpages : (old ++ slotPages (f s.mem.refs[n])).Perm (slotPages s.mem.refs[n]))
    (hslot : ((s.mem.refs[n].state = .copying ↔ s.mem.refs[n].copy.isSome = true) →
      ((f s.mem.refs[n]).state = .copying ↔ (f s.mem.refs[n]).copy.isSome = true)) ∧
      ((f s.mem.refs[n]).state = .copying → s.mem.refs[n].state = .copying) ∧
      ∀ c, (f s.mem.refs[n]).copy = some c → s.mem.refs[n].copy = some c) : Settles s (slotFreed n f old s) := by
  have self : (Machine.slotFreed n f old s).mem.refs[n] = f s.mem.refs[n] := by rw [slotFreed_refs, if_pos rfl]
  have other : ∀ k : Fin 4, k ≠ n → (Machine.slotFreed n f old s).mem.refs[k] = s.mem.refs[k] := fun k hk => by
    rw [slotFreed_refs, if_neg hk.symm]
  obtain ⟨hcopies, hcopying, hcopy⟩ := hslot
  refine ⟨Tidy.of_mem rfl rfl fun h => h.slot n rfl rfl other ?_ ?_, rfl, rfl, fun b H R C h => ?_⟩
  · rw [self]
    show ((s.mem.pool ++ sortAsc old) ++ slotPages (f s.mem.refs[n])).Perm _
    rw [List.append_assoc]
    exact List.Perm.append_left _ (((perm_sortAsc old).append_right _).trans hpages)
  · rw [self]
    exact ⟨hcopies (h.2.2.2 n).1, fun c hc => (h.2.2.2 n).2 c (hcopy c hc)⟩
  · have slots : SlotLaw R (Machine.slotFreed n f old s).mem.refs :=
      h.slots.slot n other (by rw [self]; exact hrender) (by rw [self]; exact htransfer)
        (by rw [self]; exact hcopies (h.slots.copies n))
        (fun hc m hm => h.slots.one m n hm (hcopying (self ▸ hc)))
    exact (h.withSlots slots).withPool _

theorem freePages_nil (s : State) : freePages [] s = s := by simp [freePages, sortAsc]

/-- R83: the slot after the swap. -/
def swappedSlot (c : RefCopy) (r : RefSlot) : RefSlot :=
  { r with state := .valid, contents := some c.contents, pages := c.pages, copy := none }

/-- R83: a swap settles its slot; then REF_DONE is offered and a redraw set pending. -/
theorem swapRef_settles {n : Fin 4} {c : RefCopy} {s : State} (hc : s.mem.refs[n].copy = some c) : ∃ u,
    swapRef n s = offer (.refDone n false c.contents.seq c.contents.channel) (setRedraw u) ∧ Settles s u ∧
    ∀ m : Fin 4, u.mem.refs[m] = if n = m then swappedSlot c s.mem.refs[n] else s.mem.refs[m] := by
  have freed : Settles s (slotFreed n (swappedSlot c) s.mem.refs[n].pages s) :=
    .slotFreed rfl rfl (by simp only [slotPages, swappedSlot, hc]; simp)
      ⟨fun _ => by simp [swappedSlot], by simp [swappedSlot], by simp [swappedSlot]⟩
  have refs := fun m => slotFreed_refs n m (swappedSlot c) s.mem.refs[n].pages s
  unfold swapRef
  rw [hc]
  dsimp only
  split
  · rename_i hold
    refine ⟨_, rfl, ?_, fun m => ?_⟩
    · rw [hold] at freed
      unfold slotFreed at freed
      rw [freePages_nil] at freed
      exact freed
    · exact modRef_get n m (swappedSlot c) s
  · have retried := Settles.retry (slotFreed n (swappedSlot c) s.mem.refs[n].pages s)
    refine ⟨_, rfl, freed.trans retried, fun m => ?_⟩
    exact (congrArg (fun v : Vector RefSlot 4 => v[m]) (retryPending_released _).refs).trans (refs m)

/-- R85: the last pin: nothing, the swap that waited, or the release of a cleared slot's pages. -/
theorem refUnpinned_settles (n : Fin 4) (s : State) : ∃ u,
    (refUnpinned n s = u ∨ ∃ r, refUnpinned n s = offer r (setRedraw u)) ∧ Settles s u ∧
    ∀ seq, copiesFrom seq u ↔ copiesFrom seq s := by
  unfold refUnpinned
  split
  · exact ⟨s, .inl rfl, .refl s, fun _ => Iff.rfl⟩
  · split
    · rename_i c hc
      split
      · rename_i hphase
        obtain ⟨u, hu, settles, refs⟩ := swapRef_settles hc
        refine ⟨u, .inr ⟨_, hu⟩, settles, fun seq => ?_⟩
        unfold copiesFrom
        constructor
        · rintro ⟨m, c', hc', hp⟩
          rw [refs] at hc'
          by_cases hm : n = m
          · rw [if_pos hm] at hc'; cases hc'
          · rw [if_neg hm] at hc'; exact ⟨m, c', hc', hp⟩
        · rintro ⟨m, c', hc', hp⟩
          refine ⟨m, c', ?_, hp⟩
          have hm : ¬ n = m := by
            rintro rfl
            rw [hc] at hc'
            exact hp.1 (Option.some.inj hc' ▸ hphase)
          rw [refs, if_neg hm]; exact hc'
      · exact ⟨s, .inl rfl, .refl s, fun _ => Iff.rfl⟩
    · exact ⟨s, .inl rfl, .refl s, fun _ => Iff.rfl⟩
  · split
    · exact ⟨s, .inl rfl, .refl s, fun _ => Iff.rfl⟩
    · have freed : Settles s (slotFreed n (fun r => { r with pages := [] }) s.mem.refs[n].pages s) :=
        .slotFreed rfl rfl (by simp [slotPages]) ⟨id, id, fun _ => id⟩
      have retried := Settles.retry (slotFreed n (fun r => { r with pages := [] }) s.mem.refs[n].pages s)
      refine ⟨_, .inl rfl, freed.trans retried, fun seq => ?_⟩
      have refs : ∀ m : Fin 4, (releasePages s.mem.refs[n].pages (modRef n (fun r => { r with pages := [] }) s)).mem.refs[m].copy =
          s.mem.refs[m].copy := by
        intro m
        refine (congrArg (fun v : Vector RefSlot 4 => v[m].copy) (retryPending_released _).refs).trans ?_
        refine (congrArg RefSlot.copy (slotFreed_refs n m (fun r => { r with pages := [] }) s.mem.refs[n].pages s)).trans ?_
        by_cases hm : n = m
        · subst hm; rw [if_pos rfl]
        · rw [if_neg hm]
      simp only [copiesFrom, refs]

/-- R85: the release of a pin of a slot. -/
theorem releaseRefPin_settles (t : Bool) (n : Fin 4) (s : State) : ∃ u,
    (releaseRefPin t n s = u ∨ ∃ r, releaseRefPin t n s = offer r (setRedraw u)) ∧ Tidy s u ∧ u.rnd = s.rnd ∧ u.xfr = s.xfr ∧
    (∀ seq, copiesFrom seq u ↔ copiesFrom seq s) ∧ ∀ b H R C, Law b H R C s → Law b H (withoutSlot t n R) C u := by
  have same : (fun r : RefSlot => if t then { r with pinTransfer := false } else { r with pinRender := false }) = refUnpin t := by
    funext r; cases t <;> rfl
  have tidy : Tidy s (modRef n (refUnpin t) s) :=
    modRef_tidy (fun r => by obtain ⟨pages, state, copy, _⟩ := refUnpin_kept t r; exact ⟨pages, state, copy⟩) s
  have copies : ∀ seq, copiesFrom seq (modRef n (refUnpin t) s) ↔ copiesFrom seq s := by
    intro seq
    have refs : ∀ m : Fin 4, (modRef n (refUnpin t) s).mem.refs[m].copy = s.mem.refs[m].copy := by
      intro m
      rw [modRef_get]
      by_cases hm : n = m
      · subst hm; rw [if_pos rfl]; exact (refUnpin_kept t _).2.2.1
      · rw [if_neg hm]
    simp only [copiesFrom, refs]
  unfold releaseRefPin
  rw [same]
  dsimp only
  by_cases hheld : (if t = true then s.mem.refs[n].pinTransfer else s.mem.refs[n].pinRender) = true
  · rw [if_pos hheld]
    split
    · exact ⟨_, .inl rfl, tidy, rfl, rfl, copies, fun b H R C h => h.unpinSlot t n⟩
    · obtain ⟨u, hu, settles, hcopies⟩ := refUnpinned_settles n (modRef n (refUnpin t) s)
      exact ⟨u, hu, tidy.trans settles.tidy, settles.rnd, settles.xfr, fun seq => (hcopies seq).trans (copies seq),
        fun b H R C h => settles.law b H _ C (h.unpinSlot t n)⟩
  · rw [if_neg hheld]
    refine ⟨s, .inl rfl, .refl s, rfl, rfl, fun _ => Iff.rfl, fun b H R C h => ⟨h.table, ?_, h.queue⟩⟩
    have unheld : ¬ R t n := by
      cases t with
      | true => rw [← h.slots.transfer n]; exact hheld
      | false => rw [← h.slots.render n]; exact hheld
    have eq : withoutSlot t n R = R := by
      funext t' m
      refine propext ⟨And.left, fun hr => ⟨hr, fun e => unheld ?_⟩⟩
      obtain ⟨rfl, rfl⟩ := e
      exact hr
    rw [eq]; exact h.slots

end Sys2Proof.Machine
end

section
/-! PROOF. The end of a pass keeps the laws. -/

namespace Sys2Proof.Machine

/-! ### The end of a pass -/

theorem refUnpinned_keeps (b : Bool) (n : Fin 4) (s : State) : Keeps b b s (refUnpinned n s) := by
  obtain ⟨u, hu, settles, copies⟩ := refUnpinned_settles n s
  have kept : Keeps b b s u := by
    refine ⟨settles.tidy, fun h => ?_⟩
    have holders : holds u = holds s := by
      funext k q
      cases k with
      | copy => exact propext (copies q)
      | view => simp only [holds, settles.rnd]
      | render => simp only [holds, passSeq, settles.rnd]
      | transfer => simp only [holds, transferSource, settles.xfr]
    unfold Held
    rw [holders, slotHolds_congr settles.rnd settles.xfr, mustBeComplete_congr settles.rnd]
    exact settles.law b _ _ _ h
  rcases hu with hu | ⟨r, hu⟩
  · rw [hu]; exact kept
  · rw [hu]; exact (kept.trans (setRedraw_keeps b u)).trans ((offer_quiet r _).keeps b)

/-- R124: what the release of a pass's pins leaves while the pass still runs. -/
structure PassReleases (s t : State) : Prop where
  tidy : Tidy s t
  queue : t.rnd.queue = s.rnd.queue
  pass : t.rnd.pass = s.rnd.pass
  viewPin : t.rnd.viewPin = s.rnd.viewPin
  source : transferSource t = transferSource s
  copies : ∀ seq, copiesFrom seq t ↔ copiesFrom seq s

theorem PassReleases.trans {s t u : State} (h : PassReleases s t) (k : PassReleases t u) : PassReleases s u :=
  ⟨h.tidy.trans k.tidy, k.queue.trans h.queue, k.pass.trans h.pass, k.viewPin.trans h.viewPin, k.source.trans h.source,
    fun seq => (k.copies seq).trans (h.copies seq)⟩

/-- A quiet change releases nothing. -/
theorem PassReleases.of_parts {s t : State} (tidy : Tidy s t) (h : lawParts t = lawParts s) : PassReleases s t := by
  simp only [lawParts, Prod.mk.injEq] at h
  obtain ⟨_, ⟨_, _, _, _, hrefs⟩, _, ⟨hqueue, hpass, hview⟩, hsource, _⟩ := h
  exact ⟨tidy, hqueue, hpass, hview, hsource, fun seq => by simp only [copiesFrom, hrefs]⟩

/-- R85: a slot released in a pass: a swap that follows sets redraw pending, and no pass starts. -/
theorem releaseRefPin_passing (n : Fin 4) {s : State} (hp : s.rnd.pass.isSome = true) :
    PassReleases s (releaseRefPin false n s) ∧
    ∀ b H R C, Law b H R C s → Law b H (withoutSlot false n R) C (releaseRefPin false n s) := by
  obtain ⟨u, hu, tidy, rnd, xfr, copies, law⟩ := releaseRefPin_settles false n s
  have first : PassReleases s u :=
    ⟨tidy, by rw [rnd], by rw [rnd], by rw [rnd], by unfold transferSource; rw [xfr], copies⟩
  rcases hu with hu | ⟨r, hu⟩
  · rw [hu]
    exact ⟨first, law⟩
  · have flagged : lawParts (setRedraw u) = lawParts u := by
      unfold setRedraw selectPass
      rw [if_pos (by dsimp only; rw [rnd]; exact hp)]
      rfl
    have parts := (offer_quiet r (setRedraw u)).parts.trans flagged
    rw [hu]
    exact ⟨first.trans (.of_parts ((setRedraw_keeps true u).tidy.trans (offer_quiet r _).tidy) parts),
      fun b H R C h => (law b H R C h).seen parts⟩

theorem releasePassRefs_passing (p : Pass) (ns : List (Fin 4)) {s : State} (hp : s.rnd.pass.isSome = true) :
    PassReleases s (ns.foldl (fun s n => if (p.refs[n]).isSome then releaseRefPin false n s else s) s) ∧
    ∀ b H R C, Law b H R C s → Law b H (fun t n => R t n ∧ ¬ (t = false ∧ n ∈ ns ∧ (p.refs[n]).isSome = true)) C
      (ns.foldl (fun s n => if (p.refs[n]).isSome then releaseRefPin false n s else s) s) := by
  induction ns generalizing s with
  | nil =>
    refine ⟨⟨.refl s, rfl, rfl, rfl, rfl, fun _ => Iff.rfl⟩, fun b H R C h => ?_⟩
    have same : (fun t n => R t n ∧ ¬ (t = false ∧ n ∈ ([] : List (Fin 4)) ∧ (p.refs[n]).isSome = true)) = R := by
      funext t n; simp
    rw [same]; exact h
  | cons n rest ih =>
    rw [List.foldl_cons]
    by_cases hn : (p.refs[n]).isSome = true
    · rw [if_pos hn]
      obtain ⟨first, law⟩ := releaseRefPin_passing n hp
      obtain ⟨others, laws⟩ := ih (s := releaseRefPin false n s) (by rw [first.pass]; exact hp)
      refine ⟨first.trans others, fun b H R C h => ?_⟩
      have := laws b H _ C (law b H R C h)
      refine cast (congrArg (fun R' => Law b H R' C _) ?_) this
      funext t m
      simp only [withoutSlot, List.mem_cons]
      refine propext ⟨?_, ?_⟩
      · rintro ⟨⟨hr, h1⟩, h2⟩
        refine ⟨hr, ?_⟩
        rintro ⟨ht, rfl | hm, hs⟩
        · exact h1 ⟨ht, rfl⟩
        · exact h2 ⟨ht, hm, hs⟩
      · rintro ⟨hr, h1⟩
        refine ⟨⟨hr, ?_⟩, ?_⟩
        · rintro ⟨ht, rfl⟩
          exact h1 ⟨ht, .inl rfl, hn⟩
        · rintro ⟨ht, hm, hs⟩
          exact h1 ⟨ht, .inr hm, hs⟩
    · rw [if_neg hn]
      obtain ⟨others, laws⟩ := ih hp
      refine ⟨others, fun b H R C h => ?_⟩
      refine cast (congrArg (fun R' => Law b H R' C _) ?_) (laws b H R C h)
      funext t m
      simp only [List.mem_cons]
      refine propext (and_congr_right fun _ => not_congr (and_congr_right fun _ => ?_))
      constructor
      · rintro ⟨hm, hs⟩; exact ⟨.inr hm, hs⟩
      · rintro ⟨rfl | hm, hs⟩
        · exact absurd hs hn
        · exact ⟨hm, hs⟩

/-- R124 step 2: the segment of the pass. -/
theorem releasePassSeg_passing (p : Pass) (s : State) :
    PassReleases s (match p.seg with | some r => releaseSegPin .render r.seq s | none => s) ∧
    ∀ b H R C, Law b H R C s → (∀ q r, C q → p.seg = some r → ∃ k, without .render r.seq H k q) →
      Law b (fun k q => H k q ∧ ¬ (k = .render ∧ p.seg.map (·.seq) = some q)) R C
        (match p.seg with | some r => releaseSegPin .render r.seq s | none => s) := by
  cases hseg : p.seg with
  | none =>
    refine ⟨⟨.refl s, rfl, rfl, rfl, rfl, fun _ => Iff.rfl⟩, fun b H R C h _ => ?_⟩
    exact ⟨h.table.congr (fun k q => by simp) (fun _ => Iff.rfl), h.slots, h.queue⟩
  | some r =>
    have released := releaseSegPin_released .render r.seq s
    refine ⟨⟨released.tidy, by rw [released.rnd], by rw [released.rnd], by rw [released.rnd],
      by unfold transferSource; rw [released.xfr], fun seq => ?_⟩,
      fun b H R C h hC => ⟨?_, by rw [released.refs]; exact h.slots, h.queue.congr released.rnd⟩⟩
    · simp only [copiesFrom, released.refs]
    · refine (releaseSegPin_law h.table .render r.seq (fun q hq => hC q r hq rfl)).congr (fun k q => ?_) (fun _ => Iff.rfl)
      simp only [without, Option.map_some, Option.some.injEq]
      exact and_congr_right fun _ => not_congr (and_congr_right fun _ => eq_comm)

/-- R124: the end of a pass whose pins are released. -/
theorem finishPass_held {b : Bool} {p : Pass} {s t : State} (hp : s.rnd.pass = some p) (h : Held b s) (k : PassReleases s t)
    (law : Law b (fun k q => holds s k q ∧ ¬ (k = .render ∧ p.seg.map (·.seq) = some q))
      (fun t n => slotHolds s t n ∧ ¬ (t = false ∧ n ∈ channels ∧ (p.refs[n]).isSome = true)) (mustBeComplete s) t) :
    Held b (selectPass { t with rnd := { t.rnd with pass := none } }) := by
  refine (selectPass_keeps b _).held ?_
  have passed : passSeq s = p.seg.map (·.seq) := by unfold passSeq; rw [hp]; rfl
  refine ⟨(law.table.withRnd _).congr (fun h' q => ?_) (fun q => ?_), ?_, ?_, ?_⟩
  · cases h' with
    | render =>
      have out := h.queue.2 q
      rw [passed] at out
      simp only [holds, passed, k.queue, true_and]
      simp only [passSeq, Option.bind_none, reduceCtorEq, or_false]
      tauto
    | view => simp [holds, k.viewPin]
    | transfer =>
      simp only [holds]
      rw [show transferSource { t with rnd := { t.rnd with pass := none } } = transferSource s from k.source]
      simp
    | copy =>
      simp only [holds]
      refine (k.copies q).trans ?_
      simp
  · simp only [mustBeComplete, k.viewPin, k.queue]
  · refine ⟨fun n => (law.slots.render n).trans ?_, fun n => (law.slots.transfer n).trans ?_, law.slots.copies, law.slots.one⟩
    · simp only [slotHolds, hp, Option.some.injEq, exists_eq_left', mem_channels, true_and, and_not_self_iff]
      simp
    · simp only [slotHolds]
      rw [show transferSource { t with rnd := { t.rnd with pass := none } } = transferSource s from k.source]
      simp
  · dsimp only
    rw [k.queue]; exact h.queue.1
  · intro q hq
    simp [passSeq] at hq

theorem finishPass_eq (s : State) : ∃ u, finishPass s = selectPass { u with rnd := { u.rnd with pass := none } } ∧ Quiet s u := by
  unfold finishPass
  dsimp only
  split
  · have unflagged : Quiet s { s with rnd := { s.rnd with decayPending := false } } := .of_seen rfl
    exact ⟨_, rfl, unflagged.trans (applyDecay_quiet _)⟩
  · exact ⟨s, rfl, .refl s⟩

theorem passEnds_keeps (s : State) : Keeps false false s (passEnds s) := by
  unfold passEnds
  split
  · exact .refl false s
  · rename_i p hp
    have drawn := (drawPass_quiet p s).trans (commitPass_quiet p _)
    have pass : (commitPass p (drawPass p s)).rnd.pass = some p :=
      (congrArg (fun x => x.2.2.2.1.2.1) drawn.parts).trans hp
    generalize commitPass p (drawPass p s) = u at drawn pass
    obtain ⟨segReleased, segLaw⟩ := releasePassSeg_passing p u
    obtain ⟨refsReleased, refsLaw⟩ := releasePassRefs_passing p channels
      (s := match p.seg with | some r => releaseSegPin .render r.seq u | none => u)
      (by rw [segReleased.pass, pass]; rfl)
    have all := segReleased.trans refsReleased
    obtain ⟨v, hv, decayed⟩ := finishPass_eq (releasePassPins p u)
    have quiet : Keeps false false s u := drawn.keeps false
    have ended : Tidy v { v with rnd := { v.rnd with pass := none } } := .of_rnd id
    have released : PassReleases u v := all.trans (.of_parts decayed.tidy decayed.parts)
    rw [hv]
    refine ⟨((quiet.tidy.trans released.tidy).trans ended).trans (selectPass_keeps false _).tidy, fun h => ?_⟩
    have held := quiet.held h
    refine finishPass_held pass held released ?_
    refine Law.seen (refsLaw _ _ _ _ (segLaw _ _ _ _ held fun q r hq hr => ?_)) decayed.parts
    rcases hq with hq | hq
    · exact ⟨.view, hq, by simp⟩
    · refine ⟨.render, .inl hq, fun e => held.queue.2 q ?_ hq⟩
      simp only [passSeq, pass, Option.bind_some, hr, Option.map_some, e.2]

end Sys2Proof.Machine
end

section
/-! PROOF. The copy engine and the reference requests keep the laws. -/

namespace Sys2Proof.Machine

/-! ### The copy engine -/

/-- R80: the copy of the slot that is COPYING is the only one. -/
theorem copiesFrom_iff {R : Bool → Fin 4 → Prop} {s : State} (h : SlotLaw R s.mem.refs) {n : Fin 4} {c : RefCopy}
    (hc : s.mem.refs[n].copy = some c) (seq : Nat) : copiesFrom seq s ↔ c.phase ≠ .waitUnpin ∧ c.contents.seq = seq := by
  have copying : ∀ m : Fin 4, s.mem.refs[m].copy.isSome = true → m = n := fun m hm =>
    h.one m n ((h.copies m).2 hm) ((h.copies n).2 (by rw [hc]; rfl))
  constructor
  · rintro ⟨m, c', hc', hp⟩
    obtain rfl := copying m (by rw [hc']; rfl)
    obtain rfl := Option.some.inj (hc'.symm.trans hc)
    exact hp
  · exact fun hp => ⟨n, c, hc, hp⟩

/-- R80: without a copy no segment is copied. -/
theorem not_copiesFrom {s : State} (h : ∀ m : Fin 4, s.mem.refs[m].copy = none) (seq : Nat) : ¬ copiesFrom seq s := by
  rintro ⟨m, c, hc, _⟩
  rw [h m] at hc; cases hc

/-- R80: no slot but the one that copies has a copy. -/
theorem copy_none_of_ne {R : Bool → Fin 4 → Prop} {s : State} (h : SlotLaw R s.mem.refs) {n : Fin 4}
    (hc : s.mem.refs[n].copy.isSome = true) {m : Fin 4} (hm : m ≠ n) : s.mem.refs[m].copy = none := by
  cases hx : s.mem.refs[m].copy with
  | none => rfl
  | some c => exact absurd (h.one m n ((h.copies m).2 (by rw [hx]; rfl)) ((h.copies n).2 hc)) hm

/-- The laws with the holders that the state shows, from those with other holders: only COPY has moved. -/
theorem held_of_copies {b : Bool} {H : Holder → Nat → Prop} {R : Bool → Fin 4 → Prop} {C : Nat → Prop} {s t : State}
    (h : Law b H R C t) (hrnd : t.rnd = s.rnd) (hxfr : t.xfr = s.xfr) (hR : R = slotHolds s) (hC : C = mustBeComplete s)
    (hH : ∀ k q, k ≠ .copy → (H k q ↔ holds s k q)) (hcopy : ∀ q, copiesFrom q t ↔ H .copy q) : Held b t := by
  unfold Held
  rw [slotHolds_congr hrnd hxfr, mustBeComplete_congr hrnd, ← hR, ← hC]
  refine ⟨h.table.congr (fun k q => ?_) (fun _ => Iff.rfl), h.slots, h.queue⟩
  cases k with
  | copy => exact hcopy q
  | view => rw [hH .view q (by simp)]; simp only [holds, hrnd]
  | render => rw [hH .render q (by simp)]; simp only [holds, passSeq, hrnd]
  | transfer => rw [hH .transfer q (by simp)]; simp only [holds, transferSource, hxfr]

theorem mustBeComplete_without_copy {s : State} (seq q : Nat) (h : mustBeComplete s q) : ∃ k, without .copy seq (holds s) k q := by
  rcases h with h | h
  · exact ⟨.view, h, by simp⟩
  · exact ⟨.render, .inl h, by simp⟩

/-- R83: the end of the move. -/
theorem copyEnds_keeps (s : State) : Keeps false false s (copyEnds s) := by
  unfold copyEnds
  split
  · exact .refl false s
  · rename_i n hn
    split
    · exact .refl false s
    · rename_i c hc
      split
      · rename_i hphase
        have written := copyWritten_quiet c s
        have refs0 : (copyWritten c s).mem.refs = s.mem.refs := by unfold copyWritten; split <;> rfl
        have released := releaseSegPin_released .copy c.contents.seq (copyWritten c s)
        have refs : (releaseSegPin .copy c.contents.seq (copyWritten c s)).mem.refs = s.mem.refs := released.refs.trans refs0
        have tidy := written.tidy.trans released.tidy
        have law : Held false s → Law false (without .copy c.contents.seq (holds (copyWritten c s))) (slotHolds (copyWritten c s))
            (mustBeComplete (copyWritten c s)) (releaseSegPin .copy c.contents.seq (copyWritten c s)) := by
          intro h
          have held : Held false (copyWritten c s) := h.seen written.parts
          exact ⟨releaseSegPin_law held.table .copy _ (fun q hq => mustBeComplete_without_copy _ q hq),
            by rw [released.refs]; exact held.slots, held.queue.congr released.rnd⟩
        have others : ∀ k q, k ≠ .copy → (without .copy c.contents.seq (holds (copyWritten c s)) k q ↔ holds (copyWritten c s) k q) :=
          fun k q hk => ⟨And.left, fun hq => ⟨hq, fun e => hk e.1⟩⟩
        have gone : Held false s → ∀ q, ¬ without .copy c.contents.seq (holds (copyWritten c s)) .copy q := by
          intro h q hq
          have hc0 : (copyWritten c s).mem.refs[n].copy = some c := by rw [refs0]; exact hc
          have slots : SlotLaw (slotHolds s) (copyWritten c s).mem.refs := by rw [refs0]; exact h.slots
          have := (copiesFrom_iff slots hc0 q).1 hq.1
          exact hq.2 ⟨rfl, this.2.symm⟩
        have rnd := released.rnd
        have xfr := released.xfr
        dsimp only
        generalize releaseSegPin .copy c.contents.seq (copyWritten c s) = u at *
        have hcu : u.mem.refs[n].copy = some c := by rw [refs]; exact hc
        split
        · have self := modRef_self n (fun r => { r with copy := some { c with phase := .waitUnpin } }) u
          have other := fun k (hk : k ≠ n) => modRef_ne hk (fun r => { r with copy := some { c with phase := .waitUnpin } }) u
          have waits : Tidy u (modRef n (fun r => { r with copy := some { c with phase := .waitUnpin } }) u) := by
            refine .of_mem rfl rfl fun hp => hp.slot n rfl rfl other ?_ ?_
            · rw [self]
              simp only [slotPages, hcu]
              exact .refl _
            · rw [self]
              exact ⟨⟨fun _ => rfl, fun _ => (hp.2.2.2 n).1.2 (by rw [hcu]; rfl)⟩, by simp⟩
          refine ⟨tidy.trans waits, fun h => ?_⟩
          have lawu := law h
          have slots := lawu.slots.slot (refs' := (modRef n (fun r => { r with copy := some { c with phase := .waitUnpin } }) u).mem.refs)
            n other (by rw [self]) (by rw [self]) (by rw [self]; exact ⟨fun _ => rfl, fun _ => (lawu.slots.copies n).2 (by rw [hcu]; rfl)⟩)
            (fun hcopying m hm => lawu.slots.one m n hm (by rw [self] at hcopying; exact hcopying))
          refine held_of_copies (s := copyWritten c s) (lawu.withSlots slots) rnd xfr rfl rfl others fun q => ?_
          refine iff_of_false (fun hq => ?_) (gone h q)
          exact ((copiesFrom_iff (s := modRef n (fun r => { r with copy := some { c with phase := .waitUnpin } }) u) slots
            (c := { c with phase := .waitUnpin }) (by rw [self]) q).1 hq).1 rfl
        · obtain ⟨v, hv, settles, vrefs⟩ := swapRef_settles hcu
          rw [hv]
          have redrawn := (setRedraw_keeps false v).trans
            ((offer_quiet (.refDone n false c.contents.seq c.contents.channel) _).keeps false)
          refine ⟨(tidy.trans settles.tidy).trans redrawn.tidy, fun h => redrawn.held ?_⟩
          have lawv := settles.law _ _ _ _ (law h)
          refine held_of_copies (s := copyWritten c s) lawv (settles.rnd.trans rnd) (settles.xfr.trans xfr) rfl rfl others fun q => ?_
          refine iff_of_false (not_copiesFrom (fun m => ?_) q) (gone h q)
          rw [vrefs]
          by_cases hm : n = m
          · rw [if_pos hm]; rfl
          · rw [if_neg hm, refs]
            exact copy_none_of_ne h.slots (n := n) (by rw [hc]; rfl) (fun e => hm e.symm)
      · exact .refl false s

/-- R82: a reclaim for a copy. -/
theorem reclaimForCopy_keeps (fuel need : Nat) (s : State) :
    Keeps false false s (reclaimForCopy fuel need s) ∧ Released s (reclaimForCopy fuel need s) := by
  induction fuel generalizing s with
  | zero => exact ⟨.refl false s, .refl s⟩
  | succ f ih =>
    unfold reclaimForCopy
    split
    · split
      · exact ⟨.refl false s, .refl s⟩
      · rename_i r hr
        obtain ⟨hmem, hc, hu⟩ := oldestReclaimable_spec hr
        have released := removeSegment_released r.seq s
        have removed : Keeps false false s (removeSegment r.seq s) := .of_released released fun H C h =>
          retryPending_law (h.drop hmem (by rw [hc]; simp) hu)
        obtain ⟨keeps, rest⟩ := ih (removeSegment r.seq s)
        exact ⟨removed.trans keeps, released.trans rest⟩
    · exact ⟨.refl false s, .refl s⟩

/-- A slot with another copy. -/
def withCopy (c : RefCopy) (r : RefSlot) : RefSlot := { r with copy := some c }

/-- R82: a slot whose copy is replaced by another of the same segment, before the end of its move. -/
theorem recopied_held {b : Bool} {n : Fin 4} {c c' : RefCopy} {s t : State} (h : Held b s) (hc : s.mem.refs[n].copy = some c)
    (hphase : c.phase ≠ .waitUnpin) (hphase' : c'.phase ≠ .waitUnpin) (hseq : c'.contents.seq = c.contents.seq)
    (only : t = { s with mem := { s.mem with pool := t.mem.pool, refs := t.mem.refs } })
    (self : t.mem.refs[n] = withCopy c' s.mem.refs[n]) (other : ∀ k : Fin 4, k ≠ n → t.mem.refs[k] = s.mem.refs[k]) :
    Held b t := by
  have slots : SlotLaw (slotHolds s) t.mem.refs := h.slots.slot n other (by rw [self]; rfl) (by rw [self]; rfl)
    (by rw [self]; exact ⟨fun _ => rfl, fun _ => (h.slots.copies n).2 (by rw [hc]; rfl)⟩)
    (fun hcopying m hm => h.slots.one m n hm (by rw [self] at hcopying; exact hcopying))
  have law : Law b (holds s) (slotHolds s) (mustBeComplete s) t := by
    rw [only]
    exact (Law.withSlots h slots).withPool _
  refine held_of_copies law (by rw [only]) (by rw [only]) rfl rfl (fun _ _ _ => Iff.rfl) fun q => ?_
  rw [copiesFrom_iff slots (c := c') (by rw [self]; rfl)]
  refine Iff.trans ?_ (copiesFrom_iff h.slots hc q).symm
  simp [hphase, hphase', hseq]

/-- R66: the pages of a slot whose copy is replaced. -/
theorem recopied_placed {n : Fin 4} {c c' : RefCopy} {m m' : Mem} (h : Placed m) (hc : m.refs[n].copy = some c)
    (hphase : c'.phase ≠ .waitSetup) (hbad : m'.bad = m.bad) (htable : m'.table = m.table)
    (self : m'.refs[n] = withCopy c' m.refs[n]) (other : ∀ k : Fin 4, k ≠ n → m'.refs[k] = m.refs[k])
    (hpages : (m'.pool ++ (m.refs[n].pages ++ c'.pages)).Perm (m.pool ++ (m.refs[n].pages ++ c.pages))) : Placed m' := by
  refine h.slot n hbad htable other ?_ ?_
  · rw [self]
    simp only [slotPages, hc]
    exact hpages
  · rw [self]
    refine ⟨⟨fun _ => rfl, fun _ => (h.2.2.2 n).1.2 (by rw [hc]; rfl)⟩, fun x hx hw => absurd ?_ hphase⟩
    rw [Option.some.inj hx]; exact hw

/-- R83: the slot after a copy that found no room. -/
def uncopied (r : RefSlot) : RefSlot := { r with state := if r.contents.isSome then .valid else .empty, copy := none }

theorem uncopied_idle (r : RefSlot) : (uncopied r).state ≠ .copying := by
  unfold uncopied
  dsimp only
  split <;> simp

/-- R83: a copy that ends with NO_ROOM. -/
theorem copyNoRoom_keeps {n : Fin 4} {c c' : RefCopy} {s u : State} (hseq : c'.contents.seq = c.contents.seq)
    (before : Keeps false false s u) (hu : u.mem.refs[n].copy = some c') (hpages : Placed s.mem → c'.pages = []) :
    Keeps false false s (copyNoRoom n c u) := by
  have released := releaseSegPin_released .copy c.contents.seq u
  have law := fun b H C (h : TableLaw b H C u) => releaseSegPin_law h .copy c.contents.seq
  have offered : Keeps false false (modRef n uncopied (releaseSegPin .copy c.contents.seq u)) (copyNoRoom n c u) :=
    (offer_quiet (.refDone n true c.contents.seq c.contents.channel) _).keeps false
  have refs := released.refs
  have rnd := released.rnd
  have xfr := released.xfr
  have steps := before.tidy.trans released.tidy
  generalize releaseSegPin .copy c.contents.seq u = v at *
  have self := modRef_self n uncopied v
  have other := fun k (hk : k ≠ n) => modRef_ne hk uncopied v
  have ended : Tidy s (modRef n uncopied v) := by
    refine ⟨steps.startUp, fun hs => steps.stores hs, fun hp => (steps.placed hp).slot n rfl rfl other ?_ ?_, steps.transfer⟩
    · rw [self, refs]
      simp only [slotPages, hu, Option.map_some, Option.getD_some, hpages hp]
      exact .refl _
    · rw [self]
      exact ⟨iff_of_false (uncopied_idle _) (by simp [uncopied]), by simp [uncopied]⟩
  refine ⟨ended.trans offered.tidy, fun h => offered.held ?_⟩
  have held := before.held h
  have lawv : Law false (without .copy c.contents.seq (holds u)) (slotHolds u) (mustBeComplete u) v :=
    ⟨law _ _ _ held.table (fun q hq => mustBeComplete_without_copy _ q hq), by rw [refs]; exact held.slots, held.queue.congr rnd⟩
  have slots := lawv.slots.slot (refs' := (modRef n uncopied v).mem.refs) n other (by rw [self]; rfl) (by rw [self]; rfl)
    (by rw [self]; exact iff_of_false (uncopied_idle _) (by simp [uncopied]))
    (fun hcopying => by rw [self] at hcopying; exact absurd hcopying (uncopied_idle _))
  refine held_of_copies (s := u) (lawv.withSlots slots) rnd xfr rfl rfl
    (fun k q hk => ⟨And.left, fun hq => ⟨hq, fun e => hk e.1⟩⟩) fun q => ?_
  refine iff_of_false (not_copiesFrom (s := modRef n uncopied v) (fun m => ?_) q) (fun hq => ?_)
  · by_cases hm : m = n
    · subst hm; rw [self]; rfl
    · rw [other m hm, refs]
      exact copy_none_of_ne held.slots (n := n) (by rw [hu]; rfl) hm
  · have := (copiesFrom_iff held.slots hu q).1 hq.1
    exact hq.2 ⟨rfl, by rw [← hseq]; exact this.2.symm⟩

/-- R82, R83: the copy of a slot in WAIT_SETUP passes to MOVE, or ends with NO_ROOM. -/
theorem startMove_keeps {n : Fin 4} {c : RefCopy} {s : State} (hc : s.mem.refs[n].copy = some c) (hphase : c.phase = .waitSetup) :
    Keeps false false s (startMove n s) := by
  have self0 := modRef_self n (withCopy { c with phase := .move }) s
  have other0 := fun k (hk : k ≠ n) => modRef_ne hk (withCopy { c with phase := .move }) s
  have begun : Keeps false false s (modRef n (withCopy { c with phase := .move }) s) :=
    ⟨.of_mem rfl rfl fun hp => recopied_placed hp hc (by simp) rfl rfl self0 other0 (.refl _),
      fun h => recopied_held (c' := { c with phase := .move }) h hc (by rw [hphase]; simp) (by simp) rfl rfl self0 other0⟩
  have started : startMove n s =
      if (reclaimForCopy s.mem.table.length c.need (modRef n (withCopy { c with phase := .move }) s)).mem.pool.length < c.need then
        copyNoRoom n c (reclaimForCopy s.mem.table.length c.need (modRef n (withCopy { c with phase := .move }) s))
      else takeCopyPages n c (reclaimForCopy s.mem.table.length c.need (modRef n (withCopy { c with phase := .move }) s)) := by
    unfold startMove; rw [hc]; rfl
  rw [started]
  obtain ⟨reclaimed, released⟩ := reclaimForCopy_keeps s.mem.table.length c.need (modRef n (withCopy { c with phase := .move }) s)
  have refs1 := released.refs
  generalize reclaimForCopy s.mem.table.length c.need (modRef n (withCopy { c with phase := .move }) s) = u at *
  have ucopy : u.mem.refs[n].copy = some { c with phase := .move } := by rw [refs1, self0]; rfl
  have before := begun.trans reclaimed
  have noPages : Placed s.mem → c.pages = [] := fun hp => (hp.2.2.2 n).2 c hc hphase
  split
  · exact copyNoRoom_keeps (c' := { c with phase := .move }) rfl before ucopy noPages
  · have taken : takeCopyPages n c u = modRef n (withCopy { c with phase := .move, pages := u.mem.pool.take c.need })
        { u with mem := { u.mem with pool := u.mem.pool.drop c.need } } := rfl
    rw [taken]
    have self := modRef_self n (withCopy { c with phase := .move, pages := u.mem.pool.take c.need })
        { u with mem := { u.mem with pool := u.mem.pool.drop c.need } }
    have other := fun k (hk : k ≠ n) => modRef_ne hk (withCopy { c with phase := .move, pages := u.mem.pool.take c.need })
        { u with mem := { u.mem with pool := u.mem.pool.drop c.need } }
    refine ⟨⟨before.tidy.startUp, fun hs => before.tidy.stores hs, fun hp => ?_, before.tidy.transfer⟩,
      fun h => recopied_held (c' := { c with phase := .move, pages := u.mem.pool.take c.need }) (before.held h) ucopy (by simp)
        (by simp) rfl rfl self other⟩
    refine recopied_placed (before.tidy.placed hp) ucopy (by simp) rfl rfl self other ?_
    rw [noPages hp]
    show (u.mem.pool.drop c.need ++ (u.mem.refs[n].pages ++ u.mem.pool.take c.need)).Perm
      (u.mem.pool ++ (u.mem.refs[n].pages ++ []))
    rw [List.append_nil, ← List.append_assoc]
    refine List.perm_append_comm.trans ?_
    rw [← List.append_assoc, List.take_append_drop]

/-! ### The requests -/

theorem resolveSource_spec {source : Option Nat} {s : State} {r : SegRec} (h : resolveSource source s = some r) :
    r ∈ s.mem.table ∧ r.state = .complete := by
  unfold resolveSource at h
  split at h
  · exact ⟨by simpa using List.mem_of_find?_eq_some h, by simpa using List.find?_some h⟩
  · rename_i seq
    obtain ⟨hfind, hc⟩ := Option.filter_eq_some_iff.1 h
    exact ⟨(findSeg_mem hfind).1, by simpa using hc⟩

/-- R80: a slot that begins to copy. -/
def copyingFrom (c : RefCopy) (r : RefSlot) : RefSlot := { r with state := .copying, copy := some c }

/-- R80: the acceptance of a SAVE_REF pins the segment and begins the copy. -/
theorem copyTaken_keeps {n : Fin 4} {c : RefCopy} {r : SegRec} {s : State} (hidle : ∀ m : Fin 4, s.mem.refs[m].state ≠ .copying)
    (hmem : r ∈ s.mem.table) (hr : r.state = .complete) (hphase : c.phase = .waitSetup) (hpages : c.pages = [])
    (hseq : c.contents.seq = r.seq) : Keeps false false s (modRef n (copyingFrom c) (pinSegment .copy r.seq s).1) := by
  have released := pinSegment_released .copy r.seq s
  have granted : Held false s → (pinSegment .copy r.seq s).2 = true := by
    intro h
    have := findSeg_of_mem h.table.segs.nodup hmem
    unfold pinSegment
    rw [this]
    dsimp only
    rw [if_pos hr]
  have pinned := fun h : Held false s => pinSegment_law h.table (granted h)
  have refs := released.refs
  have rnd := released.rnd
  have xfr := released.xfr
  have tidy := released.tidy
  generalize (pinSegment .copy r.seq s).1 = u at *
  have self := modRef_self n (copyingFrom c) u
  have other := fun k (hk : k ≠ n) => modRef_ne hk (copyingFrom c) u
  refine ⟨tidy.trans (.of_mem rfl rfl fun hp => hp.slot n rfl rfl other ?_ ?_), fun h => ?_⟩
  · have none : u.mem.refs[n].copy = none := by
      have := mt (hp.2.2.2 n).1.2 (by rw [refs]; exact hidle n)
      simpa using this
    rw [self]
    simp only [slotPages, copyingFrom, none, Option.map_some, Option.getD_some, hpages]
    exact .refl _
  · rw [self]
    exact ⟨by simp [copyingFrom], fun x hx _ => by rw [← Option.some.inj hx]; exact hpages⟩
  · have none : ∀ m : Fin 4, s.mem.refs[m].copy = none := fun m => by
      have := mt (h.slots.copies m).2 (hidle m)
      simpa using this
    have slots : SlotLaw (slotHolds s) (modRef n (copyingFrom c) u).mem.refs := by
      refine SlotLaw.slot (refs := u.mem.refs) (by rw [refs]; exact h.slots) n other (by rw [self]; rfl) (by rw [self]; rfl)
        (by rw [self]; simp [copyingFrom]) (fun _ m hm => ?_)
      rw [refs] at hm
      exact absurd hm (hidle m)
    have law : Law false (withPin .copy r.seq (holds s)) (slotHolds s) (mustBeComplete s) u :=
      ⟨pinned h, by rw [refs]; exact h.slots, h.queue.congr rnd⟩
    refine held_of_copies (s := s) (law.withSlots slots) rnd xfr rfl rfl
      (fun k q hk => ⟨fun hq => hq.resolve_right fun e => hk e.1, .inl⟩) fun q => ?_
    rw [copiesFrom_iff (s := modRef n (copyingFrom c) u) slots (c := c) (by rw [self]; rfl), hphase, hseq]
    constructor
    · rintro ⟨_, rfl⟩; exact .inr ⟨rfl, rfl⟩
    · rintro (hq | ⟨_, rfl⟩)
      · exact absurd hq (not_copiesFrom none q)
      · exact ⟨by simp, rfl⟩

theorem saveRefOf_keeps (tag : Byte) (p : List Byte) (s : State) : Keeps false false s (saveRefOf tag p s) := by
  have answered : ∀ st body t, Keeps false false t (reply 0x40 tag st body t) := fun st body t => (reply_quiet ..).keeps false
  unfold saveRefOf
  split
  · exact answered _ _ s
  · split
    · rename_i n c _ _
      split
      · exact answered _ _ s
      · split
        · exact answered _ _ s
        · rename_i hbusy
          split
          · exact answered _ _ s
          · split
            · exact answered _ _ s
            · rename_i r hr
              split
              · exact answered _ _ s
              · split
                · exact answered _ _ s
                · obtain ⟨hmem, hc⟩ := resolveSource_spec hr
                  have idle : ∀ m : Fin 4, s.mem.refs[m].state ≠ .copying := by
                    intro m hm
                    have free : copyingSlot s = none := by simpa [copyBusy] using hbusy
                    exact List.find?_eq_none.1 free m (mem_channels m) (by simpa using hm)
                  have taken := copyTaken_keeps (n := n)
                    (c := ⟨.waitSetup, ⟨c, r.seq, r.n, r.decimation, r.scales[c]⟩, pagesOf r.n, []⟩) idle hmem hc rfl rfl rfl
                  have replied := taken.trans (answered .accepted (.saveRef r.seq (pagesOf r.n)) _)
                  unfold saveRefAccepted
                  dsimp only
                  split
                  · exact replied
                  · refine replied.trans (startMove_keeps (n := n)
                      (c := ⟨.waitSetup, ⟨c, r.seq, r.n, r.decimation, r.scales[c]⟩, pagesOf r.n, []⟩) ?_ rfl)
                    exact congrArg RefSlot.copy (modRef_self n (copyingFrom _) (pinSegment .copy r.seq s).1)
    · exact answered _ _ s

/-- R84: the slot after CLEAR_REF. -/
def emptied (r : RefSlot) : RefSlot := { r with state := .empty, contents := none }

theorem clearRefSlot_keeps {n : Fin 4} {s : State} (hv : s.mem.refs[n].state = .valid) : Keeps false false s (clearRefSlot n s) := by
  have self := modRef_self n emptied s
  have other := fun k (hk : k ≠ n) => modRef_ne hk emptied s
  have none : (s.mem.refs[n].state = .copying ↔ s.mem.refs[n].copy.isSome = true) → s.mem.refs[n].copy = none := by
    intro h
    have := mt h.2 (by rw [hv]; simp)
    simpa using this
  have cleared : Keeps false false s (modRef n emptied s) := by
    refine ⟨.of_mem rfl rfl fun hp => hp.slot n rfl rfl other ?_ ?_, fun h => ?_⟩
    · rw [self]; exact .refl _
    · have hnone := none (hp.2.2.2 n).1
      rw [self]
      simp only [emptied]
      rw [hnone]
      simp
    · have hnone := none (h.slots.copies n)
      have slots := h.slots.slot (refs' := (modRef n emptied s).mem.refs) n other (by rw [self]; rfl) (by rw [self]; rfl)
        (by rw [self]; simp only [emptied]; rw [hnone]; simp) (fun hc => by rw [self] at hc; simp [emptied] at hc)
      refine held_of_copies (s := s) (Law.withSlots h slots) rfl rfl rfl rfl (fun _ _ _ => Iff.rfl) fun q => ?_
      have copies : ∀ m : Fin 4, (modRef n emptied s).mem.refs[m].copy = s.mem.refs[m].copy := by
        intro m
        by_cases hm : m = n
        · subst hm; rw [self]; rfl
        · rw [other m hm]
      simp only [holds, copiesFrom, copies]
  unfold clearRefSlot
  dsimp only
  split
  · exact cleared.trans (setRedraw_keeps false _)
  · exact (cleared.trans (refUnpinned_keeps false n _)).trans (setRedraw_keeps false _)

theorem clearRefOf_keeps (tag : Byte) (p : List Byte) (s : State) : Keeps false false s (clearRefOf tag p s) := by
  have answered : ∀ st t, Keeps false false t (reply 0x41 tag st .empty t) := fun st t => (reply_quiet ..).keeps false
  unfold clearRefOf
  split
  · exact answered _ s
  · split
    · exact answered _ s
    · split
      · exact answered _ s
      · exact answered _ s
      · rename_i hv
        exact (clearRefSlot_keeps hv).trans (answered _ _)

end Sys2Proof.Machine
end

section
/-! PROOF. The view pin, the start of a run and the transfer engine keep the laws. -/

namespace Sys2Proof.Machine

/-! ### The view pin -/

theorem viewLost_keeps (b : Bool) (cause : ViewLostCause) (seq : Nat) (s : State) : Keeps b b s (viewLost cause seq s) :=
  ((offer_quiet (.viewLost seq cause) s).keeps b).trans (.of_seen rfl)

/-- R126: the state once RND has given up its VIEW pin. -/
def viewReleased (held : Option Nat) (s : State) : State :=
  match held with
  | some y => releaseSegPin .view y s
  | none => s

theorem viewReleased_released (held : Option Nat) (s : State) : Released s (viewReleased held s) := by
  cases held with
  | none => exact .refl s
  | some y => exact releaseSegPin_released .view y s

theorem viewReleased_law {b : Bool} {H : Holder → Nat → Prop} {C : Nat → Prop} (held : Option Nat) {s : State} (h : TableLaw b H C s)
    (hC : ∀ q, C q → ∃ k, H k q ∧ ¬ (k = .view ∧ held = some q)) :
    TableLaw b (fun k q => H k q ∧ ¬ (k = .view ∧ held = some q)) C (viewReleased held s) := by
  cases held with
  | none => exact h.congr (fun k q => by simp) (fun _ => Iff.rfl)
  | some y =>
    have same : ∀ k q, (H k q ∧ ¬ (k = .view ∧ some y = some q)) ↔ without .view y H k q := fun k q =>
      and_congr_right fun _ => not_congr (and_congr_right fun _ => by rw [Option.some.injEq]; exact eq_comm)
    refine (releaseSegPin_law h .view y fun q hq => ?_).congr same (fun _ => Iff.rfl)
    obtain ⟨k, hk⟩ := hC q hq
    exact ⟨k, (same k q).1 hk⟩

/-- R126: RND takes up the VIEW pin of `new`, which `u` has been given, and gives up the one it held. -/
theorem viewMoved_held {b : Bool} {new : Option Nat} {s u : State} (h : Held b s) (hu : Released s u)
    (law : TableLaw b (fun k q => holds s k q ∨ (k = .view ∧ new = some q)) (fun q => new = some q ∨ q ∈ s.rnd.queue) u)
    (hne : ∀ q, s.rnd.viewPin = some q → new ≠ some q) :
    Held b (viewReleased s.rnd.viewPin { u with rnd := { u.rnd with viewPin := new } }) := by
  have released := viewReleased_released s.rnd.viewPin { u with rnd := { u.rnd with viewPin := new } }
  have moved := viewReleased_law s.rnd.viewPin (law.withRnd { u.rnd with viewPin := new }) (by
    rintro q (hq | hq)
    · exact ⟨.view, .inr ⟨rfl, hq⟩, fun e => hne q e.2 hq⟩
    · exact ⟨.render, .inl (.inl hq), by simp⟩)
  unfold Held
  rw [holds_congr released.rnd released.xfr released.refs, slotHolds_congr released.rnd released.xfr,
    mustBeComplete_congr released.rnd]
  have rnd := hu.rnd
  refine ⟨moved.congr (fun k q => ?_) (fun q => ?_), ?_, QueueLaw.congr (s := { u with rnd := { u.rnd with viewPin := new } }) ?_ released.rnd⟩
  · cases k with
    | view =>
      simp only [holds, true_and]
      constructor
      · intro hq; exact ⟨.inr hq, fun e => hne q e hq⟩
      · rintro ⟨hq | hq, hno⟩
        · exact absurd hq hno
        · exact hq
    | render => simp [holds, passSeq, rnd]
    | transfer => simp [holds, transferSource, hu.xfr]
    | copy => simp [holds, copiesFrom, hu.refs]
  · simp [mustBeComplete, rnd]
  · rw [released.refs]
    refine ⟨fun n => ?_, fun n => ?_, ?_, ?_⟩
    · refine (show _ ↔ _ from ?_)
      simp only [hu.refs, slotHolds, rnd]
      exact h.slots.render n
    · simp only [hu.refs, slotHolds, transferSource, hu.xfr]
      exact h.slots.transfer n
    · simp only [hu.refs]; exact h.slots.copies
    · simp only [hu.refs]; exact h.slots.one
  · have := h.queue
    unfold QueueLaw passSeq at *
    simp only [rnd]
    exact this

theorem viewMoved_tidy (held new : Option Nat) {s u : State} (hu : Tidy s u) :
    Tidy s (viewReleased held { u with rnd := { u.rnd with viewPin := new } }) :=
  (hu.trans (.of_rnd (r := { u.rnd with viewPin := new }) id)).trans (viewReleased_released held _).tidy

/-- R126: giving up the VIEW pin. -/
theorem viewGivenUp_keeps (b : Bool) (s : State) :
    Keeps b b s (viewReleased s.rnd.viewPin { s with rnd := { s.rnd with viewPin := none } }) := by
  refine ⟨viewMoved_tidy _ none (.refl s), fun h => viewMoved_held h (.refl s) ?_ (by simp)⟩
  refine ⟨h.table.segs, Pinned.congr (C := fun q => q ∈ s.rnd.queue) (h.table.pinned.mono fun q hq => .inr hq) (fun k q => ?_)
    fun q => ?_⟩ <;> simp

theorem moveViewPin_eq (s : State) : moveViewPin s =
    if s.setup.viewFixed ∧ s.setup.viewSeq ≠ 0 then
      if s.rnd.viewPin = some s.setup.viewSeq then s
      else if (pinSegment .view s.setup.viewSeq s).2 then
        viewReleased s.rnd.viewPin { (pinSegment .view s.setup.viewSeq s).1 with
          rnd := { (pinSegment .view s.setup.viewSeq s).1.rnd with viewPin := some s.setup.viewSeq } }
      else viewLost .unavailable s.setup.viewSeq (viewReleased s.rnd.viewPin { s with rnd := { s.rnd with viewPin := none } })
    else viewReleased s.rnd.viewPin { s with rnd := { s.rnd with viewPin := none } } := by
  have refused := pinSegment_refused (h := .view) (seq := s.setup.viewSeq) (s := s)
  unfold moveViewPin viewReleased
  dsimp only
  split
  · split
    · rfl
    · generalize pinSegment .view s.setup.viewSeq s = a at refused ⊢
      obtain ⟨s1, g⟩ := a
      cases g with
      | true => rfl
      | false =>
        obtain rfl : s1 = s := refused rfl
        rfl
  · rfl

theorem moveViewPin_keeps (b : Bool) (s : State) : Keeps b b s (moveViewPin s) := by
  rw [moveViewPin_eq]
  split
  · split
    · exact .refl b s
    · rename_i hne
      split
      · rename_i hg
        have released := pinSegment_released .view s.setup.viewSeq s
        refine ⟨viewMoved_tidy _ _ released.tidy, fun h => viewMoved_held h released ?_ ?_⟩
        · obtain ⟨r, hr, hc, he⟩ := pinSegment_granted hg
          obtain ⟨hmem, hseq⟩ := findSeg_mem hr
          have pinned := pinSegment_law h.table hg
          refine ⟨pinned.segs, ?_⟩
          have stands : ∃ x ∈ (pinSegment .view s.setup.viewSeq s).1.mem.table, x.seq = s.setup.viewSeq ∧ x.state = .complete := by
            rw [he, modPins_table]
            exact ⟨_, List.mem_map_of_mem hmem, by simpa using hseq, by simpa using hc⟩
          have holders : ∀ k q, (holds s k q ∨ (k = .view ∧ some s.setup.viewSeq = some q)) ↔
              withPin .view s.setup.viewSeq (holds s) k q := fun k q =>
            Iff.rfl.or (and_congr_right fun _ => by rw [Option.some.injEq]; exact eq_comm)
          refine Pinned.congr (C := fun q => some s.setup.viewSeq = some q ∨ q ∈ s.rnd.queue)
            ⟨pinned.pinned.pins, pinned.pinned.filling, pinned.pinned.stale, pinned.pinned.present, fun q hq => ?_, fun q hq => ?_⟩
            holders fun _ => Iff.rfl
          · rcases hq with hq | hq
            · obtain rfl := Option.some.inj hq; exact stands
            · exact pinned.pinned.complete q (.inr hq)
          · rcases hq with hq | hq
            · exact ⟨.view, .inr ⟨rfl, (Option.some.inj hq).symm⟩⟩
            · exact ⟨.render, .inl (.inl hq)⟩
        · intro q hq e
          exact hne (hq.trans e.symm)
      · exact (viewGivenUp_keeps b s).trans (viewLost_keeps b _ _ _)
  · exact viewGivenUp_keeps b s

/-! ### The start of a run -/

/-- R77: a COMPLETE record with pins becomes STALE. -/
theorem stale_held {b : Bool} {r : SegRec} {s : State} (h : Held b s) (hmem : r ∈ s.mem.table) (hc : r.state = .complete)
    (hp : unpinned r = false) :
    TableLaw b (holds s) (fun q => s.rnd.viewPin = some q ∧ q ≠ r.seq) (modSeg r.seq (fun x => { x with state := .stale }) s) := by
  have hn := h.table.segs.nodup
  have pinned := h.table.pinned
  have same : ∀ x : SegRec, (if x.seq == r.seq then { x with state := SegState.stale } else x).seq = x.seq ∧
      (if x.seq == r.seq then { x with state := SegState.stale } else x).pins = x.pins := by
    intro x; split <;> exact ⟨rfl, rfl⟩
  have pins : ∀ x : SegRec, unpinned (if x.seq == r.seq then { x with state := SegState.stale } else x) = unpinned x := by
    intro x; split <;> rfl
  have other : ∀ x : SegRec, x.seq ≠ r.seq → (if x.seq == r.seq then { x with state := SegState.stale } else x) = x := by
    intro x hx; simp [hx]
  refine ⟨h.table.segs.map (g := fun x => if x.seq == r.seq then { x with state := .stale } else x) (fun x => (same x).1)
    fun x hx => ?_, fun x hx k => ?_, fun x hx hf => ?_, fun x hx hs => ?_, fun k q hq => ?_, fun q hq => ?_, fun q hq => ?_⟩
  · by_cases e : x.seq = r.seq
    · rw [eq_of_seq hn hx hmem e]; simp [hc]
    · rw [other x e]
  · obtain ⟨y, hy, rfl⟩ := List.mem_map.1 hx
    rw [(same y).1, (same y).2]
    exact pinned.pins y hy k
  · obtain ⟨y, hy, rfl⟩ := List.mem_map.1 hx
    by_cases e : y.seq = r.seq
    · simp [e] at hf
    · rw [other y e] at hf ⊢
      exact pinned.filling y hy hf
  · obtain ⟨y, hy, rfl⟩ := List.mem_map.1 hx
    rw [pins]
    by_cases e : y.seq = r.seq
    · rw [eq_of_seq hn hy hmem e]; exact hp
    · rw [other y e] at hs
      exact pinned.stale y hy hs
  · obtain ⟨x, hx, rfl⟩ := pinned.present k q hq
    exact ⟨_, List.mem_map_of_mem hx, (same x).1⟩
  · obtain ⟨hv, hne⟩ := hq
    obtain ⟨x, hx, rfl, hxc⟩ := pinned.complete q (.inl hv)
    exact ⟨_, List.mem_map_of_mem hx, (same x).1, by rw [other x hne]; exact hxc⟩
  · exact ⟨.view, hq.1⟩

/-- R77: one record, from oldest to newest. -/
theorem restartSegment_tidy (seq : Nat) (s : State) :
    Tidy s (restartSegment seq s) ∧ (restartSegment seq s).rnd.queue = s.rnd.queue := by
  have staled : Released s (modSeg seq (fun x => { x with state := .stale }) s) :=
    modSeg_released (f := fun x => { x with state := .stale }) (fun _ => rfl) seq s
  have given := viewReleased_released (some seq) { modSeg seq (fun x => { x with state := .stale }) s with
    rnd := { s.rnd with viewPin := none } }
  unfold restartSegment
  split
  · exact ⟨.refl s, rfl⟩
  · split
    · exact ⟨.refl s, rfl⟩
    · split
      · exact ⟨(removeSegment_released seq s).tidy, by rw [(removeSegment_released seq s).rnd]⟩
      · dsimp only
        split
        · have moved := viewMoved_tidy (some seq) none staled.tidy
          refine ⟨moved.trans (viewLost_keeps true .stale seq _).tidy, ?_⟩
          unfold viewLost
          dsimp only
          rw [offer_only]
          exact congrArg (·.queue) given.rnd
        · exact ⟨staled.tidy, rfl⟩

theorem restartSegment_held {b : Bool} {seq : Nat} {s : State} (h : Held b s) (hqueue : s.rnd.queue = []) :
    Held b (restartSegment seq s) := by
  have staled : Released s (modSeg seq (fun x => { x with state := .stale }) s) :=
    modSeg_released (f := fun x => { x with state := .stale }) (fun _ => rfl) seq s
  unfold restartSegment
  split
  · exact h
  · rename_i r hr
    obtain ⟨hmem, rfl⟩ := findSeg_mem hr
    split
    · exact h
    · rename_i hstate
      have hc : r.state = .complete := by simpa using hstate
      split
      · rename_i hu
        exact (Keeps.of_released (removeSegment_released r.seq s) (fun H C (hl : TableLaw b H C s) =>
          retryPending_law (hl.drop hmem (by rw [hc]; simp) hu))).held h
      · rename_i hu
        have law := stale_held h hmem hc (by simpa using hu)
        dsimp only
        split
        · rename_i hv
          have viewed : s.rnd.viewPin = some r.seq := (h.table.pinned.pins r hmem .view).1 hv
          refine (viewLost_keeps b .stale r.seq _).held ?_
          have := viewMoved_held (new := none) h staled
            ⟨law.segs, (law.pinned.mono fun q hq => ?_).congr (fun k q => ?_) fun _ => Iff.rfl⟩ (by simp)
          · rw [viewed] at this
            exact this
          · rw [hqueue] at hq
            simp at hq
          · simp
        · rename_i hv
          have unviewed : s.rnd.viewPin ≠ some r.seq := fun e => hv ((h.table.pinned.pins r hmem .view).2 e)
          refine ⟨law.congr (fun k q => ?_) fun q => ?_, h.slots, h.queue⟩
          · cases k <;> exact Iff.rfl
          · simp only [mustBeComplete, modSeg, hqueue, List.not_mem_nil, or_false]
            exact ⟨fun e => ⟨e, fun hq => unviewed (hq ▸ e)⟩, And.left⟩

theorem runRestart_tidy (s : State) : Tidy s (runRestart s) :=
  .foldl (fun t q => (restartSegment_tidy q t).1) _ s

theorem runRestart_held {b : Bool} {s : State} (h : Held b s) (hqueue : s.rnd.queue = []) : Held b (runRestart s) := by
  have all : ∀ (qs : List Nat) (t : State), Held b t → t.rnd.queue = [] → Held b (qs.foldl (fun s q => restartSegment q s) t) := by
    intro qs
    induction qs with
    | nil => exact fun t ht _ => ht
    | cons q rest ih => exact fun t ht hq => ih _ (restartSegment_held ht hq) (by rw [(restartSegment_tidy q t).2, hq])
  exact all _ s h hqueue

/-- R92: in STOPPED nothing is in flight. -/
theorem Keeps.of_stopped {s : State} (hst : s.acq.state = .stopped) : Keeps false true s s :=
  ⟨.refl s, fun h => ⟨⟨SegmentLaw.between h.table.segs (by rw [hst]; rfl) (by rw [hst]; simp) (by rw [hst]; simp), h.table.pinned⟩,
    h.slots, h.queue⟩⟩

/-- R92: the bookkeeping of a run that starts. -/
def runBegun (single : Bool) (s : State) : State :=
  { s with acq := { s.acq with
      runCount := 0, lastSeq := 0, singlePending := single
      forcePending := false, runStart := some s.now } }

theorem runStarts_keeps (single : Bool) {s : State} (hst : s.acq.state = .stopped) : Keeps false false s (runStarts single s) := by
  have begun : Keeps true true s (runBegun single s) := .of_seen rfl
  have emptied := begun.trans (emptyQueue_keeps true _)
  have queue : (emptyQueue none (runBegun single s)).rnd.queue = [] := congrArg (·.queue) (emptyQueue_released none _).rnd
  have restarted : Keeps true true s (runRestart (emptyQueue none (runBegun single s))) :=
    ⟨emptied.tidy.trans (runRestart_tidy _), fun h => runRestart_held (emptied.held h) queue⟩
  have armed : ∀ t : State, Keeps true false t (reportAcq .stopped .request (arm { t with trg := { t.trg with holdoff := none } })) := by
    intro t
    have idle : Keeps true true t { t with trg := { t.trg with holdoff := none } } := .of_seen rfl
    exact (idle.trans (arm_keeps _)).trans ((offer_quiet _ _).keeps false)
  exact ((Keeps.of_stopped hst).trans restarted).trans (armed _)

theorem takeRun_keeps (s : State) : Keeps false false s (takeRun s).1 := by
  unfold takeRun
  split
  · rename_i hst
    split
    · exact runStarts_keeps false hst
    · exact .refl false s
  · exact .refl false s
  · exact .refl false s

theorem takeSingle_keeps (s : State) : Keeps false false s (takeSingle s).1 := by
  unfold takeSingle
  split
  · rename_i hst
    split
    · exact runStarts_keeps true hst
    · exact .refl false s
  · exact .refl false s
  · exact .of_seen rfl

theorem plainRequest_keeps {f : State → State × Status} (h : ∀ t, Keeps false false t (f t).1) (code tag : Byte) (p : List Byte)
    (s : State) : Keeps false false s (plainRequest code tag p f s) := by
  unfold plainRequest
  split
  · exact (reply_quiet ..).keeps false
  · exact (h s).trans ((reply_quiet ..).keeps false)

/-! ### The transfer engine -/

/-- A change of the transfer engine that leaves its source. -/
theorem Quiet.of_xfr {s : State} {x : Xfr} (hsource : transferSource { s with xfr := x } = transferSource s)
    (hlaw : TransferLaw s → TransferLaw { s with xfr := x }) : Quiet s { s with xfr := x } where
  parts := by unfold lawParts; rw [hsource]; rfl
  stores := id
  transfer := hlaw

/-- R196: what a source resolves to can be pinned. -/
def Pinnable (x : XferSource) (s : State) : Prop :=
  match x with
  | .segment seq _ => ∃ r ∈ s.mem.table, r.seq = seq ∧ r.state = .complete
  | .reference n => s.mem.refs[n].contents.isSome = true

theorem resolveXfer_pinnable {f : SourceForm} {s : State} {r : Resolved} (h : resolveXfer f s = some r) : Pinnable r.source s := by
  have record : ∀ (x : Option SegRec) (c : Channel), (∀ y, x = some y → y ∈ s.mem.table ∧ y.state = .complete) →
      resolveRecord x c = some r → Pinnable r.source s := by
    intro x c hx hr
    unfold resolveRecord at hr
    split at hr
    · cases hr
    · rename_i y
      obtain ⟨hmem, hc⟩ := hx y rfl
      split at hr
      · cases hr; exact ⟨y, hmem, rfl, hc⟩
      · cases hr
  unfold resolveXfer at h
  split at h
  · exact record _ _ (fun y hy => resolveSource_spec (source := none) hy) h
  · rename_i seq c
    exact record _ _ (fun y hy => resolveSource_spec (source := some seq) hy) h
  · obtain ⟨c, hc, rfl⟩ := Option.map_eq_some_iff.1 h
    exact Option.isSome_iff_exists.2 ⟨c, hc⟩

/-- R85: a slot with a TRANSFER pin. -/
def transferPinned (r : RefSlot) : RefSlot := { r with pinTransfer := true }

/-- R197: the TRANSFER pin, and the engine that holds it. -/
theorem transferStarts_keeps {x : XferSource} {e : Xfr} {s : State} (hidle : s.xfr.state = .idle) (hx : Pinnable x s)
    (he : e.state = .reading) (hctx : e.ctx.map (·.source) = some x) (hchunk : e.chunk = s.xfr.chunk) :
    Keeps false false s { pinSource x s with xfr := e } := by
  have before : transferSource s = none := by unfold transferSource; rw [hidle]; simp
  have after : ∀ u : State, transferSource { u with xfr := e } = some x := fun u => by
    unfold transferSource; dsimp only; rw [he]; simpa using hctx
  have isSome : e.ctx.isSome = true := by
    cases h : e.ctx with
    | none => rw [h] at hctx; cases hctx
    | some c => rfl
  have running : ∀ u : State, TransferLaw s → TransferLaw { u with xfr := e } := by
    intro u h
    unfold TransferLaw at h ⊢
    dsimp only
    rw [he, hchunk]
    have := h.2
    rw [hidle] at this
    simpa [isSome] using this
  cases x with
  | segment seq ch =>
    obtain ⟨r, hmem, rfl, hc⟩ := hx
    have released := pinSegment_released .transfer r.seq s
    have pinned : Tidy s (pinSegment .transfer r.seq s).1 := released.tidy
    refine ⟨⟨pinned.startUp, pinned.stores, pinned.placed, running _⟩, fun h => ?_⟩
    have found := findSeg_of_mem h.table.segs.nodup hmem
    have granted : (pinSegment .transfer r.seq s).2 = true := by unfold pinSegment; rw [found]; dsimp only; rw [if_pos hc]
    have law := pinSegment_law h.table granted
    have rnd := released.rnd
    have refs := released.refs
    have source := after (pinSegment .transfer r.seq s).1
    show Held false { (pinSegment .transfer r.seq s).1 with xfr := e }
    generalize (pinSegment .transfer r.seq s).1 = u at *
    refine ⟨TableLaw.congr (s := { u with xfr := e }) ⟨law.segs, law.pinned⟩ (fun k q => ?_) (fun q => ?_), ?_,
      QueueLaw.congr (s := s) h.queue rnd⟩
    · cases k with
      | view => simp [holds, withPin, rnd]
      | render => simp [holds, withPin, passSeq, rnd]
      | transfer => simp [holds, withPin, source, before, eq_comm]
      | copy => simp [holds, withPin, copiesFrom, refs]
    · simp [mustBeComplete, rnd]
    · dsimp only
      rw [refs]
      refine ⟨fun n => (h.slots.render n).trans ?_, fun n => (h.slots.transfer n).trans ?_, h.slots.copies, h.slots.one⟩
      · simp [slotHolds, rnd]
      · simp [slotHolds, source, before]
  | reference n =>
    have given : pinSource (.reference n) s = modRef n transferPinned s := by
      show (pinRef true n s).1 = _
      unfold pinRef
      rw [if_pos (show s.mem.refs[n].contents.isSome = true from hx)]
      rfl
    have tidy : Tidy s (modRef n transferPinned s) := modRef_tidy (f := transferPinned) (fun _ => ⟨rfl, rfl, rfl⟩) s
    have got := fun m => modRef_get n m transferPinned s
    rw [given]
    refine ⟨⟨tidy.startUp, tidy.stores, tidy.placed, running _⟩, fun h => ?_⟩
    have source := after (modRef n transferPinned s)
    refine ⟨TableLaw.congr (s := { modRef n transferPinned s with xfr := e }) ⟨(h.table.withRefs _).segs, h.table.pinned⟩
      (fun k q => ?_) (fun q => ?_), ?_,
      QueueLaw.congr (s := s) h.queue rfl⟩
    · cases k with
      | view => exact Iff.rfl
      | render => exact Iff.rfl
      | transfer =>
        simp only [holds, source, before]
        simp
      | copy =>
        have copies : ∀ m : Fin 4, (modRef n transferPinned s).mem.refs[m].copy = s.mem.refs[m].copy := by
          intro m
          rw [got]
          by_cases hm : n = m
          · subst hm; rw [if_pos rfl]; rfl
          · rw [if_neg hm]
        simp only [holds, copiesFrom, copies]
    · exact Iff.rfl
    · have at' : ∀ (P : RefSlot → Fin 4 → Prop), (∀ m, m ≠ n → P s.mem.refs[m] m) → P (transferPinned s.mem.refs[n]) n →
          ∀ m : Fin 4, P (modRef n transferPinned s).mem.refs[m] m := by
        intro P hall hn m
        rw [got]
        by_cases hm : n = m
        · subst hm; rw [if_pos rfl]; exact hn
        · rw [if_neg hm]; exact hall m (fun e => hm e.symm)
      have off : ∀ m : Fin 4, ¬ s.mem.refs[m].pinTransfer = true := fun m => by
        rw [h.slots.transfer m]; simp [slotHolds, before]
      have state : ∀ m : Fin 4, (modRef n transferPinned s).mem.refs[m].state = s.mem.refs[m].state := by
        intro m
        rw [got]
        by_cases hm : n = m
        · subst hm; rw [if_pos rfl]; rfl
        · rw [if_neg hm]
      refine ⟨at' (fun r m => r.pinRender = true ↔ slotHolds { modRef n transferPinned s with xfr := e } false m)
          (fun m _ => h.slots.render m) (h.slots.render n),
        at' (fun r m => r.pinTransfer = true ↔ slotHolds { modRef n transferPinned s with xfr := e } true m) (fun m hm => ?_) ?_,
        at' (fun r m => r.state = .copying ↔ r.copy.isSome = true) (fun m _ => h.slots.copies m) (h.slots.copies n),
        fun k m => ?_⟩
      · refine iff_of_false (off m) ?_
        simp only [slotHolds, source, Option.some.injEq, XferSource.reference.injEq]
        exact fun e => hm e.symm
      · simp only [slotHolds, source, transferPinned]
      · dsimp only
        rw [state, state]; exact h.slots.one k m

/-- R200: the engine in ENDING, its TRANSFER pin released. -/
theorem transferEnds_keeps {x : XferSource} {e : Xfr} {s : State} (hx : transferSource s = some x) (he : e.state = .ending)
    (hctx : e.ctx.isSome = true) (hchunk : e.chunk = none) : Keeps false false s (unpinSource x { s with xfr := e }) := by
  have after : ∀ u : State, u.xfr = e → transferSource u = none := fun u hu => by unfold transferSource; rw [hu, he]; simp
  have ended : TransferLaw { s with xfr := e } := by
    unfold TransferLaw; dsimp only; rw [he, hctx, hchunk]; simp
  have entered : Tidy s { s with xfr := e } := ⟨rfl, id, id, fun _ => ended⟩
  have others : ∀ u : State, u.rnd = s.rnd → u.xfr = e → (∀ q, copiesFrom q u ↔ copiesFrom q s) →
      ∀ k q, holds u k q ↔ holds s k q ∧ ¬ (k = .transfer) := by
    intro u hrnd hxfr hcopy k q
    cases k with
    | view => simp [holds, hrnd]
    | render => simp [holds, passSeq, hrnd]
    | transfer => simp [holds, after u hxfr]
    | copy => simp [holds, hcopy]
  cases x with
  | segment seq ch =>
    have released := releaseSegPin_released .transfer seq { s with xfr := e }
    refine ⟨entered.trans released.tidy, fun h => ?_⟩
    have tableAt : TableLaw false (holds s) (mustBeComplete s) { s with xfr := e } := ⟨h.table.segs, h.table.pinned⟩
    have law := releaseSegPin_law tableAt .transfer seq (by
      rintro q (hq | hq)
      · exact ⟨.view, hq, by simp⟩
      · exact ⟨.render, .inl hq, by simp⟩)
    have rnd := released.rnd
    have xfr := released.xfr
    have refs := released.refs
    show Held false (releaseSegPin .transfer seq { s with xfr := e })
    generalize releaseSegPin .transfer seq { s with xfr := e } = u at *
    refine ⟨law.congr (fun k q => ?_) (fun q => ?_), ?_,
      QueueLaw.congr (s := s) h.queue rnd⟩
    · rw [others u rnd xfr (fun q => by simp only [copiesFrom, refs])]
      refine and_congr_right fun hk => not_congr ⟨fun e => ⟨e, ?_⟩, And.left⟩
      subst e
      obtain ⟨ch', hq⟩ := hk
      rw [hx] at hq
      exact (XferSource.segment.inj (Option.some.inj hq)).1.symm
    · simp [mustBeComplete, rnd]
    · rw [refs]
      refine ⟨fun n => (h.slots.render n).trans ?_, fun n => (h.slots.transfer n).trans ?_, h.slots.copies, h.slots.one⟩
      · simp [slotHolds, rnd]
      · simp [slotHolds, after u xfr, hx]
  | reference n =>
    obtain ⟨u, hu, tidy, rnd, xfr, copies, law⟩ := releaseRefPin_settles true n { s with xfr := e }
    have kept : Keeps false false s u := by
      refine ⟨entered.trans tidy, fun h => ?_⟩
      have lawAt : Law false (holds s) (slotHolds s) (mustBeComplete s) { s with xfr := e } :=
        ⟨⟨h.table.segs, h.table.pinned⟩, h.slots, h.queue⟩
      have lawu := law _ _ _ _ lawAt
      refine ⟨lawu.table.congr (fun k q => ?_) (fun q => ?_), ?_, lawu.queue⟩
      · rw [others u rnd xfr copies]
        refine ⟨And.left, fun hk => ⟨hk, ?_⟩⟩
        rintro rfl
        obtain ⟨ch', hq⟩ := hk
        rw [hx] at hq; cases hq
      · simp [mustBeComplete, rnd]
      · refine ⟨fun m => (lawu.slots.render m).trans ?_, fun m => (lawu.slots.transfer m).trans ?_, lawu.slots.copies, lawu.slots.one⟩
        · simp [withoutSlot, slotHolds, rnd]
        · simp [withoutSlot, slotHolds, after u xfr, hx, eq_comm]
    show Keeps false false s (releaseRefPin true n { s with xfr := e })
    rcases hu with hu | ⟨r, hu⟩
    · rw [hu]; exact kept
    · rw [hu]; exact (kept.trans (setRedraw_keeps false u)).trans ((offer_quiet r _).keeps false)

theorem enterEnding_keeps {c : XferContext} {s : State} (hx : transferSource s = some c.source) (aborted : Bool) :
    Keeps false false s (enterEnding c aborted s) := transferEnds_keeps hx rfl rfl rfl

theorem xferStartOf_keeps (tag : Byte) (p : List Byte) (s : State) : Keeps false false s (xferStartOf tag p s) := by
  have answered : ∀ st body t, Keeps false false t (reply 0x78 tag st body t) := fun st body t => (reply_quiet ..).keeps false
  unfold xferStartOf
  split
  · exact answered _ _ s
  · split
    · exact answered _ _ s
    · split
      · exact answered _ _ s
      · split
        · exact answered _ _ s
        · rename_i hbusy
          have idle : s.xfr.state = .idle := by simpa using hbusy
          split
          · exact answered _ _ s
          · rename_i r hr
            split
            · have unmoved : ∀ x, (pinSource x s).xfr = s.xfr := by
                intro x
                cases x with
                | segment seq ch => exact (pinSegment_released .transfer seq s).xfr
                | reference n =>
                  show (pinRef true n s).1.xfr = s.xfr
                  unfold pinRef; split <;> rfl
              unfold startTransfer
              dsimp only
              rw [unmoved]
              refine Keeps.trans ?_ (answered _ _ _)
              exact transferStarts_keeps idle (resolveXfer_pinnable hr) rfl rfl rfl
            · exact answered _ _ s

theorem chunkReadEnds_keeps (s : State) : Keeps false false s (chunkReadEnds s) := by
  unfold chunkReadEnds
  split
  · rename_i c hst hctx
    split
    · exact enterEnding_keeps (by unfold transferSource; rw [hst, hctx]; rfl) true
    · refine (Quiet.of_xfr ?_ fun _ => ?_).keeps false
      · unfold transferSource; simp [hst]
      · unfold TransferLaw; simp [hctx]
  · exact .refl false s

/-- R210: a report does not see the transfer engine. -/
theorem offer_withXfr (r : Report) (x : Xfr) (s : State) : offer r { s with xfr := x } = { offer r s with xfr := x } := by
  have noted : noteUpdate (updates r) { s with xfr := x } = { noteUpdate (updates r) s with xfr := x } := by
    unfold noteUpdate
    dsimp only
    split
    · split <;> rfl
    · rfl
  have joined : offerNew r { s with xfr := x } = { offerNew r s with xfr := x } := by
    have dropped : dropReport r { s with xfr := x } = { dropReport r s with xfr := x } := by
      show (if (condEntry .reportLoss s).latched = true then _ else _) = _
      unfold dropReport
      split <;> rfl
    show (if 1 ≤ freeCount s then _ else dropReport r { s with xfr := x }) = _
    rw [dropped]
    unfold offerNew
    split <;> rfl
  unfold offer
  dsimp only
  cases replaceFirst (updates r) (fun _ => .report r) s.lnk.outbound with
  | some q => dsimp only; rw [noted]
  | none => exact joined

theorem chunkQueued_keeps {c : XferContext} {k : Chunk} {s : State} (hst : s.xfr.state = .waiting) (hctx : s.xfr.ctx = some c) :
    Keeps false false s (chunkQueued c k s) := by
  have offered : Keeps false false s (offer (.data c.id k.offset k.samples) s) := (offer_quiet _ s).keeps false
  have xfr : (offer (.data c.id k.offset k.samples) s).xfr = s.xfr := by rw [offer_only]
  unfold chunkQueued
  dsimp only
  rw [offer_withXfr]
  generalize offer (.data c.id k.offset k.samples) s = u at *
  have source : transferSource u = some c.source := by unfold transferSource; rw [xfr, hst, hctx]; rfl
  split
  · exact offered.trans (transferEnds_keeps source rfl rfl rfl)
  · refine offered.trans ((Quiet.of_xfr ?_ fun _ => ?_).keeps false)
    · unfold transferSource; simp [xfr, hst, hctx]
    · unfold TransferLaw; simp

theorem dataOffered_keeps (s : State) : Keeps false false s (dataOffered s) := by
  unfold dataOffered
  split
  · rename_i hst hctx _
    split
    · exact chunkQueued_keeps hst hctx
    · exact .refl false s
  · exact .refl false s

theorem xferEnds_keeps (s : State) : Keeps false false s (xferEnds s) := by
  unfold xferEnds
  split
  · rename_i c hst hctx
    split
    · have idle : Quiet s { s with xfr := { s.xfr with state := .idle, ctx := none, chunk := none } } := by
        refine .of_xfr ?_ fun _ => ?_
        · unfold transferSource; simp [hst]
        · unfold TransferLaw; simp
      exact (idle.keeps false).trans ((offer_quiet _ _).keeps false)
    · exact .refl false s
  · exact .refl false s

theorem xferAbortOf_keeps (tag : Byte) (p : List Byte) (s : State) : Keeps false false s (xferAbortOf tag p s) := by
  have answered : ∀ st t, Keeps false false t (reply 0x79 tag st .empty t) := fun st t => (reply_quiet ..).keeps false
  unfold xferAbortOf
  split
  · exact answered _ s
  · split
    · exact answered _ s
    · exact answered _ s
    · rename_i c hctx _
      split
      · refine (answered .ok s).trans ?_
        have hctx' : (reply 0x79 tag .ok .empty s).xfr.ctx = some c := hctx
        unfold abortTransfer
        split
        · rename_i hst
          refine (Quiet.of_xfr ?_ fun h => ?_).keeps false
          · unfold transferSource; dsimp only; rw [hctx', hst]; rfl
          · unfold TransferLaw at h ⊢
            rw [hctx'] at h
            exact h
        · rename_i hst
          exact enterEnding_keeps (by unfold transferSource; rw [hst, hctx']; rfl) true
        · exact .refl false _
        · exact .refl false _
      · exact answered _ s

end Sys2Proof.Machine
end

section
/-! PROOF. Change sets, and what the setup requests, the panel and a recall do with them, keep the laws. -/

namespace Sys2Proof.Machine

/-! ### Change sets -/

/-- R7: what handing over a change set keeps: the laws, and the copies of the slots. -/
structure Hands (s t : State) : Prop where
  keeps : Keeps false false s t
  copies : ∀ n : Fin 4, t.mem.refs[n].copy = s.mem.refs[n].copy

namespace Hands

theorem refl (s : State) : Hands s s := ⟨.refl false s, fun _ => rfl⟩

theorem trans {s t u : State} (h : Hands s t) (k : Hands t u) : Hands s u :=
  ⟨h.keeps.trans k.keeps, fun n => (k.copies n).trans (h.copies n)⟩

theorem of_refs {s t : State} (h : Keeps false false s t) (hr : t.mem.refs = s.mem.refs) : Hands s t := ⟨h, fun n => by rw [hr]⟩

theorem of_quiet {s t : State} (h : Quiet s t) : Hands s t :=
  of_refs (h.keeps false) (congrArg (fun p => p.2.1.2.2.2.2) h.parts)

theorem of_seen {s t : State} (h : seenParts t = seenParts s) : Hands s t := of_quiet (.of_seen h)

theorem foldl {α : Type} {f : State → α → State} (hf : ∀ s x, Hands s (f s x)) (xs : List α) (s : State) :
    Hands s (xs.foldl f s) := by
  induction xs generalizing s with
  | nil => exact refl s
  | cons x rest ih => exact (hf s x).trans (ih (f s x))

theorem ite {s : State} {f : State → State} (h : Hands s (f s)) (b : Bool) : Hands s (if b = true then f s else s) := by
  cases b with
  | false => exact refl s
  | true => exact h

end Hands

theorem acqTrip_released (s : State) : Released s (acqTrip s) := by
  rw [acqTrip_eq]
  split
  · exact endRun_released _ s
  · exact captureChange_released s

theorem tripChannel_hands (ch : Channel) (s : State) : Hands s (tripChannel ch s) := by
  rw [tripChannel_eq]
  exact (Hands.of_quiet (soundedTrip_quiet ch s)).trans (.of_refs (acqTrip_keeps _) (acqTrip_released _).refs)

theorem fecChange_hands (written : List Nat) (s : State) : Hands s (fecChange written s) := by
  have trips : ∀ t, Hands t (checkTrips t) := fun t => by
    refine Hands.foldl (fun u n => ?_) channels t
    split
    · exact tripChannel_hands n u
    · exact .refl u
  exact ((Hands.of_quiet (clearWrittenLatches_quiet written s)).trans (.of_seen (deriveDrives_seen _))).trans (trips _)

theorem startRedraw_copies (s : State) (n : Fin 4) : (startRedraw s).mem.refs[n].copy = s.mem.refs[n].copy := by
  obtain ⟨_, _, _, refs, _⟩ := redrawPinned_spec s
  have := refs n
  rw [startRedraw_eq]
  dsimp only
  rw [this, renderPinned_copy]

theorem setRedraw_hands (s : State) : Hands s (setRedraw s) := by
  refine ⟨setRedraw_keeps false s, fun n => ?_⟩
  unfold setRedraw selectPass
  split
  · rfl
  · split
    · exact startRedraw_copies _ n
    · split <;> rfl

theorem moveViewPin_hands (s : State) : Hands s (moveViewPin s) := by
  refine .of_refs (moveViewPin_keeps false s) ?_
  have lost : ∀ cause seq t, (viewLost cause seq t).mem = t.mem := by
    intro cause seq t
    unfold viewLost
    dsimp only
    rw [offer_only]
  rw [moveViewPin_eq]
  split
  · split
    · rfl
    · split
      · exact (viewReleased_released _ _).refs.trans (pinSegment_released .view _ s).refs
      · rw [lost]; exact (viewReleased_released _ _).refs
  · exact (viewReleased_released _ _).refs

/-- R7 step 1. -/
theorem handOver_hands (written ids : List Nat) (s : State) : Hands s (handOver written ids s) := by
  have auxed : ∀ t, Hands t (auxChange t) := fun _ => .of_seen rfl
  have fec := (fecChange_hands written s).ite (changesClass .capture ids || ids.contains 96)
  have trigger := fec.trans ((Hands.of_quiet (triggerChange_quiet _)).ite (changesClass .trigger ids))
  have aux := trigger.trans ((auxed _).ite (ids.contains 106))
  have capture := aux.trans ((Hands.of_refs (captureChange_keeps _) (captureChange_released _).refs).ite (changesClass .capture ids))
  have decay := capture.trans (.of_seen (decayChange_seen ids _))
  exact decay.trans ((setRedraw_hands _).ite (redrawCause ids))

theorem changeReports_hands (cs : ChangeSet) (ids : List Nat) (s : State) : Hands s (changeReports cs ids s) := by
  unfold changeReports
  split
  · exact .refl s
  · exact .of_quiet (offerAll_quiet _ s)
  · exact .of_quiet (offerAll_quiet _ s)
  · exact .of_quiet (offer_quiet _ s)
  · exact .of_quiet (offer_quiet _ s)

/-- R7: the taking of a change set. -/
theorem takeChangeSet_hands (cs : ChangeSet) (s : State) : Hands s (takeChangeSet cs s) := by
  unfold takeChangeSet
  dsimp only
  split
  · exact .refl s
  · have written : Hands s (writeRecord (recordAfter cs s) s) := .of_seen rfl
    have moved := written.trans ((moveViewPin_hands (writeRecord (recordAfter cs s) s)).ite
      ((changedFields s.setup (recordAfter cs s)).contains 112 || (changedFields s.setup (recordAfter cs s)).contains 113))
    have handed := moved.trans (handOver_hands (cs.writes.map (·.1)) (changedFields s.setup (recordAfter cs s)) _)
    have restarted : ∀ t, Hands t (restartAutosave t) := fun t => .of_seen rfl
    exact (handed.trans (restarted _)).trans (changeReports_hands cs _ _)

theorem takeChangeSet_keeps (cs : ChangeSet) (s : State) : Keeps false false s (takeChangeSet cs s) := (takeChangeSet_hands cs s).keeps

theorem setFieldsOf_keeps (tag : Byte) (p : List Byte) (s : State) : Keeps false false s (setFieldsOf tag p s) := by
  unfold setFieldsOf
  split
  · exact (reply_quiet ..).keeps false
  · split
    · exact (reply_quiet ..).keeps false
    · exact (takeChangeSet_keeps _ s).trans ((reply_quiet ..).keeps false)

theorem defaultSetupOf_keeps (tag : Byte) (p : List Byte) (s : State) : Keeps false false s (defaultSetupOf tag p s) := by
  unfold defaultSetupOf
  split
  · exact (reply_quiet ..).keeps false
  · exact (takeChangeSet_keeps _ s).trans ((reply_quiet ..).keeps false)

theorem takeViewFallback_keeps (s : State) : Keeps false false s (takeViewFallback s) := by
  unfold takeViewFallback
  split
  · exact .refl false s
  · rename_i seq rest _
    have taken : Keeps false false s { s with fallbacks := rest } := .of_seen rfl
    dsimp only
    split
    · exact taken.trans (takeChangeSet_keeps _ _)
    · exact taken

/-- R19, R81: the memory correction, and then the move of the copy that waited for it. -/
theorem takeMemoryCorrection_keeps (s : State) : Keeps false false s (takeMemoryCorrection s) := by
  unfold takeMemoryCorrection
  split
  · exact .refl false s
  · rename_i n _
    split
    · exact .refl false s
    · rename_i c hc
      split
      · rename_i hphase
        have taken := takeChangeSet_hands ⟨.device, [], false, false, none⟩ s
        exact taken.keeps.trans (startMove_keeps ((taken.copies n).trans hc) hphase)
      · exact .refl false s

theorem takeRelativeEdit_keeps (id : Nat) (up : Bool) (m : Nat) (s : State) : Keeps false false s (takeRelativeEdit id up m s) := by
  unfold takeRelativeEdit
  split
  · exact takeChangeSet_keeps _ s
  · exact .refl false s

theorem clearPersistOf_keeps (tag : Byte) (p : List Byte) (s : State) : Keeps false false s (clearPersistOf tag p s) := by
  unfold clearPersistOf
  split
  · exact (reply_quiet ..).keeps false
  · exact (setRedraw_keeps false s).trans ((reply_quiet ..).keeps false)

/-! ### A recall -/

theorem readEnds_keeps (s : State) : Keeps false false s (readEnds s) := by
  have ended : ∀ j o g t, Keeps false false t (endWell j o g t) := fun j o g t => (endWell_quiet j o g t).keeps false
  have recalled : ∀ n, Keeps false false s (recallRead n s) := by
    intro n
    have listed : Keeps false false s (setDir n (dirOf (readSlot s.sto.flash.slots[n])) s) := .of_seen rfl
    unfold recallRead
    dsimp only
    split
    · split
      · exact (listed.trans (takeChangeSet_keeps _ _)).trans (ended _ _ _ _)
      · exact listed.trans (ended _ _ _ _)
    · exact listed.trans (ended _ _ _ _)
    · exact listed.trans (ended _ _ _ _)
  unfold readEnds
  split
  · exact .refl false s
  · split
    · exact (recalled _).trans ((engineIdle_quiet _).keeps false)
    · exact .refl false s

/-! ### The panel -/

theorem localAction_keeps (a : LocalAction) (s : State) : Keeps false false s (localAction a s) := by
  cases a with
  | runStop =>
    show Keeps false false s (runStopKey s)
    unfold runStopKey
    split
    · exact takeRun_keeps s
    · exact takeStop_keeps s
  | single => exact takeSingle_keeps s
  | force => exact takeForce_keeps s
  | clearPersist => exact setRedraw_keeps false s
  | channelToggle n => exact takeChangeSet_keeps _ s
  | fieldDefault e =>
    unfold localAction
    dsimp only
    split
    · exact takeChangeSet_keeps _ s
    · exact .refl false s
  | localRelease =>
    unfold localAction
    dsimp only
    split
    · exact .of_seen rfl
    · exact .refl false s
  | defaultSetup => exact takeChangeSet_keeps _ s

theorem setBlank_keeps (b : Bool) (s : State) : Keeps false false s (setBlank b s) := .of_seen rfl

theorem modKey_keeps (k : Fin 64) (f : KeyState → KeyState) (s : State) : Keeps false false s (modKey k f s) := .of_seen rfl

theorem pushEvent_keeps (key : Nat) (kind : KeyKind) (d : Disposition) (s : State) :
    Keeps false false s (pushEvent key kind d s) := (pushEvent_quiet key kind d s).keeps false

theorem pressAction_keeps (d : Disposition) (b : KeyBinding) (s : State) : Keeps false false s (pressAction d b s) := by
  have clicked : Keeps false false s (keyClick s) := (keyClick_quiet s).keeps false
  unfold pressAction
  split
  · exact setBlank_keeps false s
  · exact clicked
  · exact clicked
  · split
    · exact clicked.trans (localAction_keeps _ _)
    · exact clicked

theorem keyPressed_keeps (k : Fin 64) (s : State) : Keeps false false s (keyPressed k s) := by
  unfold keyPressed
  dsimp only
  split
  · exact modKey_keeps k _ s
  · exact ((modKey_keeps k _ s).trans (pressAction_keeps _ _ _)).trans (pushEvent_keeps _ _ _ _)

theorem scanKey_keeps (k : Fin 64) (down : Bool) (s : State) : Keeps false false s (scanKey k down s) := by
  unfold scanKey
  dsimp only
  split
  · exact modKey_keeps k _ s
  · split
    · exact modKey_keeps k _ s
    · split
      · exact (modKey_keeps k _ s).trans (keyPressed_keeps k _)
      · exact (modKey_keeps k _ s).trans ((keyReleased_quiet k _).keeps false)

theorem slotKey_keeps (t : Instant) (r : Fin 8) (contacts : Byte) (k : Fin 64) (s : State) :
    Keeps false false s (slotKey t r contacts k s) := by
  have held : ∀ u, Keeps false false u (makeHold k u) := fun u => (makeHold_quiet k u).keeps false
  have taken : Keeps false false s (if s.pnl.keys[k].hold = some t ∧ s.pnl.keys[k].holdTaken = true then makeHold k s else s) := by
    split
    · exact held s
    · exact .refl false s
  have scanned : ∀ u, Keeps false false u (if rowOfKey k = r then scanKey k (contacts.getLsbD (k.val % 8)) u else u) := by
    intro u
    split
    · exact scanKey_keeps k _ u
    · exact .refl false u
  have left : ∀ u, Keeps false false u (if u.pnl.keys[k].hold = some t then makeHold k u else u) := by
    intro u
    split
    · exact held u
    · exact .refl false u
  exact (taken.trans (scanned _)).trans (left _)

theorem detent_keeps (e : Fin 12) (up : Bool) (s : State) : Keeps false false s (detent e up s) := by
  have recorded : Keeps false false s (recordDetent e up s) := .of_seen rfl
  unfold detent
  dsimp only
  split
  · exact (setBlank_keeps false s).trans (pushEvent_keeps _ _ _ _)
  · split
    · exact .refl false s
    · split
      · split
        · exact .refl false s
        · exact recorded.trans (takeRelativeEdit_keeps _ _ _ _)
      · exact recorded.trans ((forwardDetent_quiet e _ _).keeps false)

theorem sampleEncoder_keeps (e : Fin 12) (pair : Bool × Bool) (s : State) : Keeps false false s (sampleEncoder e pair s) := by
  have paired : ∀ q, Keeps false false s (setPair e pair q s) := fun q => .of_seen rfl
  unfold sampleEncoder
  dsimp only
  split
  · exact paired _
  · split
    · exact (paired 0).trans (detent_keeps e true _)
    · split
      · exact (paired 0).trans (detent_keeps e false _)
      · exact paired _

theorem turnAt_keeps (lines : Option (BitVec 12 × BitVec 12)) (k : Fin 64) (s : State) : Keeps false false s (turnAt lines k s) := by
  unfold turnAt
  split
  · exact .refl false s
  · split
    · exact sampleEncoder_keeps _ _ s
    · exact .refl false s

theorem nextSlot_keeps (pnl : Pnl → Pnl) (r : Fin 8) (s : State) :
    Keeps false false s { driveLeds r s with pnl := pnl (driveLeds r s).pnl } := .of_seen rfl

theorem runSlot_keeps (contacts : Byte) (s : State) : Keeps false false s (runSlot contacts s) := by
  have reached : Keeps false false s (reach s.pnl.rowNext s) := .of_seen rfl
  have keys : Keeps false false (reach s.pnl.rowNext s) (slotKeys s.pnl.rowNext s.pnl.row contacts s.pnl.lines (reach s.pnl.rowNext s)) :=
    .foldl (fun t k => (slotKey_keeps _ _ contacts k t).trans (turnAt_keeps _ k _)) allKeys _
  exact (reached.trans keys).trans (nextSlot_keeps (fun p => { p with
    row := nextRow s.pnl.row, rowNext := s.pnl.rowNext + 500 * oneUs, contacts := none, lines := none }) _ _)

theorem settleSlot_keeps (s : State) : Keeps false false s (settleSlot s) := by
  unfold settleSlot
  split
  · exact .refl false s
  · exact Keeps.trans (t := { s with pnl := { s.pnl with contacts := none } }) (.of_seen rfl) (runSlot_keeps _ _)

theorem rowSlot_keeps (contacts : Byte) (s : State) : Keeps false false s (rowSlot contacts s) := by
  have settled := settleSlot_keeps s
  have waits : ∀ t, Keeps false false t { reach t.pnl.rowNext t with pnl := { t.pnl with contacts := some contacts } } :=
    fun _ => .of_seen rfl
  unfold rowSlot
  dsimp only
  split
  · exact settled.trans (waits _)
  · exact settled.trans (runSlot_keeps _ _)

theorem sampleAll_keeps (a b : BitVec 12) (s : State) : Keeps false false s (sampleAll a b s) :=
  .foldl (fun t e => sampleEncoder_keeps e _ t) encoders s

theorem settleLines_keeps (s : State) : Keeps false false s (settleLines s) := by
  unfold settleLines
  split
  · exact .refl false s
  · rename_i a b _
    have taken : Keeps false false s { s with pnl := { s.pnl with lines := none } } := .of_seen rfl
    exact taken.trans (sampleAll_keeps a b _)

theorem encoderSamples_keeps (a b : BitVec 12) (s : State) : Keeps false false s (encoderSamples a b s) := by
  have nexts : ∀ t, Keeps false false t (nextSample t) := fun t => .of_seen rfl
  have waits : ∀ t l, Keeps false false t { t with pnl := { t.pnl with lines := l } } := fun _ _ => .of_seen rfl
  have next := (settleLines_keeps s).trans (nexts _)
  unfold encoderSamples
  dsimp only
  split
  · exact next.trans ((waits _ _).trans (settleSlot_keeps _))
  · exact next.trans (sampleAll_keeps a b _)

end Sys2Proof.Machine
end

section
/-! PROOF. The resets, start-up and every command keep the laws of the stores, of the pages and of the history. -/

namespace Sys2Proof.Machine

/-! ### What a command keeps -/

/-- The three laws, of the stores, of the pages and of the history, go from `s` to `t`. -/
structure Safe (s t : State) : Prop where
  stores : StoresCanonical s → StoresCanonical t
  pages : PagesPartitioned s → PagesPartitioned t
  history : HistoryLaw s → HistoryLaw t

/-- R66: once start-up has ended every page is placed. -/
theorem pagesPartitioned_iff {s : State} (h : s.lnk.startUp = false) : PagesPartitioned s ↔ Placed s.mem := by
  constructor
  · rintro ⟨hnodup, hlt, hperm, _, hslots⟩; exact ⟨hnodup, hlt, hperm h, hslots⟩
  · rintro ⟨hnodup, hlt, hperm, hslots⟩; exact ⟨hnodup, hlt, fun _ => hperm, fun hs => absurd (h.symm.trans hs) (by decide), hslots⟩

theorem Quiet.safe {s t : State} (h : Quiet s t) : Safe s t where
  stores := h.stores
  pages hp := by
    have hparts := h.parts
    simp only [lawParts, Prod.mk.injEq] at hparts
    obtain ⟨hup, ⟨hbad, hpool, htable, _, hrefs⟩, _⟩ := hparts
    unfold PagesPartitioned pagesInUse at *
    rwa [hup, hbad, hpool, htable, hrefs]
  history hh := by
    obtain ⟨held, transfer⟩ := (historyLaw_iff s).1 hh
    exact (historyLaw_iff t).2 ⟨held.seen h.parts, h.transfer transfer⟩

theorem Keeps.safe {s t : State} (h : Keeps false false s t) (hup : s.lnk.startUp = false) : Safe s t where
  stores := h.tidy.stores
  pages hp := (pagesPartitioned_iff (h.tidy.startUp.trans hup)).2 (h.tidy.placed ((pagesPartitioned_iff hup).1 hp))
  history hh := by
    obtain ⟨held, transfer⟩ := (historyLaw_iff s).1 hh
    exact (historyLaw_iff t).2 ⟨h.held held, h.tidy.transfer transfer⟩

/-! ### The resets -/

theorem wf_nil : Store.wf [] = true := by decide

theorem resetAll_refs (cause : ResetCause) (held : Bool) (txn : Option FetchTxn) (miso : List Byte) (s : State) (n : Fin 4) :
    (resetAll cause held txn miso s).mem.refs[n] = refEmpty := by
  show (Vector.replicate 4 refEmpty)[n.val] = refEmpty
  simp

/-- R89, R114, R139, R195: after a reset nothing holds anything. -/
theorem resetAll_history (cause : ResetCause) (held : Bool) (txn : Option FetchTxn) (miso : List Byte) (s : State) :
    HistoryLaw (resetAll cause held txn miso s) := by
  have slots := resetAll_refs cause held txn miso s
  have segs : Segments false (resetAll cause held txn miso s) :=
    ⟨List.nodup_nil, rfl, nofun, nofun, ⟨nofun, nofun⟩, ⟨nofun, nofun⟩⟩
  have none_held : ∀ k q, ¬ holds (resetAll cause held txn miso s) k q := by
    intro k q hq
    cases k with
    | view => cases hq
    | render => rcases hq with hq | hq <;> cases hq
    | transfer => obtain ⟨ch, hch⟩ := hq; cases hch
    | copy =>
      obtain ⟨n, hn⟩ := hq
      rw [slots n] at hn
      exact absurd hn (by simp [refEmpty])
  have none_complete : ∀ q, ¬ mustBeComplete (resetAll cause held txn miso s) q := by
    rintro q (hq | hq) <;> cases hq
  have pinned : Pinned (holds (resetAll cause held txn miso s)) (mustBeComplete (resetAll cause held txn miso s)) [] :=
    ⟨nofun, nofun, nofun, fun k q hq => absurd hq (none_held k q), fun q hq => absurd hq (none_complete q),
      fun q hq => absurd hq (none_complete q)⟩
  refine (historyLaw_iff _).2 ⟨⟨⟨segs, pinned⟩, ⟨fun n => ?_, fun n => ?_, fun n => ?_, fun n m hn => ?_⟩,
    ⟨List.nodup_nil, nofun⟩⟩, ?_⟩
  · rw [slots n]; exact ⟨nofun, fun ⟨p, hp, _⟩ => nomatch hp⟩
  · rw [slots n]; exact ⟨nofun, nofun⟩
  · rw [slots n]; exact ⟨nofun, nofun⟩
  · rw [slots n] at hn; cases hn
  · exact ⟨⟨nofun, fun h => absurd rfl h⟩, ⟨nofun, nofun⟩⟩

theorem resetAll_safe (cause : ResetCause) (held : Bool) (txn : Option FetchTxn) (miso : List Byte) (s : State) :
    Safe s (resetAll cause held txn miso s) where
  stores hs := by
    obtain ⟨dram, _⟩ := hs
    refine ⟨dram, fun t => ⟨?_, ?_⟩, wf_nil, wf_nil, wf_nil, nofun⟩
    · simp [resetAll, rndReset, wf_nil]
    · simp [resetAll, rndReset, wf_nil]
  pages hp := by
    obtain ⟨hnodup, hlt, _⟩ := hp
    have slots := resetAll_refs cause held txn miso s
    refine ⟨hnodup, hlt, nofun, fun _ => ⟨rfl, slots⟩, fun n => ?_⟩
    rw [slots n]
    exact ⟨⟨nofun, nofun⟩, nofun⟩
  history _ := resetAll_history cause held txn miso s

/-! ### Start-up -/

/-- R68: the pool and the BAD set make up the pages. -/
theorem goodPages_perm {bad : List Nat} (hnodup : bad.Nodup) {n : Nat} (hlt : ∀ p ∈ bad, p < n) :
    ((List.range n).filter (fun p => !bad.contains p) ++ bad).Perm (List.range n) := by
  have apart : (List.filter (fun p => !bad.contains p) (List.range n) ++ bad).Nodup := by
    refine (List.nodup_range.filter _).append hnodup fun p h hb => ?_
    have := (List.mem_filter.1 h).2
    simp [hb] at this
  refine (List.perm_ext_iff_of_nodup apart List.nodup_range).2 fun p => ?_
  by_cases hb : p ∈ bad
  · simp [hb, hlt p hb]
  · simp [hb]

theorem startMem_bad (failing : List Nat) {s : State} (hnodup : s.mem.bad.Nodup) (hlt : ∀ p ∈ s.mem.bad, p < Config.pageCount) :
    (startMem failing s).mem.bad.Nodup ∧ ∀ p ∈ (startMem failing s).mem.bad, p < Config.pageCount := by
  unfold startMem
  dsimp only
  split
  · exact ⟨List.nodup_range.filter _, fun p h => List.mem_range.1 (List.mem_of_mem_filter h)⟩
  · exact ⟨hnodup, hlt⟩

theorem startMem_pool (failing : List Nat) (s : State) : (startMem failing s).mem.pool =
    (List.range Config.pageCount).filter (fun p => !(startMem failing s).mem.bad.contains p) := by
  simp only [startMem]

/-- R68: the memory test puts every page into the pool or the BAD set. -/
theorem startMem_placed (failing : List Nat) {s : State} (hp : PagesPartitioned s) (hup : s.lnk.startUp = true) :
    Placed (startMem failing s).mem := by
  obtain ⟨hnodup, hlt, _, hempty, hslots⟩ := hp
  obtain ⟨htable, hrefs⟩ := hempty hup
  obtain ⟨hbn, hbl⟩ := startMem_bad failing hnodup hlt
  have unused : ∀ m : Mem, m.table = s.mem.table → m.refs = s.mem.refs → pagesInUse m = m.pool := by
    intro m ht hr
    have slots : channels.flatMap (fun n => slotPages m.refs[n]) = [] :=
      List.flatMap_eq_nil_iff.2 fun n _ => by rw [hr, hrefs n]; rfl
    unfold pagesInUse
    rw [slots, ht, htable]
    simp
  refine ⟨hbn, hbl, ?_, hslots⟩
  rw [unused (startMem failing s).mem rfl rfl, startMem_pool]
  exact goodPages_perm hbn hbl

theorem noteUnanswered_quiet (a : FlashArea) (un : List FlashArea) (s : State) : Quiet s (noteUnanswered a un s) := by
  unfold noteUnanswered
  split
  · exact .of_seen rfl
  · exact .refl s

theorem startCal_quiet (un : List FlashArea) (s : State) : Quiet s (startCal un s) := by
  have listed : ∀ d, Quiet s { s with sto := { s.sto with calDir := d } } := fun _ => .of_seen rfl
  have loaded : ∀ (t : State) live valid, Quiet t { t with fec := { t.fec with live := live, tableValid := valid } } :=
    fun _ _ _ => .of_seen rfl
  have noted := fun d => (listed d).trans (noteUnanswered_quiet .calibration un _)
  unfold startCal
  dsimp only
  split
  · exact (noted _).trans (loaded _ _ _)
  · exact (noted _).trans (loaded _ _ _)

theorem startStore_quiet (un : List FlashArea) (s : State) : Quiet s (startStore un s) := by
  unfold startStore
  dsimp only
  refine Quiet.trans (Quiet.trans ?_ (noteUnanswered_quiet .headerB un _)) (noteUnanswered_quiet .headerA un _)
  exact .of_seen rfl

theorem startSetup_quiet (img : Option (Fin 11 × List Int)) (s : State) : Quiet s (startSetup img s) := by
  unfold startSetup
  split
  · exact .of_seen rfl
  · exact .of_seen rfl

theorem startMonitor_quiet (s : State) : Quiet s (startMonitor s) := by
  unfold startMonitor
  dsimp only
  split
  · exact .of_seen rfl
  · exact (latchCondition_quiet _ _ _).after rfl

theorem startFrontEnd_quiet (s : State) : Quiet s (startFrontEnd s) := by
  have trips : ∀ t, Quiet t (startTrips t) := Quiet.foldl (fun t n => by
    split
    · exact tripProtect_quiet n t
    · exact .refl t) channels
  have trigger : Quiet s (startTrigger s) := .of_seen rfl
  exact (trigger.trans (startMonitor_quiet _)).trans ((Quiet.of_seen (deriveDrives_seen _)).trans (trips _))

/-- R137: start-up's first pass. -/
theorem startDisplay_keeps (s : State) : Keeps false false s (startDisplay s) := by
  have decays : ∀ d, Keeps false false s { s with rnd := { s.rnd with decay := d }, cmp := { s.cmp with broughtUp := s.now } } :=
    fun _ => .of_seen rfl
  exact (decays _).trans (selectPass_keeps false _)

theorem endLatches_quiet (s : State) : Quiet s (endLatches s) := by
  have latches : ∀ (b : Bool) c d (t : State), Quiet t (if b = true then latchCondition c d t else t) := by
    intro b c d t
    split
    · exact latchCondition_quiet c d t
    · exact .refl t
  have others : ∀ (b : Bool) c d (t : State), Quiet t (if b = true then t else latchCondition c d t) := by
    intro b c d t
    split
    · exact .refl t
    · exact latchCondition_quiet c d t
  exact ((others _ _ _ s).trans (others _ _ _ _)).trans (latches _ _ _ _)

/-- R218: what runs between the memory test and READY. -/
theorem startBlocks_keeps (img : Option (Fin 11 × List Int)) (un : List FlashArea) (s : State) :
    Keeps false false s (startPanel (startDisplay (startFrontEnd (startSetup img (startStore un (startCal un s)))))) := by
  have tables := (startCal_quiet un s).trans (startStore_quiet un _)
  have front := tables.trans ((startSetup_quiet img _).trans (startFrontEnd_quiet _))
  have panel : ∀ t, Keeps false false t (startPanel t) := fun _ => .of_seen rfl
  exact ((front.keeps false).trans (startDisplay_keeps _)).trans (panel _)

/-- R218: READY and the reports held; the start-up flag falls. -/
theorem queueReady_quiet (src : SetupSource) (s : State) : ∃ l : Lnk, l.startUp = false ∧ Quiet { s with lnk := l } (queueReady src s) := by
  unfold queueReady
  exact ⟨_, rfl, offerAll_quiet _ _⟩

/-- The laws do not read LNK but for the start-up flag. -/
theorem historyLaw_withLnk (l : Lnk) (s : State) : HistoryLaw { s with lnk := l } ↔ HistoryLaw s := .rfl

theorem startsUp_safe (failing : List Nat) (un : List FlashArea) {s : State} (hup : s.lnk.startUp = true) :
    Safe s (startsUp failing un s) := by
  have blocks := startBlocks_keeps (powerOnImage un (startStore un (startCal un (startMem failing s)))) un (startMem failing s)
  unfold startsUp
  dsimp only
  generalize startPanel _ = s2 at blocks ⊢
  generalize setupSourceOf _ = src
  obtain ⟨l, hl, ready⟩ := queueReady_quiet src s2
  have ended := ready.trans (endLatches_quiet _)
  refine ⟨fun hs => ended.stores (blocks.tidy.stores hs), fun hp => ?_, fun hh => ended.safe.history ?_⟩
  · exact ended.safe.pages ((pagesPartitioned_iff hl).2 (blocks.tidy.placed (startMem_placed failing hp hup)))
  · have tested : HistoryLaw (startMem failing s) := hh
    obtain ⟨held, transfer⟩ := (historyLaw_iff _).1 tested
    exact (historyLaw_withLnk l s2).2 ((historyLaw_iff _).2 ⟨blocks.held held, blocks.tidy.transfer transfer⟩)

/-! ### The commands -/

/-- R208: a request keeps the laws where its owner does. -/
theorem request_safe {type tag : Byte} {p : List Byte} {owner : State → State} (ho : ∀ u, Keeps false false u (owner u))
    {s t : State} (h : request type tag p owner s = .next t) : Safe s t := by
  by_cases hc : CanTake type tag p s
  · rw [request_of_canTake type tag p owner s hc] at h
    cases h
    exact (((handed_quiet s).keeps false).trans (ho _)).safe hc.2.1
  · rw [request_of_not_canTake type tag p owner s hc] at h
    cases h
    exact (Quiet.refl s).safe

/-- A request whose owner changes nothing that the laws see. -/
theorem request_safe_of_quiet {type tag : Byte} {p : List Byte} {owner : State → State} (ho : ∀ u, Quiet u (owner u))
    {s t : State} (h : request type tag p owner s = .next t) : Safe s t :=
  request_safe (fun u => (ho u).keeps false) h

/-- An event keeps the laws where its effect does. -/
theorem whenUp_safe {f : State → State} (hf : ∀ u, Keeps false false u (f u)) {s t : State} (h : whenUp f s = .next t) : Safe s t := by
  unfold whenUp at h
  split at h
  · cases h; exact (Quiet.refl _).safe
  · rename_i hup
    cases h; exact (hf s).safe (Bool.eq_false_iff.2 hup)

theorem whenUp_safe_of_quiet {f : State → State} (hf : ∀ u, Quiet u (f u)) {s t : State} (h : whenUp f s = .next t) : Safe s t :=
  whenUp_safe (fun u => (hf u).keeps false) h

theorem senseActive_safe (ch : Channel) (s : State) : Safe s (senseActive ch s) := by
  cases hup : s.lnk.startUp with
  | false => exact (senseActive_keeps ch s).safe hup
  | true =>
    refine Quiet.safe ?_
    unfold senseActive
    simp only [hup, Bool.not_true, Bool.false_and, Bool.false_eq_true, if_false]
    exact .of_seen rfl

theorem releaseReset_quiet (s : State) : Quiet s (releaseReset s) := .of_seen rfl
theorem beginTxn_quiet (miso : List Byte) (s : State) : Quiet s (beginTxn miso s) := .of_seen rfl

theorem execUnknownType_safe (type tag : Byte) (p : List Byte) {s t : State} (h : execUnknownType type tag p s = .next t) : Safe s t := by
  unfold execUnknownType at h
  split at h
  · cases h; exact (Quiet.refl _).safe
  · exact request_safe_of_quiet (fun u => reply_quiet type tag .unknownType .empty u) h

theorem execStartUp_safe (failing : List Nat) (un : List FlashArea) {s t : State} (h : execStartUp failing un s = .next t) :
    Safe s t := by
  unfold execStartUp at h
  split at h
  · cases h; exact (releaseReset_quiet s).safe
  · split at h
    · rename_i hup; cases h; exact startsUp_safe failing un hup
    · cases h; exact (Quiet.refl _).safe

theorem execSend_safe (bytes : List Byte) {s t : State} (h : execSend bytes s = .next t) : Safe s t := by
  unfold execSend at h
  split at h
  · cases h; exact (Quiet.refl _).safe
  · cases h; exact (sendEnds_quiet bytes s).safe

theorem execFetch_safe (e : FetchEvent) {s t : State} (h : execFetch e s = .next t) : Safe s t := by
  unfold execFetch at h
  split at h
  · cases h; exact (Quiet.refl _).safe
  · cases h; exact (fetchEvent_quiet e s).safe

theorem execInvalidOpener_safe (mosi : List Byte) {s t : State} (h : execInvalidOpener mosi s = .next t) : Safe s t := by
  unfold execInvalidOpener at h
  split at h
  · cases h; exact (Quiet.refl _).safe
  · split at h
    · cases h; exact (Quiet.refl _).safe
    · cases h; exact ((beginTxn_quiet _ s).trans (latchCondition_quiet _ _ _)).safe

theorem execReset_safe (tag : Byte) (p : List Byte) {s t : State} (h : execReset tag p s = .next t) : Safe s t := by
  unfold execReset at h
  split at h
  · cases h; exact (Quiet.refl _).safe
  · rename_i s1 htaken
    cases h
    have taken : Quiet s s1 := by
      unfold takeHead at htaken
      split at htaken
      · cases htaken
      · split at htaken
        · cases htaken; exact .of_seen rfl
        · cases htaken
    have reset := resetAll_safe .soft false (s1.lnk.txn.map loseRecord) s1.lnk.miso s1
    exact ⟨reset.stores ∘ taken.safe.stores, reset.pages ∘ taken.safe.pages, reset.history ∘ taken.safe.history⟩

theorem execSampleCode_safe (c1 c2 c3 c4 : Byte) (ext : Bool) {s t : State} (h : execSampleCode c1 c2 c3 c4 ext s = .next t) :
    Safe s t := by
  have nexts : ∀ u, Quiet u (nextInstant u) := fun _ => .of_seen rfl
  unfold execSampleCode at h
  split at h
  · cases h; exact (nexts s).safe
  · rename_i hup
    cases h
    exact ((sampleInstant_keeps _ ext s).trans ((nexts _).keeps false)).safe (Bool.eq_false_iff.2 hup)

theorem execClockLoss_safe {s t : State} (h : execClockLoss s = .next t) : Safe s t := by
  have lost : Quiet s { s with fec := { s.fec with lockPin := false } } := .of_seen rfl
  unfold execClockLoss at h
  dsimp only at h
  split at h
  · cases h; exact lost.safe
  · rename_i hup
    cases h
    have up : s.lnk.startUp = false := by
      cases hs : s.lnk.startUp with
      | false => rfl
      | true => simp [hs] at hup
    exact ((lost.keeps false).trans (lockLost_keeps _)).safe up

/-- R42, R44: the pins of FEC and its lock indication. -/
theorem fecPins_quiet (sense : Vector Bool 4) (pin locked : Bool) (s : State) :
    Quiet s { s with fec := { s.fec with sense := sense, lockPin := pin, locked := locked } } := .of_seen rfl

theorem backlightStarts_quiet (s : State) : Quiet s (backlightStarts s) := .of_seen rfl
theorem blinkToggles_quiet (s : State) : Quiet s (blinkToggles s) := .of_seen rfl
theorem squareWaveToggles_quiet (s : State) : Quiet s (squareWaveToggles s) := .of_seen rfl

/-- R66, R70, R78: every command keeps the laws of the stores, of the pages and of the history. -/
theorem exec_safe (i : Instr) {s t : State} (h : exec i s = .next t) : Safe s t := by
  cases i with
  | powerOnReset => cases h; exact resetAll_safe _ _ _ _ s
  | startUp failing un => exact execStartUp_safe failing un h
  | send bytes => exact execSend_safe bytes h
  | fetch e => exact execFetch_safe e h
  | invalidOpener mosi => exact execInvalidOpener_safe mosi h
  | unknownType type tag p => exact execUnknownType_safe type tag p h
  | status tag p => exact request_safe_of_quiet (statusOf_quiet tag p) h
  | ackConditions tag p => exact request_safe_of_quiet (ackConditionsOf_quiet tag p) h
  | routeSet tag p => exact request_safe_of_quiet (routeSetOf_quiet tag p) h
  | reset tag p => exact execReset_safe tag p h
  | setFields tag p => exact request_safe (setFieldsOf_keeps tag p) h
  | getFields tag p => exact request_safe_of_quiet (getFieldsOf_quiet tag p) h
  | defaultSetup tag p => exact request_safe (defaultSetupOf_keeps tag p) h
  | viewFallback => exact whenUp_safe takeViewFallback_keeps h
  | memoryCorrection => exact whenUp_safe takeMemoryCorrection_keeps h
  | run tag p => exact request_safe (plainRequest_keeps takeRun_keeps 0x30 tag p) h
  | stop tag p => exact request_safe (plainRequest_keeps takeStop_keeps 0x31 tag p) h
  | single tag p => exact request_safe (plainRequest_keeps takeSingle_keeps 0x32 tag p) h
  | force tag p => exact request_safe (plainRequest_keeps takeForce_keeps 0x33 tag p) h
  | calibrate tag p => exact request_safe (calibrateOf_keeps tag p) h
  | clearProtect tag p => exact request_safe (clearProtectOf_keeps tag p) h
  | counterRead tag p => exact request_safe_of_quiet (counterReadOf_quiet tag p) h
  | saveRef tag p => exact request_safe (saveRefOf_keeps tag p) h
  | clearRef tag p => exact request_safe (clearRefOf_keeps tag p) h
  | segmentList tag p => exact request_safe_of_quiet (segmentListOf_quiet tag p) h
  | pageQuery tag p => exact request_safe_of_quiet (pageQueryOf_quiet tag p) h
  | peek tag p => exact request_safe_of_quiet (peekOf_quiet tag p) h
  | clearPersist tag p => exact request_safe (clearPersistOf_keeps tag p) h
  | cursorRead tag p => exact request_safe_of_quiet (cursorReadOf_quiet tag p) h
  | ovFill tag p => exact request_safe_of_quiet (takeOverlay_quiet ⟨.fill, tag, p⟩) h
  | ovText tag p => exact request_safe_of_quiet (takeOverlay_quiet ⟨.text, tag, p⟩) h
  | ovClear tag p => exact request_safe_of_quiet (takeOverlay_quiet ⟨.clear, tag, p⟩) h
  | ovShow tag p => exact request_safe_of_quiet (takeOverlay_quiet ⟨.present, tag, p⟩) h
  | glyphLoad tag p => exact request_safe_of_quiet (takeOverlay_quiet ⟨.glyphs, tag, p⟩) h
  | paletteSet tag p => exact request_safe_of_quiet (takeOverlay_quiet ⟨.palette, tag, p⟩) h
  | keyBind tag p => exact request_safe_of_quiet (keyBindOf_quiet tag p) h
  | encBind tag p => exact request_safe_of_quiet (encBindOf_quiet tag p) h
  | ledSet tag p => exact request_safe_of_quiet (ledSetOf_quiet tag p) h
  | panelLock tag p => exact request_safe_of_quiet (panelLockOf_quiet tag p) h
  | panelBlank tag p => exact request_safe_of_quiet (panelBlankOf_quiet tag p) h
  | beep tag p => exact request_safe_of_quiet (beepOf_quiet tag p) h
  | storeSave tag p => exact request_safe_of_quiet (storeOwner_quiet (storeSaveOf_quiet tag p)) h
  | storeRecall tag p => exact request_safe_of_quiet (storeOwner_quiet (storeRecallOf_quiet tag p)) h
  | storeErase tag p => exact request_safe_of_quiet (storeOwner_quiet (storeEraseOf_quiet tag p)) h
  | storeProtect tag p => exact request_safe_of_quiet (storeOwner_quiet (storeProtectOf_quiet tag p)) h
  | storeList tag p => exact request_safe_of_quiet (storeListOf_quiet tag p) h
  | storePowerOn tag p => exact request_safe_of_quiet (storeOwner_quiet (storePowerOnOf_quiet tag p)) h
  | calSave tag p => exact request_safe_of_quiet (storeOwner_quiet (calSaveOf_quiet tag p)) h
  | xferStart tag p => exact request_safe (xferStartOf_keeps tag p) h
  | xferAbort tag p => exact request_safe (xferAbortOf_keeps tag p) h
  | trip ch => cases h; exact senseActive_safe ch s
  | overloadSenseInactive ch => cases h; exact (fecPins_quiet _ _ _ s).safe
  | clockLoss => exact execClockLoss_safe h
  | clockLockReturn => cases h; exact (fecPins_quiet _ _ _ s).safe
  | settleTimerExpiry => exact whenUp_safe settleExpires_keeps h
  | calStep sum => exact whenUp_safe (calStepEnds_keeps sum) h
  | sampleCode c1 c2 c3 c4 ext => exact execSampleCode_safe c1 c2 c3 c4 ext h
  | holdoffEnd => exact whenUp_safe_of_quiet holdoffEnds_quiet h
  | autoWaitExpiry => exact whenUp_safe autoWaitExpires_keeps h
  | triggerPulseEnd => exact whenUp_safe_of_quiet triggerPulseEnds_quiet h
  | triggeredIndicationEnd => exact whenUp_safe_of_quiet indicationEnds_quiet h
  | gateEnd => exact whenUp_safe_of_quiet gateEnds_quiet h
  | auxSquareWaveToggle => exact whenUp_safe_of_quiet squareWaveToggles_quiet h
  | copyEnd => exact whenUp_safe copyEnds_keeps h
  | renderPassEnd => exact whenUp_safe passEnds_keeps h
  | decayExpiry => exact whenUp_safe_of_quiet decayExpires_quiet h
  | frameStart => exact whenUp_safe_of_quiet frameStarts_quiet h
  | backlightPeriodStart => exact whenUp_safe_of_quiet backlightStarts_quiet h
  | rowSlot contacts => exact whenUp_safe (rowSlot_keeps contacts) h
  | holdDeadline key => exact whenUp_safe_of_quiet (holdReached_quiet key) h
  | encoderSample a b => exact whenUp_safe (encoderSamples_keeps a b) h
  | panelReportOffer => exact whenUp_safe_of_quiet offerOldest_quiet h
  | blinkToggle => exact whenUp_safe_of_quiet blinkToggles_quiet h
  | beeperEnd => exact whenUp_safe_of_quiet beeperEnds_quiet h
  | eraseStepEnd => exact whenUp_safe_of_quiet eraseEnds_quiet h
  | programStepEnd => exact whenUp_safe_of_quiet programEnds_quiet h
  | verifyStepEnd agrees => exact whenUp_safe_of_quiet (verifyEnds_quiet agrees) h
  | readStepEnd => exact whenUp_safe readEnds_keeps h
  | stepTimeout => exact whenUp_safe_of_quiet stepTimesOut_quiet h
  | autosaveExpiry => exact whenUp_safe_of_quiet autosaveExpires_quiet h
  | chunkReadEnd => exact whenUp_safe chunkReadEnds_keeps h
  | data => exact whenUp_safe dataOffered_keeps h
  | xferEnd => exact whenUp_safe xferEnds_keeps h
  | overloadSenseActive ch => cases h; exact senseActive_safe ch s

/-- The step that idles, and the command at the front of the queue. -/
theorem step_safe {s t : State} (h : step s = .next t) : Safe s t := by
  unfold step at h
  split at h
  · cases h; exact (Quiet.refl s).safe
  · rename_i c rest _
    have left : Quiet s { s with pending := rest } := .of_seen rfl
    have waiting := left.safe
    have ran := exec_safe c h
    exact ⟨ran.stores ∘ waiting.stores, ran.pages ∘ waiting.pages, ran.history ∘ waiting.history⟩

/-- Settles O54: every command keeps the canonical form of the stores, by the function of its block. -/
theorem stepKeepsStoresCanonical : Obligations.StepKeepsStoresCanonical :=
  fun _ _ hs h => (step_safe h).stores hs

/-- Settles O55: every command keeps the pages apart and the history's laws, by the function of its block; start-up places the pages. -/
theorem stepKeepsPagesPartitioned : Obligations.StepKeepsPagesPartitioned :=
  ⟨fun _ _ hs h => (step_safe h).pages hs, fun _ _ hs h => (step_safe h).history hs⟩

end Sys2Proof.Machine
end

section
/-! PROOF. What the release of a pin leaves of XFR and LNK, and what the end of a transfer makes of MEM. -/

namespace Sys2Proof.Machine

/-! ### XFR and LNK under a release -/

/-- The transfer engine and the link. -/
def linkParts (s : State) : Xfr × Lnk := (s.xfr, s.lnk)

theorem linkParts_withRnd (r : Rnd) (s : State) : linkParts { s with rnd := r } = linkParts s := rfl

theorem enterReady_linkParts (s : State) : linkParts (enterReady s) = linkParts s := by
  unfold enterReady
  dsimp only
  rw [leavePhase_only]
  split_ifs <;> rfl

theorem enterPreFill_linkParts (q : CaptureRequest) (seq : Nat) (s : State) : linkParts (enterPreFill q seq s) = linkParts s := by
  unfold enterPreFill
  dsimp only
  split
  · exact enterReady_linkParts _
  · rfl

theorem retryPending_linkParts (s : State) : linkParts (retryPending s) = linkParts s := by
  unfold retryPending
  split
  · rfl
  · rename_i q _
    have only : linkParts (allocate q s).1 = linkParts s := by rw [allocate_only]; rfl
    split
    · rename_i ha; rw [ha] at only; exact only
    · rename_i ha; rw [ha] at only; exact (enterPreFill_linkParts _ _ _).trans only

theorem removeSegment_linkParts (seq : Nat) (s : State) : linkParts (removeSegment seq s) = linkParts s := by
  unfold removeSegment
  rw [retryPending_linkParts, dropSegment_only]
  rfl

theorem releaseSegPin_linkParts (h : Holder) (seq : Nat) (s : State) : linkParts (releaseSegPin h seq s) = linkParts s := by
  unfold releaseSegPin
  split
  · rfl
  · split
    · dsimp only
      split
      · exact removeSegment_linkParts seq _
      · exact retryPending_linkParts _
    · rfl

theorem pinSegment_linkParts (h : Holder) (seq : Nat) (s : State) : linkParts (pinSegment h seq s).1 = linkParts s := by
  unfold pinSegment
  split
  · rfl
  · split <;> rfl

theorem foldl_linkParts {α : Type} {f : State → α → State} (hf : ∀ s x, linkParts (f s x) = linkParts s) (xs : List α) (s : State) :
    linkParts (xs.foldl f s) = linkParts s := by
  induction xs generalizing s with
  | nil => rfl
  | cons x rest ih => exact (ih (f s x)).trans (hf s x)

theorem emptyQueue_linkParts (keep : Option Nat) (s : State) : linkParts (emptyQueue keep s) = linkParts s :=
  foldl_linkParts (fun t q => releaseSegPin_linkParts .render q t) _ _

theorem pinViewed_linkParts (s : State) : linkParts (pinViewed s).1 = linkParts s := by
  unfold pinViewed
  split
  · rfl
  · split
    · exact pinSegment_linkParts _ _ s
    · rfl

theorem pinVisibleRefs_linkParts (s : State) : linkParts (pinVisibleRefs s) = linkParts s := by
  refine foldl_linkParts (fun t n => ?_) channels s
  split
  · unfold pinRef; split <;> rfl
  · rfl

theorem startRedraw_linkParts (s : State) : linkParts (startRedraw s) = linkParts s := by
  have viewed := pinViewed_linkParts { s with rnd := { s.rnd with redraw := false } }
  unfold startRedraw
  dsimp only
  generalize pinViewed { s with rnd := { s.rnd with redraw := false } } = pv at *
  have pinned := (pinVisibleRefs_linkParts (emptyQueue pv.2 pv.1)).trans (emptyQueue_linkParts pv.2 pv.1)
  exact (linkParts_withRnd _ _).trans (pinned.trans (viewed.trans (linkParts_withRnd _ _)))

theorem setRedraw_linkParts (s : State) : linkParts (setRedraw s) = linkParts s := by
  unfold setRedraw selectPass
  split
  · rfl
  · split
    · exact startRedraw_linkParts _
    · split <;> rfl

/-! ### What the release of a slot's last pin leaves -/

/-- XFR stands, and the records of the outbound queue stand before those that have joined it. -/
structure QueuesBehind (s t : State) : Prop where
  xfr : t.xfr = s.xfr
  outbound : s.lnk.outbound <+: t.lnk.outbound

theorem QueuesBehind.of_linkParts {s t : State} (h : linkParts t = linkParts s) : QueuesBehind s t := by
  simp only [linkParts, Prod.mk.injEq] at h
  obtain ⟨hx, hl⟩ := h
  exact ⟨hx, by rw [hl]⟩

theorem QueuesBehind.trans {s t u : State} (h : QueuesBehind s t) (k : QueuesBehind t u) : QueuesBehind s u :=
  ⟨k.xfr.trans h.xfr, h.outbound.trans k.outbound⟩

theorem alwaysNew_refDone (n : Fin 4) (b : Bool) (q : Nat) (c : Channel) : alwaysNew (.refDone n b q c) := fun _ => rfl

theorem offer_queuesBehind {r : Report} (hr : alwaysNew r) (s : State) : QueuesBehind s (offer r s) :=
  ⟨by rw [offer_only], outbound_prefix_offer hr s⟩

theorem releasePages_linkParts (ps : List Nat) (s : State) : linkParts (releasePages ps s) = linkParts s := retryPending_linkParts _

theorem swapRef_queuesBehind (n : Fin 4) (s : State) : QueuesBehind s (swapRef n s) := by
  unfold swapRef
  split
  · exact .of_linkParts rfl
  · rename_i c _
    refine .trans (.of_linkParts ?_) (offer_queuesBehind (alwaysNew_refDone _ _ _ _) _)
    rw [setRedraw_linkParts]
    split
    · rfl
    · exact releasePages_linkParts _ _

theorem refUnpinned_queuesBehind (n : Fin 4) (s : State) : QueuesBehind s (refUnpinned n s) := by
  unfold refUnpinned
  split
  · exact .of_linkParts rfl
  · split
    · split
      · exact swapRef_queuesBehind n s
      · exact .of_linkParts rfl
    · exact .of_linkParts rfl
  · split
    · exact .of_linkParts rfl
    · exact .of_linkParts (releasePages_linkParts _ _)

/-- R85: a pin that is held is released; the last one settles the slot. -/
theorem releaseRefPin_of_held {b : Bool} {n : Fin 4} {s : State}
    (h : (if b = true then s.mem.refs[n].pinTransfer else s.mem.refs[n].pinRender) = true) :
    releaseRefPin b n s =
      if ((refUnpin b s.mem.refs[n]).pinRender || (refUnpin b s.mem.refs[n]).pinTransfer) = true then modRef n (refUnpin b) s
      else refUnpinned n (modRef n (refUnpin b) s) := by
  have same : (fun r : RefSlot => if b then { r with pinTransfer := false } else { r with pinRender := false }) = refUnpin b := by
    funext r; cases b <;> rfl
  unfold releaseRefPin
  rw [same]
  dsimp only
  rw [if_pos h, modRef_self]

theorem releaseRefPin_of_unheld {b : Bool} {n : Fin 4} {s : State}
    (h : (if b = true then s.mem.refs[n].pinTransfer else s.mem.refs[n].pinRender) = false) : releaseRefPin b n s = s := by
  unfold releaseRefPin
  dsimp only
  rw [if_neg (by rw [h]; decide)]

theorem releaseRefPin_queuesBehind (b : Bool) (n : Fin 4) (s : State) : QueuesBehind s (releaseRefPin b n s) := by
  have unpinned : QueuesBehind s (modRef n (refUnpin b) s) := .of_linkParts rfl
  cases h : (if b = true then s.mem.refs[n].pinTransfer else s.mem.refs[n].pinRender) with
  | false => rw [releaseRefPin_of_unheld h]; exact .of_linkParts rfl
  | true =>
    rw [releaseRefPin_of_held h]
    split
    · exact unpinned
    · exact unpinned.trans (refUnpinned_queuesBehind n _)

theorem unpinSource_queuesBehind (x : XferSource) (s : State) : QueuesBehind s (unpinSource x s) := by
  cases x with
  | segment seq ch => exact .of_linkParts (releaseSegPin_linkParts .transfer seq s)
  | reference n => exact releaseRefPin_queuesBehind true n s

/-! ### R200: the release of the TRANSFER pin -/

/-- R78: a record whose one pin is TRANSFER's. -/
theorem unpinned_without_transfer {r : SegRec} (h : r.pins.transfer = true) :
    unpinned { r with pins := setPin .transfer false r.pins } = true ↔ r.pins = ⟨false, false, true, false⟩ := by
  cases hp : r.pins with
  | mk v re t c =>
    rw [hp] at h
    cases (show t = true from h)
    simp [unpinned, setPin, and_assoc]

/-- R76: the record that bears the seq is gone, whatever was changed in it. -/
theorem dropSegment_modSeg {s : State} (hn : (s.mem.table.map (·.seq)).Nodup) {seq : Nat} {r : SegRec} (hr : findSeg seq s = some r)
    {f : SegRec → SegRec} (hseq : ∀ y, (f y).seq = y.seq) (hpages : ∀ y, (f y).pages = y.pages) :
    (dropSegment seq (modSeg seq f s)).mem =
      { s.mem with table := s.mem.table.filter (fun y => y.seq != seq), pool := s.mem.pool ++ sortAsc (segPages r) } := by
  have found : findSeg seq (modSeg seq f s) = some (f r) := by rw [findSeg_modSeg_self hseq, hr]; rfl
  have seqs : (modSeg seq f s).mem.table.map (·.seq) = s.mem.table.map (·.seq) := by
    rw [modSeg_mem, List.map_map]
    refine List.map_congr_left fun y _ => ?_
    show (if y.seq == seq then f y else y).seq = y.seq
    split
    · exact hseq y
    · rfl
  have table := dropSegment_table (s := modSeg seq f s) (by rw [seqs]; exact hn) seq
  have only : (dropSegment seq (modSeg seq f s)).mem =
      { s.mem with table := (dropSegment seq (modSeg seq f s)).mem.table, pool := s.mem.pool ++ sortAsc (segPages (f r)) } := by
    unfold dropSegment; rw [found]; rfl
  rw [only, table]
  have pages : segPages (f r) = segPages r := by unfold segPages; rw [hpages]
  rw [pages, modSeg_mem]
  have same : ((fun y : SegRec => y.seq != seq) ∘ fun y => if y.seq == seq then f y else y) = fun y => y.seq != seq := by
    funext y
    show ((if y.seq == seq then f y else y).seq != seq) = (y.seq != seq)
    split
    · rw [hseq]
    · rfl
  have others : ∀ y ∈ s.mem.table.filter (fun y => y.seq != seq), (if y.seq == seq then f y else y) = id y := by
    intro y hy
    have hne := (List.mem_filter.1 hy).2
    rw [if_neg (by simpa using hne)]
    rfl
  rw [List.filter_map, same, List.map_congr_left others, List.map_id]

theorem refUnpinned_of_valid {n : Fin 4} {s : State} (h : s.mem.refs[n].state = .valid) : refUnpinned n s = s := by
  unfold refUnpinned; rw [h]

theorem vmod_vmod {α : Type} {k : Nat} (v : Vector α k) (i : Fin k) (f g : α → α) : vmod (vmod v i f) i g = vmod v i (g ∘ f) := by
  simp [vmod]

theorem vmod_id {α : Type} {k : Nat} {v : Vector α k} {i : Fin k} {f : α → α} (h : f v[i] = v[i]) : vmod v i f = v := by
  unfold vmod; rw [h]; simp

/-- R84, R85: the pages of cleared contents go at the last pin. -/
theorem refUnpinned_of_empty {n : Fin 4} {s : State} (h : s.mem.refs[n].state = .empty) (hnone : s.mem.pendingAlloc = none) :
    refUnpinned n s = { s with mem := { s.mem with
      refs := vmod s.mem.refs n (fun r => { r with pages := [] }), pool := s.mem.pool ++ sortAsc s.mem.refs[n].pages } } := by
  unfold refUnpinned
  rw [h]
  dsimp only
  split
  · rename_i hpages
    have same : (fun r : RefSlot => { r with pages := [] }) s.mem.refs[n] = s.mem.refs[n] := by
      show { s.mem.refs[n] with pages := [] } = s.mem.refs[n]
      rw [← hpages]
    rw [vmod_id same, hpages]
    simp [sortAsc]
  · unfold releasePages
    rw [retryPending_of_none (by exact hnone)]
    rfl

/-- R200 step 2: what the end of a transfer makes of MEM. -/
theorem unpinSource_releases (x : XferSource) (s : State) : TransferReleased x s (unpinSource x s) := by
  intro hnone
  cases x with
  | segment seq ch =>
    intro r hr hpin hn
    show (releaseSegPin .transfer seq s).mem = _
    unfold releaseSegPin
    rw [hr]
    dsimp only
    rw [if_pos (show hasPin .transfer r.pins = true from hpin)]
    by_cases hstale : r.state = .stale ∧ r.pins = ⟨false, false, true, false⟩
    · obtain ⟨hst, hpins⟩ := hstale
      rw [if_pos ⟨hst, (unpinned_without_transfer hpin).2 hpins⟩, if_pos ⟨hst, hpins⟩]
      unfold removeSegment
      rw [retryPending_of_none (by rw [dropSegment_pendingAlloc]; exact hnone)]
      exact dropSegment_modSeg hn hr (fun _ => rfl) (fun _ => rfl)
    · rw [if_neg (fun h => hstale ⟨h.1, (unpinned_without_transfer hpin).1 h.2⟩), if_neg hstale, retryPending_of_none (by exact hnone),
        modSeg_mem]
      simp only [beq_iff_eq]
      rfl
  | reference n =>
    intro hpin
    have held : (if true = true then s.mem.refs[n].pinTransfer else s.mem.refs[n].pinRender) = true := hpin
    have self := modRef_self n (refUnpin true) s
    have render : (refUnpin true s.mem.refs[n]).pinRender = s.mem.refs[n].pinRender := rfl
    refine ⟨fun h => ?_, fun hrender hempty => ?_⟩
    · show (releaseRefPin true n s).mem = _
      rw [releaseRefPin_of_held held]
      split
      · rfl
      · rename_i hpins
        have valid : s.mem.refs[n].state = .valid := h.resolve_left fun hr => hpins (by rw [render, hr]; rfl)
        rw [refUnpinned_of_valid (by rw [self]; exact valid)]
        rfl
    · show (releaseRefPin true n s).mem = _
      rw [releaseRefPin_of_held held, if_neg (by rw [render, hrender]; exact Bool.false_ne_true),
        refUnpinned_of_empty (by rw [self]; exact hempty) (by exact hnone)]
      rw [self, modRef_mem]
      dsimp only
      rw [vmod_vmod]
      rfl

end Sys2Proof.Machine
end

section
/-! PROOF. The chunks of a transfer and its end. -/

namespace Sys2Proof.Machine

theorem alwaysNew_data (id : Byte) (offset : Nat) (k : List Byte) : alwaysNew (.data id offset k) := fun _ => rfl
theorem alwaysNew_xferEnd (id : Byte) (b : Bool) (n : Nat) : alwaysNew (.xferEnd id b n) := fun _ => rfl

/-- R210: a report that updates nothing joins the tail of a queue with room; nothing else changes. -/
theorem offer_of_room {r : Report} (hr : alwaysNew r) {s : State} (h : 1 ≤ freeCount s) : offer r s = enqueue (.report r) s := by
  have hnone : replaceFirst (updates r) (fun _ => Record.report r) s.lnk.outbound = none :=
    (replaceFirst_none _ _ _).2 (fun x _ => hr x)
  simp [offer, hnone, offerNew, h]

/-- R200: ENDING is entered with the chunk gone and the outcome noted, and the TRANSFER pin is released. -/
theorem enterEnding_spec (c : XferContext) (aborted : Bool) (s : State) :
    (enterEnding c aborted s).xfr = ⟨.ending, s.xfr.counter, some { c with aborted := aborted }, none⟩ ∧
    TransferReleased c.source s (enterEnding c aborted s) ∧ s.lnk.outbound <+: (enterEnding c aborted s).lnk.outbound := by
  have queues := unpinSource_queuesBehind c.source
    { s with xfr := { s.xfr with state := .ending, chunk := none, ctx := some { c with aborted := aborted } } }
  have released := unpinSource_releases c.source
    { s with xfr := { s.xfr with state := .ending, chunk := none, ctx := some { c with aborted := aborted } } }
  exact ⟨queues.xfr, released, queues.outbound⟩

/-! ### CHUNK_READ_END -/

theorem readChunk_spec (c : XferContext) (s : State) : (readChunk c s).offset = c.next ∧
    (readChunk c s).samples.length = min 512 (c.first + c.count - c.next) ∧
    ∀ i, i < (readChunk c s).samples.length → (readChunk c s).samples[i]? = some (sourceSample c.source (c.next + i) s) := by
  refine ⟨rfl, ?_, fun i hi => ?_⟩
  · simp [readChunk, chunkLength, Config.chunkSize]
  · have hlt : i < chunkLength c := by simpa [readChunk] using hi
    simp [readChunk, hlt]

theorem chunkReadEnds_of_reading {c : XferContext} {s : State} (hst : s.xfr.state = .reading) (hctx : s.xfr.ctx = some c) :
    chunkReadEnds s = if c.abortPending then enterEnding c true s
      else { s with xfr := { s.xfr with state := .waiting, chunk := some (readChunk c s) } } := by
  unfold chunkReadEnds
  rw [hst, hctx]

/-! ### DATA -/

/-- R199: the context once a chunk is queued. -/
def contextAfter (c : XferContext) (k : Chunk) : XferContext :=
  { c with queued := c.queued + k.samples.length, next := k.offset + k.samples.length }

theorem dataOffered_of_waiting {c : XferContext} {k : Chunk} {s : State} (hst : s.xfr.state = .waiting) (hctx : s.xfr.ctx = some c)
    (hk : s.xfr.chunk = some k) : dataOffered s = if 8 ≤ freeCount s then chunkQueued c k s else s := by
  unfold dataOffered
  rw [hst, hctx, hk]
  simp [bulkRoom]

/-- R199: the chunk joins the queue; the last one takes the engine to ENDING. -/
theorem chunkQueued_of_room {c : XferContext} {k : Chunk} {s : State} (h : 8 ≤ freeCount s) :
    chunkQueued c k s =
      if c.count ≤ c.queued + k.samples.length then enterEnding (contextAfter c k) false
        (enqueue (.report (.data c.id k.offset k.samples)) { s with xfr := { s.xfr with chunk := none, ctx := some (contextAfter c k) } })
      else enqueue (.report (.data c.id k.offset k.samples))
        { s with xfr := ⟨.reading, s.xfr.counter, some (contextAfter c k), none⟩ } := by
  have room : 1 ≤ freeCount { s with xfr := { s.xfr with chunk := none, ctx := some (contextAfter c k) } } := by
    show 1 ≤ freeCount s
    omega
  have joins := offer_of_room (alwaysNew_data c.id k.offset k.samples) room
  unfold chunkQueued
  unfold contextAfter at *
  dsimp only
  rw [joins]
  rfl

/-! ### XFER_END -/

theorem xferEnds_of_ending {c : XferContext} {s : State} (hst : s.xfr.state = .ending) (hctx : s.xfr.ctx = some c) :
    xferEnds s = if 8 ≤ freeCount s then enqueue (.report (.xferEnd c.id c.aborted c.queued))
      { s with xfr := { s.xfr with state := .idle, ctx := none, chunk := none } } else s := by
  unfold xferEnds
  rw [hst, hctx]
  by_cases h : 8 ≤ freeCount s
  · have room : 1 ≤ freeCount { s with xfr := { s.xfr with state := .idle, ctx := none, chunk := none } } := by
      show 1 ≤ freeCount s
      omega
    simp only [bulkRoom, h, decide_true, if_true, offer_of_room (alwaysNew_xferEnd c.id c.aborted c.queued) room]
  · simp [bulkRoom, h]

/-- Settles O52: each event by the state of the engine. -/
theorem transferSendsItsChunks : Obligations.TransferSendsItsChunks := by
  intro c s hup hctx
  have up : ∀ {f : State → State} {t : State}, f s = t → whenUp f s = .next t := fun h => (whenUp_of_up _ s hup).trans (congrArg _ h)
  refine ⟨fun hst hab => ?_, fun hst hab => ?_, fun k hst hk => ⟨fun hfree => ?_, fun hfree hmore => ?_, fun hfree hlast => ?_⟩,
    fun hst => up (xferEnds_of_ending hst hctx)⟩
  · have reads := chunkReadEnds_of_reading hst hctx
    rw [hab, if_neg Bool.false_ne_true] at reads
    exact ⟨readChunk c s, up reads, readChunk_spec c s⟩
  · have ends := chunkReadEnds_of_reading hst hctx
    rw [hab, if_pos rfl] at ends
    obtain ⟨xfr, released, _⟩ := enterEnding_spec c true s
    exact ⟨_, up ends, xfr, released⟩
  · have offered := dataOffered_of_waiting hst hctx hk
    rw [if_neg (by omega)] at offered
    exact up offered
  · have offered := dataOffered_of_waiting hst hctx hk
    rw [if_pos hfree, chunkQueued_of_room hfree, if_neg (by omega)] at offered
    exact up offered
  · have offered := dataOffered_of_waiting hst hctx hk
    rw [if_pos hfree, chunkQueued_of_room hfree, if_pos hlast] at offered
    obtain ⟨xfr, released, outbound⟩ := enterEnding_spec (contextAfter c k) false
      (enqueue (.report (.data c.id k.offset k.samples)) { s with xfr := { s.xfr with chunk := none, ctx := some (contextAfter c k) } })
    exact ⟨_, up offered, outbound, xfr, released⟩

end Sys2Proof.Machine
end

section
/-! PROOF. The numbers of a payload, the segment that a source names, the reply of a request handed on, and the
form of XFER_START. -/

namespace Sys2Proof.Machine

/-! ### Numbers of a payload -/

/-- A number of 32 bits is read back from its four bytes. -/
theorem beBytes_four {v : Nat} (h : v < 4294967296) : ∃ a b c d : Byte, beBytes 4 v = [a, b, c, d] ∧ ofBe [a, b, c, d] = v := by
  refine ⟨_, _, _, _, rfl, ?_⟩
  simp only [ofBe, List.foldl, BitVec.toNat_ofNat]
  omega

theorem beBytes_two {v : Nat} (h : v < 65536) : ∃ a b : Byte, beBytes 2 v = [a, b] ∧ ofBe [a, b] = v := by
  refine ⟨_, _, rfl, ?_⟩
  simp only [ofBe, List.foldl, BitVec.toNat_ofNat]
  omega

theorem oneOfFour_of_eq {v : Nat} {n : Fin 4} (h : v = n.val + 1) : oneOfFour v = some n := by
  subst h
  have hn := n.isLt
  simp only [oneOfFour]
  rw [dif_pos (by omega)]
  rfl

theorem oneOfFour_of_out {v : Nat} (h : ¬ (1 ≤ v ∧ v ≤ 4)) : oneOfFour v = none := dif_neg h

theorem oneOfFour_in {v : Nat} (h : 1 ≤ v ∧ v ≤ 4) : ∃ n : Fin 4, oneOfFour v = some n ∧ v = n.val + 1 :=
  ⟨⟨v - 1, by omega⟩, dif_pos h, by simp; omega⟩

/-! ### Replies -/

/-- R208: the reply of a request handed on to an owner that left LNK alone. -/
theorem reply_of_handed {q g : Byte} {st : Status} {b : ReplyBody} {s u : State} (h : u.lnk = (handed s).lnk) :
    reply q g st b u = answered q g st b { u with lnk := (taken s).lnk } := by
  simp [reply, answered, h, handed, taken, reserve]

/-! ### The segment that a source names -/

theorem newestComplete_of_none {s : State} (h : ∀ r ∈ s.mem.table, r.state ≠ .complete) : newestComplete s = none := by
  unfold newestComplete
  rw [List.find?_eq_none]
  intro r hr
  simpa using h r (List.mem_reverse.1 hr)

theorem newestComplete_of_last {s : State} {a b : List SegRec} {r : SegRec} (htable : s.mem.table = a ++ r :: b)
    (hr : r.state = .complete) (hb : ∀ x ∈ b, x.state ≠ .complete) : newestComplete s = some r := by
  have later : b.reverse.find? (fun x => decide (x.state = .complete)) = none := by
    rw [List.find?_eq_none]
    intro x hx
    simpa using hb x (List.mem_reverse.1 hx)
  unfold newestComplete
  rw [htable, List.reverse_append, List.reverse_cons, List.append_assoc, List.find?_append, later]
  simp [hr]

/-- R80, R196: what names no COMPLETE record. -/
theorem resolveSource_of_none {source : Option Nat} {s : State} (hlatest : source = none → ∀ r ∈ s.mem.table, r.state ≠ .complete)
    (hseq : ∀ q, source = some q → ∀ r, findSeg q s = some r → r.state ≠ .complete) : resolveSource source s = none := by
  cases source with
  | none => exact newestComplete_of_none (hlatest rfl)
  | some q =>
    refine Option.filter_eq_none_iff.2 fun r hr => ?_
    simpa using hseq q rfl r hr

/-- R80, R196: the record that LATEST, or a seq, names. -/
theorem resolveSource_of_complete {source : Option Nat} {r : SegRec} {s : State} (hfind : findSeg r.seq s = some r)
    (hr : r.state = .complete) (hlatest : source = none → ∃ a b, s.mem.table = a ++ r :: b ∧ ∀ x ∈ b, x.state ≠ .complete)
    (hseq : ∀ q, source = some q → q = r.seq) : resolveSource source s = some r := by
  cases source with
  | none => obtain ⟨a, b, htable, hb⟩ := hlatest rfl; exact newestComplete_of_last htable hr hb
  | some q =>
    obtain rfl := hseq q rfl
    exact Option.filter_eq_some_iff.2 ⟨hfind, by simpa using hr⟩

/-- R78: a pin on a COMPLETE record is granted. -/
theorem pinSegment_of_complete {h : Holder} {r : SegRec} {s : State} (hfind : findSeg r.seq s = some r) (hr : r.state = .complete) :
    pinSegment h r.seq s = (modSeg r.seq (fun x => { x with pins := setPin h true x.pins }) s, true) := by
  unfold pinSegment
  rw [hfind]
  dsimp only
  rw [if_pos hr]

/-! ### XFER_START -/

/-- R196: the source that a form, a seq and a channel or slot ask for. -/
def askedSource (form : Fin 3) (seq : Nat) (c : Fin 4) : SourceForm :=
  if form = 0 then .latest c else if form = 1 then .segment seq c else .reference c

/-- R196 (log 12): the source bytes. -/
def sourceBytesOf (form : Fin 3) (seq : Nat) (number : Byte) : List Byte :=
  if form = 0 then [0, number] else if form = 1 then 1 :: (beBytes 4 seq ++ [number]) else [2, number]

theorem parseXferStart_asked (form : Fin 3) (number : Byte) {seq first count : Nat} (hseq : seq < 4294967296)
    (hfirst : first < 4294967296) (hcount : count < 4294967296) :
    ∃ f, parseXferStart (sourceBytesOf form seq number ++ beBytes 4 first ++ beBytes 4 count) = some (f, first, count) ∧
      sourceForm f = (oneOfFour number.toNat).map (askedSource form seq) := by
  obtain ⟨a, b, c, d, hab, hfirst⟩ := beBytes_four hfirst
  obtain ⟨i, j, k, l, hij, hcount⟩ := beBytes_four hcount
  obtain ⟨q, r, s, t, hqr, hseq⟩ := beBytes_four hseq
  rw [hab, hij]
  unfold sourceBytesOf askedSource
  rw [hqr]
  by_cases h0 : form = 0
  · refine ⟨.latest number.toNat, ?_, ?_⟩
    · rw [if_pos h0]; simp [parseXferStart, hfirst, hcount]
    · simp only [if_pos h0]; rfl
  · by_cases h1 : form = 1
    · refine ⟨.segment seq number.toNat, ?_, ?_⟩
      · rw [if_neg h0, if_pos h1]; simp [parseXferStart, hfirst, hcount, hseq]
      · simp only [if_neg h0, if_pos h1]; rfl
    · refine ⟨.reference number.toNat, ?_, ?_⟩
      · rw [if_neg h0, if_neg h1]; simp [parseXferStart, hfirst, hcount]
      · simp only [if_neg h0, if_neg h1]; rfl

end Sys2Proof.Machine
end

section
/-! PROOF. XFER_START by the checks of R196, and XFER_ABORT by the state of the engine. -/

namespace Sys2Proof.Machine

/-- R196: XFER_START once its payload has been read. -/
theorem xferStartOf_asked (tag : Byte) (form : Fin 3) (number : Byte) {seq first count : Nat} (hseq : seq < 4294967296)
    (hfirst : first < 4294967296) (hcount : count < 4294967296) (s : State) :
    xferStartOf tag (sourceBytesOf form seq number ++ beBytes 4 first ++ beBytes 4 count) s =
      match oneOfFour number.toNat with
      | none => reply 0x78 tag .badArg .empty s
      | some c =>
        if count = 0 then reply 0x78 tag .badArg .empty s
        else if s.xfr.state ≠ .idle then reply 0x78 tag .busy .empty s
        else
          match resolveXfer (askedSource form seq c) s with
          | none => reply 0x78 tag .notFound .empty s
          | some r => if first < r.n then startTransfer tag r first count s else reply 0x78 tag .badArg .empty s := by
  obtain ⟨f, hparse, hform⟩ := parseXferStart_asked form number hseq hfirst hcount
  unfold xferStartOf
  rw [hparse]
  dsimp only
  rw [hform]
  cases oneOfFour number.toNat <;> rfl

/-- R196: the segment forms resolve through the record that the source names. -/
theorem resolveXfer_record {form : Fin 3} (h : form ≠ 2) (seq : Nat) (c : Channel) (s : State) :
    resolveXfer (askedSource form seq c) s = resolveRecord (resolveSource (if form = 0 then none else some seq) s) c := by
  unfold askedSource
  by_cases h0 : form = 0
  · simp only [if_pos h0]; rfl
  · have h1 : form = 1 := by omega
    simp only [if_neg h0, if_pos h1]
    rfl

theorem resolveXfer_reference (seq : Nat) (n : Fin 4) (s : State) : resolveXfer (askedSource 2 seq n) s =
    (s.mem.refs[n].contents).map (fun c => ⟨.reference n, c.seq, c.channel, c.n⟩) := rfl

/-- R197: an accepted start, where the pin changes MEM alone. -/
theorem startTransfer_handed {tag : Byte} {r : Resolved} {first count : Nat} {s : State} {m : Mem}
    (hpin : pinSource r.source (handed s) = { handed s with mem := m }) :
    startTransfer tag r first count (handed s) = answered 0x78 tag .accepted
      (.xferStart (s.xfr.counter + 1) r.seq r.ch first (min count (r.n - first)) r.n)
      { taken s with
        mem := m
        xfr := ⟨.reading, s.xfr.counter + 1, some ⟨s.xfr.counter + 1, r.source, r.n, first, min count (r.n - first), first, 0, false,
          false⟩, s.xfr.chunk⟩ } := by
  unfold startTransfer
  rw [hpin]
  exact reply_of_handed rfl

/-! ### XFER_ABORT -/

/-- R201: an abort that names the present transfer. -/
theorem xferAbortOf_named {tag : Byte} {c : XferContext} {s : State} (hst : s.xfr.state ≠ .idle) (hctx : s.xfr.ctx = some c)
    (id : Byte) : xferAbortOf tag [id] s =
      if id = c.id then abortTransfer c (reply 0x79 tag .ok .empty s) else reply 0x79 tag .badArg .empty s := by
  unfold xferAbortOf
  simp only [parseByte, hctx]

/-- R201: XFER_ABORT. -/
theorem xferAbort_spec (tag id : Byte) (s : State) (hc : CanTake 0x79 tag [id] s) :
    (s.xfr.state = .idle → exec (.xferAbort tag [id]) s = .next (answered 0x79 tag .badState .empty (taken s))) ∧
    ∀ c, s.xfr.ctx = some c →
      (s.xfr.state ≠ .idle → id ≠ c.id →
        exec (.xferAbort tag [id]) s = .next (answered 0x79 tag .badArg .empty (taken s))) ∧
      (s.xfr.state = .reading → id = c.id → exec (.xferAbort tag [id]) s = .next (answered 0x79 tag .ok .empty
        { taken s with xfr := { s.xfr with ctx := some { c with abortPending := true } } })) ∧
      (s.xfr.state = .ending → id = c.id →
        exec (.xferAbort tag [id]) s = .next (answered 0x79 tag .ok .empty (taken s))) ∧
      (s.xfr.state = .waiting → id = c.id → ∃ t, exec (.xferAbort tag [id]) s = .next t ∧
        t.xfr = ⟨.ending, s.xfr.counter, some { c with aborted := true }, none⟩ ∧ TransferReleased c.source s t ∧
        s.lnk.outbound ++ [.reply ⟨tag, 0x79, .ok, .empty⟩] <+: t.lnk.outbound) := by
  have run : ∀ {t : State}, xferAbortOf tag [id] (handed s) = t → exec (.xferAbort tag [id]) s = .next t := fun h =>
    (request_of_canTake _ _ _ _ _ hc).trans (congrArg _ h)
  refine ⟨fun hst => run ?_, fun c hctx => ?_⟩
  · have idle : (handed s).xfr.state = .idle := hst
    unfold xferAbortOf
    simp only [parseByte, idle]
    exact reply_handed ..
  have named := fun hst : s.xfr.state ≠ .idle => xferAbortOf_named (tag := tag) (s := handed s) hst hctx id
  have aborts : s.xfr.state ≠ .idle → id = c.id → xferAbortOf tag [id] (handed s) =
      abortTransfer c (answered 0x79 tag .ok .empty (taken s)) := fun hst hid => by
    rw [named hst, if_pos hid, reply_handed]
  refine ⟨fun hst hid => run ?_, fun hst hid => run ?_, fun hst hid => run ?_, fun hst hid => ?_⟩
  · rw [named hst, if_neg hid, reply_handed]
  · rw [aborts (by rw [hst]; decide) hid]
    have reading : (answered 0x79 tag .ok .empty (taken s)).xfr.state = .reading := hst
    unfold abortTransfer
    rw [reading]
    rfl
  · rw [aborts (by rw [hst]; decide) hid]
    have ending : (answered 0x79 tag .ok .empty (taken s)).xfr.state = .ending := hst
    unfold abortTransfer
    rw [ending]
  · have ended := aborts (by rw [hst]; decide) hid
    have waiting : (answered 0x79 tag .ok .empty (taken s)).xfr.state = .waiting := hst
    unfold abortTransfer at ended
    rw [waiting] at ended
    obtain ⟨xfr, released, outbound⟩ := enterEnding_spec c true (answered 0x79 tag .ok .empty (taken s))
    exact ⟨_, run ended, xfr, released, outbound⟩

/-- Settles O51: a start by its checks in order, an abort by the state of the engine. -/
theorem transfersStartAndAbort : Obligations.TransfersStartAndAbort := by
  refine ⟨fun tag number form seq first count s hseq hfirst hcount => ?_, xferAbort_spec⟩
  intro source payload inForm refused accepted hc
  have asked := xferStartOf_asked tag form number hseq hfirst hcount (handed s)
  have run : ∀ {t : State}, xferStartOf tag payload (handed s) = t → exec (.xferStart tag payload) s = .next t := fun h =>
    (request_of_canTake _ _ _ _ _ hc).trans (congrArg _ h)
  have refuses : ∀ st, xferStartOf tag payload (handed s) = reply 0x78 tag st .empty (handed s) → refused st := fun st h =>
    run (h.trans (reply_handed ..))
  have formed : inForm → ∃ c : Fin 4, oneOfFour number.toNat = some c ∧ number.toNat = c.val + 1 ∧ count ≠ 0 := fun ⟨h1, h4, h0⟩ => by
    obtain ⟨c, hc, hv⟩ := oneOfFour_in ⟨h1, h4⟩
    exact ⟨c, hc, hv, h0⟩
  refine ⟨fun hout => refuses _ ?_, fun hin hbusy => refuses _ ?_, fun hin hidle => ?_⟩
  · refine asked.trans ?_
    by_cases hnum : 1 ≤ number.toNat ∧ number.toNat ≤ 4
    · obtain ⟨c, hc, _⟩ := oneOfFour_in hnum
      have hzero : count = 0 := by by_contra h0; exact hout ⟨hnum.1, hnum.2, h0⟩
      rw [hc]
      exact if_pos hzero
    · rw [oneOfFour_of_out hnum]
  · obtain ⟨c, hc, _, h0⟩ := formed hin
    refine asked.trans ?_
    rw [hc]
    dsimp only
    rw [if_neg h0, if_pos (show (handed s).xfr.state ≠ .idle from hbusy)]
  · obtain ⟨c, hc, hnum, h0⟩ := formed hin
    rw [hc] at asked
    dsimp only at asked
    rw [if_neg h0, if_neg (not_not.2 (show (handed s).xfr.state = .idle from hidle))] at asked
    refine ⟨fun ch hch hform => ?_, fun n hn hform => ?_⟩
    · obtain rfl : ch = c := Fin.ext (by omega)
      rw [resolveXfer_record hform] at asked
      refine ⟨fun hlatest hnamed => refuses _ (asked.trans ?_), fun r hfind hr hlatest hnamed => ?_⟩
      · have none_found : resolveSource (if form = 0 then none else some seq) (handed s) = none := by
          refine resolveSource_of_none (fun h => hlatest ?_) fun q hq => ?_
          · by_contra h0; rw [if_neg h0] at h; cases h
          · split at hq
            · cases hq
            · cases hq; exact hnamed (by omega)
        rw [none_found]
        rfl
      · have found : resolveSource (if form = 0 then none else some seq) (handed s) = some r := by
          refine resolveSource_of_complete hfind hr (fun h => hlatest ?_) fun q hq => ?_
          · by_contra h0; rw [if_neg h0] at h; cases h
          · split at hq
            · cases hq
            · cases hq; exact hnamed (by omega)
        rw [found] at asked
        have pins : pinSource (.segment r.seq ch) (handed s) = { handed s with mem := { s.mem with
            table := s.mem.table.map (fun x => if x.seq = r.seq then { x with pins := { x.pins with transfer := true } } else x) } } := by
          unfold pinSource
          dsimp only
          rw [pinSegment_of_complete (s := handed s) hfind hr]
          simp only [modSeg, beq_iff_eq]
          rfl
        simp only [resolveRecord] at asked
        refine ⟨fun hset => refuses _ ?_, fun hset hout => refuses _ ?_, fun hset hlt => run ?_⟩
        · rw [hset] at asked
          exact asked
        · rw [hset] at asked
          exact asked.trans (if_neg (by show ¬ first < r.n; omega))
        · rw [hset] at asked
          exact (asked.trans (if_pos hlt)).trans (startTransfer_handed pins)
    · obtain rfl : n = c := Fin.ext (by omega)
      subst hform
      rw [resolveXfer_reference] at asked
      refine ⟨fun hnone => refuses _ ?_, fun c hsome => ⟨fun hout => refuses _ ?_, fun hlt => run ?_⟩⟩
      · rw [show (handed s).mem.refs[n].contents = none from hnone] at asked
        exact asked
      all_goals rw [show (handed s).mem.refs[n].contents = some c from hsome] at asked
      · exact asked.trans (if_neg (by show ¬ first < c.n; omega))
      · have pins : pinSource (.reference n) (handed s) = { handed s with mem := { s.mem with
            refs := s.mem.refs.set n { s.mem.refs[n] with pinTransfer := true } } } := by
          unfold pinSource pinRef
          dsimp only
          rw [if_pos (by rw [show (handed s).mem.refs[n].contents = some c from hsome]; rfl)]
          rfl
        exact (asked.trans (if_pos hlt)).trans (startTransfer_handed pins)

end Sys2Proof.Machine
end

section
/-! PROOF. The read-only queries: SEGMENT_LIST, PAGE_QUERY, PEEK, CURSOR_READ and STORE_LIST. -/

namespace Sys2Proof.Machine

/-! ### SEGMENT_LIST -/

theorem dropWhile_split {α : Type} {p : α → Bool} {a b : List α} (ha : ∀ x ∈ a, p x = true) (hb : ∀ x, b.head? = some x → p x = false) :
    (a ++ b).dropWhile p = b := by
  rw [List.dropWhile_append_of_pos ha]
  cases b with
  | nil => rfl
  | cons x rest => exact List.dropWhile_cons_of_neg (by rw [hb x rfl]; decide)

/-- R86: the records are listed from the one that bears the start, or else from the first of a higher seq. -/
theorem listFrom_split {start : Nat} {before rest : List SegRec}
    (h : (start = 0 ∧ before = []) ∨
      (start ≠ 0 ∧ (∀ r ∈ before, r.seq ≠ start) ∧ rest.head?.map (·.seq) = some start) ∨
      (start ≠ 0 ∧ (∀ r ∈ before ++ rest, r.seq ≠ start) ∧ (∀ r ∈ before, r.seq < start) ∧
        ∀ r, rest.head? = some r → start < r.seq)) :
    listFrom start (before ++ rest) = rest := by
  unfold listFrom
  rcases h with ⟨h0, hb⟩ | ⟨h0, hb, hhead⟩ | ⟨h0, hnone, hb, hhead⟩
  · rw [if_pos h0, hb, List.nil_append]
  · obtain ⟨r, hr, hseq⟩ := Option.map_eq_some_iff.1 hhead
    have borne : (before ++ rest).any (fun x => x.seq == start) = true :=
      List.any_eq_true.2 ⟨r, List.mem_append_right _ (List.mem_of_head? hr), by simpa using hseq⟩
    rw [if_neg h0, if_pos borne]
    refine dropWhile_split (fun x hx => by simpa using hb x hx) fun x hx => ?_
    rw [hr] at hx
    cases hx
    simpa using hseq
  · have free : ¬ (before ++ rest).any (fun x => x.seq == start) = true := by
      rw [List.any_eq_true]
      rintro ⟨x, hx, hseq⟩
      exact hnone x hx (by simpa using hseq)
    rw [if_neg h0, if_neg free]
    refine dropWhile_split (fun x hx => ?_) fun x hx => ?_
    · have := hb x hx
      simp only [Bool.not_eq_true', decide_eq_false_iff_not]
      omega
    · simpa using hhead x hx

theorem segmentListOf_listed (tag k : Byte) {start : Nat} (hstart : start < 4294967296) (s : State) :
    segmentListOf tag (beBytes 4 start ++ [k]) s =
      if 1 ≤ k.toNat ∧ k.toNat ≤ 24 then
        reply 0x42 tag .ok (.segments ((listFrom start s.mem.table).take k.toNat)
          ((((listFrom start s.mem.table).drop k.toNat).head?.map (·.seq)).getD 0)) s
      else reply 0x42 tag .badArg .empty s := by
  obtain ⟨a, b, c, d, hbytes, hval⟩ := beBytes_four hstart
  have parsed : parseSegmentList (beBytes 4 start ++ [k]) = some (start, k.toNat) := by
    rw [hbytes, ← hval]; rfl
  unfold segmentListOf
  rw [parsed]
  dsimp only
  cases (listFrom start s.mem.table).drop k.toNat <;> rfl

/-! ### PAGE_QUERY and PEEK -/

/-- R87: a page query that names a place. -/
theorem pageQuery_answered {tag : Byte} {p : List Byte} {f : PlaceForm} {s : State} {st : Status} {b : ReplyBody}
    (hparse : parsePageQuery p = some f) (hc : CanTake 0x43 tag p s) (h : pageAnswer f (handed s) = (st, b)) :
    exec (.pageQuery tag p) s = .next (answered 0x43 tag st b (taken s)) := by
  refine (request_of_canTake _ _ _ _ _ hc).trans (congrArg _ ?_)
  unfold pageQueryOf
  rw [hparse]
  dsimp only
  rw [h]
  exact reply_handed ..

/-- R88: a PEEK that names a place. -/
theorem peek_answered {tag : Byte} {p : List Byte} {f : PlaceForm} {s : State} {st : Status} {b : ReplyBody}
    (hparse : parsePeek p = some f) (hc : CanTake 0x44 tag p s) (h : peekAnswer f (handed s) = (st, b)) :
    exec (.peek tag p) s = .next (answered 0x44 tag st b (taken s)) := by
  refine (request_of_canTake _ _ _ _ _ hc).trans (congrArg _ ?_)
  unfold peekOf
  rw [hparse]
  dsimp only
  rw [h]
  exact reply_handed ..

section Answers

variable {s : State} {seq ch slot i page : Nat} {n : Fin 4} {r : SegRec} {c : RefContents}

theorem pageAnswer_segment (hn : oneOfFour ch = some n) (hr : findSeg seq s = some r) (hset : r.set[n] = true)
    (hpage : r.pages[n][i]? = some page) : pageAnswer (.segment seq ch i) s = (.ok, .segmentPage page (pageRecord page s).state) := by
  unfold pageAnswer
  simp only [hn, hr]
  rw [hset, hpage]

theorem pageAnswer_segment_absent (hn : oneOfFour ch = some n)
    (h : ∀ r, findSeg seq s = some r → r.set[n] = false ∨ r.pages[n].length ≤ i) :
    pageAnswer (.segment seq ch i) s = (.notFound, .empty) := by
  unfold pageAnswer
  simp only [hn]
  cases hr : findSeg seq s with
  | none => rfl
  | some r =>
    dsimp only
    rcases h r hr with hset | hlen
    · rw [hset]
    · rw [List.getElem?_eq_none hlen]
      cases r.set[n] <;> rfl

theorem pageAnswer_reference (hn : oneOfFour slot = some n) (hc : s.mem.refs[n].contents = some c)
    (hpage : s.mem.refs[n].pages[i]? = some page) :
    pageAnswer (.reference slot i) s = (.ok, .referencePage page (pageRecord page s).state c) := by
  unfold pageAnswer
  simp only [hn]
  rw [hc, hpage]

theorem pageAnswer_reference_absent (hn : oneOfFour slot = some n)
    (h : s.mem.refs[n].contents = none ∨ s.mem.refs[n].pages.length ≤ i) : pageAnswer (.reference slot i) s = (.notFound, .empty) := by
  unfold pageAnswer
  simp only [hn]
  rcases h with hc | hlen
  · rw [hc]
  · rw [List.getElem?_eq_none hlen]
    cases s.mem.refs[n].contents <;> rfl

theorem peekAnswer_segment (hn : oneOfFour ch = some n) (hr : findSeg seq s = some r) (hst : r.state = .complete)
    (hset : r.set[n] = true) : peekAnswer (.segment seq ch i) s =
      if i < r.n then (.ok, .sample (readPosition s.mem.dram r.pages[n] (storedPosition r.p r.origin i))) else (.badArg, .empty) := by
  unfold peekAnswer
  simp only [hn, hr]
  exact if_pos ⟨hst, hset⟩

theorem peekAnswer_segment_absent (hn : oneOfFour ch = some n)
    (h : ∀ r, findSeg seq s = some r → r.state ≠ .complete ∨ r.set[n] = false) :
    peekAnswer (.segment seq ch i) s = (.notFound, .empty) := by
  unfold peekAnswer
  simp only [hn]
  cases hr : findSeg seq s with
  | none => rfl
  | some r =>
    refine if_neg fun ⟨hst, hset⟩ => ?_
    rcases h r hr with h | h
    · exact h hst
    · rw [h] at hset; cases hset

theorem peekAnswer_reference (hn : oneOfFour slot = some n) (hc : s.mem.refs[n].contents = some c) :
    peekAnswer (.reference slot i) s =
      if i < c.n then (.ok, .sample (readPosition s.mem.dram s.mem.refs[n].pages i)) else (.badArg, .empty) := by
  unfold peekAnswer
  simp only [hn]
  rw [hc]

theorem peekAnswer_reference_absent (hn : oneOfFour slot = some n) (hc : s.mem.refs[n].contents = none) :
    peekAnswer (.reference slot i) s = (.notFound, .empty) := by
  unfold peekAnswer
  simp only [hn]
  rw [hc]

/-- R87, R88: a channel or a slot out of range. -/
theorem placeAnswer_out (h : ¬ (1 ≤ ch ∧ ch ≤ 4)) : pageAnswer (.segment seq ch i) s = (.badArg, .empty) ∧
    pageAnswer (.reference ch i) s = (.badArg, .empty) ∧ peekAnswer (.segment seq ch i) s = (.badArg, .empty) ∧
    peekAnswer (.reference ch i) s = (.badArg, .empty) := by
  have out := oneOfFour_of_out h
  refine ⟨?_, ?_, ?_, ?_⟩
  all_goals simp only [pageAnswer, peekAnswer, out]

end Answers

/-! ### The statement -/

theorem pageQuery_physical (tag : Byte) {page : Nat} {s : State} (hpage : page < 65536) (hc : CanTake 0x43 tag (2 :: beBytes 2 page) s) :
    exec (.pageQuery tag (2 :: beBytes 2 page)) s = .next
      (if page < 2048 then answered 0x43 tag .ok (.physicalPage (pageRecord page s)) (taken s)
       else answered 0x43 tag .badArg .empty (taken s)) := by
  obtain ⟨a, b, hbytes, hval⟩ := beBytes_two hpage
  have parsed : parsePageQuery (2 :: beBytes 2 page) = some (.physical page) := by rw [hbytes, ← hval]; rfl
  by_cases h : page < 2048
  · rw [if_pos h]
    exact pageQuery_answered parsed hc (if_pos h)
  · rw [if_neg h]
    exact pageQuery_answered parsed hc (if_neg h)

/-- Settles O13: each query's answer, read off the state handed on. -/
theorem queriesAnswerAndChangeNothing : Obligations.QueriesAnswerAndChangeNothing := by
  refine ⟨fun tag k start s hstart => ?_, fun tag page s hpage hc => pageQuery_physical tag hpage hc,
    fun tag ch i seq s hseq => ?_, fun tag slot i s hc => ?_, fun tag ch seq i s hseq hi => ?_, fun tag slot i s hi => ?_,
    fun tag s hc => ?_, fun tag s hc => ?_⟩
  · intro payload hc
    have listed := segmentListOf_listed tag k hstart (handed s)
    refine ⟨fun hk => ?_, fun before rest h1 h24 htable hstarts => ?_⟩
    · refine (request_of_canTake _ _ _ _ _ hc).trans (congrArg _ (listed.trans ?_))
      rw [if_neg hk, reply_handed]
    · have tail : listFrom start (handed s).mem.table = rest := by
        show listFrom start s.mem.table = rest
        rw [htable] at hstarts ⊢
        exact listFrom_split hstarts
      refine (request_of_canTake _ _ _ _ _ hc).trans (congrArg _ (listed.trans ?_))
      rw [if_pos ⟨h1, h24⟩, tail, reply_handed]
  · intro payload hc
    have parsed : parsePageQuery payload = some (.segment seq ch.toNat i.toNat) := by
      obtain ⟨a, b, c, d, hbytes, hval⟩ := beBytes_four hseq
      show parsePageQuery (0 :: (beBytes 4 seq ++ [ch, i])) = _
      rw [hbytes, ← hval]; rfl
    refine ⟨fun hch => pageQuery_answered parsed hc (placeAnswer_out hch).1, fun n hn => ?_⟩
    have hn := oneOfFour_of_eq hn
    exact ⟨fun r page hr hset hpage => pageQuery_answered parsed hc (pageAnswer_segment hn hr hset hpage),
      fun h => pageQuery_answered parsed hc (pageAnswer_segment_absent hn h)⟩
  · have parsed : parsePageQuery [1, slot, i] = some (.reference slot.toNat i.toNat) := rfl
    refine ⟨fun hslot => pageQuery_answered parsed hc (placeAnswer_out (seq := 0) hslot).2.1, fun n hn => ?_⟩
    have hn := oneOfFour_of_eq hn
    exact ⟨fun c page hcont hpage => pageQuery_answered parsed hc (pageAnswer_reference hn hcont hpage),
      fun h => pageQuery_answered parsed hc (pageAnswer_reference_absent hn h)⟩
  · intro payload hc
    have parsed : parsePeek payload = some (.segment seq ch.toNat i) := by
      obtain ⟨a, b, c, d, hbytes, hval⟩ := beBytes_four hseq
      obtain ⟨j, k, l, m, hbytes', hval'⟩ := beBytes_four hi
      show parsePeek (0 :: (beBytes 4 seq ++ [ch] ++ beBytes 4 i)) = _
      rw [hbytes, hbytes', ← hval, ← hval']; rfl
    refine ⟨fun hch => peek_answered parsed hc (placeAnswer_out hch).2.2.1, fun n hn => ?_⟩
    have hn := oneOfFour_of_eq hn
    refine ⟨fun r hr hst hset => ?_, fun h => peek_answered parsed hc (peekAnswer_segment_absent hn h)⟩
    have answer := peekAnswer_segment (s := handed s) (i := i) hn hr hst hset
    by_cases hlt : i < r.n
    · rw [if_pos hlt]; exact peek_answered parsed hc (answer.trans (if_pos hlt))
    · rw [if_neg hlt]; exact peek_answered parsed hc (answer.trans (if_neg hlt))
  · intro payload hc
    have parsed : parsePeek payload = some (.reference slot.toNat i) := by
      obtain ⟨j, k, l, m, hbytes, hval⟩ := beBytes_four hi
      show parsePeek ([1, slot] ++ beBytes 4 i) = _
      rw [hbytes, ← hval]; rfl
    refine ⟨fun hslot => peek_answered parsed hc (placeAnswer_out (seq := 0) hslot).2.2.2, fun n hn => ?_⟩
    have hn := oneOfFour_of_eq hn
    refine ⟨fun c hcont => ?_, fun h => peek_answered parsed hc (peekAnswer_reference_absent hn h)⟩
    have answer := peekAnswer_reference (s := handed s) (i := i) hn hcont
    by_cases hlt : i < c.n
    · rw [if_pos hlt]; exact peek_answered parsed hc (answer.trans (if_pos hlt))
    · rw [if_neg hlt]; exact peek_answered parsed hc (answer.trans (if_neg hlt))
  · exact (request_of_canTake _ _ _ _ _ hc).trans (congrArg _ (reply_handed ..))
  · exact (request_of_canTake _ _ _ _ _ hc).trans (congrArg _ (reply_handed ..))

end Sys2Proof.Machine
end

section
/-! PROOF. RUN and SINGLE: what a run start leaves of the table, and what the arming that ends it makes of ACQ. -/

namespace Sys2Proof.Machine

/-! ### The arming -/

/-- R98, R102: ACQ after an arming: in SETTLING exactly while the settle timer runs; the run's bookkeeping stands. -/
structure ArmedFrom (s t : State) : Prop where
  acq : ∃ f c, t.acq = { s.acq with state := t.acq.state, forcePending := f, ctx := c }
  running : acqRunning t.acq.state = true
  settling : t.acq.state = .settling ↔ s.fec.settle.isSome = true
  holdoff : s.trg.holdoff = none → t.trg.holdoff = none

theorem leavePhase_holdoff {s : State} (h : s.trg.holdoff = none) : (leavePhase s).trg.holdoff = none := by
  unfold leavePhase
  split
  · rw [takeSettings_trg]
    show holdoffAfterTaking _ _ _ s.trg.holdoff = none
    rw [h]
    unfold holdoffAfterTaking
    split <;> rfl
  · exact h

theorem enterReady_holdoff {s : State} (h : s.trg.holdoff = none) : (enterReady s).trg.holdoff = none := by
  have left : (readyTrg s).holdoff = none := leavePhase_holdoff (s := setAcq .ready s) h
  rw [enterReady_eq]
  split
  · exact left
  · exact left

theorem enterPreFill_armedFrom (q : CaptureRequest) (seq : Nat) {s : State} (hset : s.fec.settle = none) :
    ArmedFrom s (enterPreFill q seq s) := by
  have filling : ¬ s.fec.settle.isSome = true := by rw [hset]; exact Bool.false_ne_true
  unfold enterPreFill
  dsimp only
  split
  · refine ⟨?_, ?_, ?_, fun h => enterReady_holdoff (by exact h)⟩
    · rw [enterReady_acq]; exact ⟨_, _, rfl⟩
    · rw [enterReady_acq]; cases h : s.acq.forcePending <;> simp [acqRunning]
    · rw [enterReady_acq]; cases h : s.acq.forcePending <;> simp [filling]
  · exact ⟨⟨_, _, rfl⟩, rfl, by simp [filling], id⟩

/-- It is read off ACQ, FEC and TRG. -/
theorem ArmedFrom.of_parts {s s' t : State} (h : ArmedFrom s' t) (acq : s'.acq = s.acq) (fec : s'.fec = s.fec) (trg : s'.trg = s.trg) :
    ArmedFrom s t :=
  ⟨by rw [← acq]; exact h.acq, h.running, by rw [← fec]; exact h.settling, by rw [← trg]; exact h.holdoff⟩

theorem starve_armedFrom (q : CaptureRequest) (d : CauseDetail) {s : State} (hset : s.fec.settle = none) :
    ArmedFrom s (latchCondition .starved d (setAcq .starved { s with mem := { s.mem with pendingAlloc := some q } })) := by
  rw [latchCondition_only]
  exact ⟨⟨_, _, rfl⟩, rfl, by simp [hset], id⟩

theorem arm_armedFrom (s : State) : ArmedFrom s (arm s) := by
  unfold arm
  split
  · rename_i hset
    exact ⟨⟨_, _, rfl⟩, rfl, by simp [hset], id⟩
  · rename_i hset
    have hset : s.fec.settle = none := by simpa using hset
    have only := allocate_only (captureRequest s) s
    have acq : (allocate (captureRequest s) s).1.acq = s.acq := by rw [only]
    have fec : (allocate (captureRequest s) s).1.fec = s.fec := by rw [only]
    have trg : (allocate (captureRequest s) s).1.trg = s.trg := by rw [only]
    unfold requestAllocation
    dsimp only
    generalize allocate (captureRequest s) s = a at acq fec trg ⊢
    obtain ⟨s1, got⟩ := a
    have hset1 : s1.fec.settle = none := (congrArg Fec.settle fec).trans hset
    cases got with
    | some seq => exact (enterPreFill_armedFrom _ seq hset1).of_parts acq fec trg
    | none => exact (starve_armedFrom _ _ hset1).of_parts acq fec trg

theorem reclaim_sublist (fuel k : Nat) (s : State) : (reclaim fuel k s).mem.table.Sublist s.mem.table := by
  induction fuel generalizing s with
  | zero => exact .refl _
  | succ f ih =>
    unfold reclaim
    split
    · split
      · exact .refl _
      · rename_i r _
        refine (ih _).trans ?_
        unfold dropSegment
        split
        · exact .refl _
        · exact List.eraseP_sublist
    · exact .refl _

/-- R72: an allocation makes no COMPLETE record. -/
theorem allocate_complete {q : CaptureRequest} {s : State} {r : SegRec} (h : r ∈ (allocate q s).1.mem.table)
    (hr : r.state = .complete) : r ∈ s.mem.table := by
  have sub := reclaim_sublist s.mem.table.length (pagesForRequest q) s
  unfold allocate at h
  dsimp only at h
  split at h
  · exact sub.mem h
  · rcases List.mem_append.1 h with h | h
    · exact sub.mem h
    · obtain rfl := List.mem_singleton.1 h
      cases hr

theorem arm_complete {s : State} {r : SegRec} (h : r ∈ (arm s).mem.table) (hr : r.state = .complete) : r ∈ s.mem.table := by
  have allocated := fun h => allocate_complete (q := captureRequest s) (s := s) (r := r) h hr
  unfold arm at h
  split at h
  · exact h
  · unfold requestAllocation at h
    dsimp only at h
    generalize allocate (captureRequest s) s = a at allocated h
    obtain ⟨s1, got⟩ := a
    cases got with
    | some seq => rw [(enterPreFill_opens _ seq s1).2.1] at h; exact allocated h
    | none =>
      dsimp only at h
      rw [latchCondition_only] at h
      exact allocated h

/-! ### The run restart -/

/-- R76 to R78: from `s` to `t` records have gone, or changed but for their seqs, and none has become COMPLETE; the
pages released have joined the tail of the pool, and no allocation is pending. -/
structure Thins (s t : State) : Prop where
  acq : t.acq = s.acq
  settle : t.fec.settle = s.fec.settle
  pending : t.mem.pendingAlloc = none
  pool : s.mem.pool <+: t.mem.pool
  seqs : (t.mem.table.map (·.seq)).Sublist (s.mem.table.map (·.seq))
  complete : ∀ r ∈ t.mem.table, r.state = .complete → ∃ x ∈ s.mem.table, x.seq = r.seq ∧ x.state = .complete

namespace Thins

theorem refl {s : State} (h : s.mem.pendingAlloc = none) : Thins s s :=
  ⟨rfl, rfl, h, List.prefix_refl _, .refl _, fun r hr hc => ⟨r, hr, rfl, hc⟩⟩

theorem trans {s t u : State} (h : Thins s t) (k : Thins t u) : Thins s u where
  acq := k.acq.trans h.acq
  settle := k.settle.trans h.settle
  pending := k.pending
  pool := h.pool.trans k.pool
  seqs := k.seqs.trans h.seqs
  complete r hr hc := by
    obtain ⟨x, hx, hseq, hxc⟩ := k.complete r hr hc
    obtain ⟨y, hy, hseq', hyc⟩ := h.complete x hx hxc
    exact ⟨y, hy, hseq'.trans hseq, hyc⟩

/-- A change of other parts. -/
theorem of_parts {s t : State} (h : s.mem.pendingAlloc = none) (hmem : t.mem = s.mem) (hacq : t.acq = s.acq)
    (hfec : t.fec = s.fec) : Thins s t := by
  refine ⟨hacq, by rw [hfec], by rw [hmem, h], by rw [hmem], by rw [hmem], fun r hr hc => ⟨r, by rw [← hmem]; exact hr, rfl, hc⟩⟩

theorem modSeg {s : State} (h : s.mem.pendingAlloc = none) (seq : Nat) {f : SegRec → SegRec} (hseq : ∀ r, (f r).seq = r.seq)
    (hstate : ∀ r, (f r).state = .complete → r.state = .complete) : Thins s (modSeg seq f s) := by
  have seqs : (Machine.modSeg seq f s).mem.table.map (·.seq) = s.mem.table.map (·.seq) := by
    rw [modSeg_mem, List.map_map]
    refine List.map_congr_left fun y _ => ?_
    show (if y.seq == seq then f y else y).seq = y.seq
    split
    · exact hseq y
    · rfl
  refine ⟨rfl, rfl, h, List.prefix_refl _, by rw [seqs], fun r hr hc => ?_⟩
  obtain ⟨x, hx, rfl⟩ := List.mem_map.1 hr
  refine ⟨x, hx, ?_⟩
  split at hc
  · exact ⟨by rw [if_pos ‹_›, hseq], hstate x hc⟩
  · exact ⟨by rw [if_neg ‹_›], hc⟩

theorem removeSegment {s : State} (h : s.mem.pendingAlloc = none) (seq : Nat) : Thins s (removeSegment seq s) := by
  have table : (dropSegment seq s).mem.table.Sublist s.mem.table := by
    unfold dropSegment
    split
    · exact .refl _
    · exact List.eraseP_sublist
  have pool : s.mem.pool <+: (dropSegment seq s).mem.pool := by
    unfold dropSegment
    split
    · exact List.prefix_refl _
    · exact List.prefix_append _ _
  unfold Machine.removeSegment
  rw [retryPending_of_none (by rw [dropSegment_pendingAlloc]; exact h)]
  refine ⟨by rw [dropSegment_only], by rw [dropSegment_only], by rw [dropSegment_pendingAlloc]; exact h, pool, table.map _,
    fun r hr hc => ⟨r, table.mem hr, rfl, hc⟩⟩

theorem releaseSegPin {s : State} (h : s.mem.pendingAlloc = none) (k : Holder) (seq : Nat) : Thins s (releaseSegPin k seq s) := by
  have unpins := Thins.modSeg h seq (f := fun x => { x with pins := setPin k false x.pins }) (fun _ => rfl) (fun _ => id)
  unfold Machine.releaseSegPin
  split
  · exact .refl h
  · split
    · dsimp only
      split
      · exact unpins.trans (.removeSegment unpins.pending seq)
      · rw [retryPending_of_none unpins.pending]; exact unpins
    · exact .refl h

theorem foldl {α : Type} {f : State → α → State} (hf : ∀ t x, t.mem.pendingAlloc = none → Thins t (f t x)) (xs : List α) {s : State}
    (h : s.mem.pendingAlloc = none) : Thins s (xs.foldl f s) := by
  induction xs generalizing s with
  | nil => exact .refl h
  | cons x rest ih => exact (hf s x h).trans (ih (hf s x h).pending)

theorem emptyQueue {s : State} (h : s.mem.pendingAlloc = none) (keep : Option Nat) : Thins s (emptyQueue keep s) :=
  (Thins.of_parts (t := { s with rnd := { s.rnd with queue := [] } }) h rfl rfl rfl).trans
    (.foldl (fun _ q ht => .releaseSegPin ht .render q) _ h)

end Thins

/-- R77: a restarted record is not COMPLETE. -/
theorem restartSegment_thins {s : State} (hnone : s.mem.pendingAlloc = none) (hn : (s.mem.table.map (·.seq)).Nodup) (q : Nat) :
    Thins s (restartSegment q s) ∧ ∀ r ∈ (restartSegment q s).mem.table, r.state = .complete → r.seq ≠ q := by
  have stales : Thins s (modSeg q (fun x => { x with state := .stale }) s) := .modSeg hnone q (fun _ => rfl) (fun _ h => nomatch h)
  have staled : ∀ r ∈ (modSeg q (fun x => { x with state := .stale }) s).mem.table, r.state = .complete → r.seq ≠ q := by
    intro r hr hc
    obtain ⟨x, _, rfl⟩ := List.mem_map.1 hr
    by_cases hx : x.seq = q
    · simp [hx] at hc
    · simp [hx]
  unfold restartSegment
  split
  · rename_i hfind
    exact ⟨.refl hnone, fun r hr _ hq => List.find?_eq_none.1 hfind r hr (by simp [hq])⟩
  · rename_i x hfind
    obtain ⟨hmem, rfl⟩ := findSeg_mem hfind
    split
    · rename_i hx
      refine ⟨.refl hnone, fun r hr hc hq => hx ?_⟩
      rwa [← eq_of_seq hn hr hmem hq]
    · split
      · refine ⟨.removeSegment hnone x.seq, fun r hr _ => ?_⟩
        unfold removeSegment at hr
        rw [retryPending_of_none (by rw [dropSegment_pendingAlloc]; exact hnone)] at hr
        exact ((mem_dropSegment hn).1 hr).2
      · dsimp only
        split
        · have unviews : Thins (modSeg x.seq (fun x => { x with state := .stale }) s)
              { modSeg x.seq (fun x => { x with state := .stale }) s with rnd := { s.rnd with viewPin := none } } :=
            .of_parts stales.pending rfl rfl rfl
          have releases := unviews.trans (.releaseSegPin unviews.pending .view x.seq)
          have reports := releases.trans (u := viewLost .stale x.seq _) (.of_parts releases.pending
            (by unfold viewLost; dsimp only; rw [offer_only]) (by unfold viewLost; dsimp only; rw [offer_only])
            (by unfold viewLost; dsimp only; rw [offer_only]))
          refine ⟨stales.trans reports, fun r hr hc => ?_⟩
          obtain ⟨y, hy, hseq, hyc⟩ := reports.complete r hr hc
          exact hseq ▸ staled y hy hyc
        · exact ⟨stales, staled⟩

/-- R77: after a run restart no record is COMPLETE. -/
theorem runRestart_thins {s : State} (hnone : s.mem.pendingAlloc = none) (hn : (s.mem.table.map (·.seq)).Nodup) :
    Thins s (runRestart s) ∧ ∀ r ∈ (runRestart s).mem.table, r.state ≠ .complete := by
  have all : ∀ (qs : List Nat) (t : State), t.mem.pendingAlloc = none → (t.mem.table.map (·.seq)).Nodup →
      Thins t (qs.foldl (fun s q => restartSegment q s) t) ∧
      ∀ r ∈ (qs.foldl (fun s q => restartSegment q s) t).mem.table, r.state = .complete → r.seq ∉ qs := by
    intro qs
    induction qs with
    | nil => exact fun t ht _ => ⟨.refl ht, fun _ _ _ => List.not_mem_nil⟩
    | cons q rest ih =>
      intro t ht htn
      obtain ⟨thins, gone⟩ := restartSegment_thins ht htn q
      obtain ⟨thins', gone'⟩ := ih _ thins.pending (thins.seqs.nodup htn)
      refine ⟨thins.trans thins', fun r hr hc hq => ?_⟩
      rcases List.mem_cons.1 hq with hq | hq
      · obtain ⟨x, hx, hseq, hxc⟩ := thins'.complete r hr hc
        exact gone x hx hxc (hseq.trans hq)
      · exact gone' r hr hc hq
  obtain ⟨thins, gone⟩ := all (s.mem.table.map (·.seq)) s hnone hn
  refine ⟨thins, fun r hr hc => gone r hr hc ?_⟩
  obtain ⟨x, hx, hseq, _⟩ := thins.complete r hr hc
  exact hseq ▸ List.mem_map_of_mem hx

theorem runRestart_queue (s : State) : (runRestart s).rnd.queue = s.rnd.queue := by
  have all : ∀ (qs : List Nat) (t : State), (qs.foldl (fun s q => restartSegment q s) t).rnd.queue = t.rnd.queue := by
    intro qs
    induction qs with
    | nil => exact fun _ => rfl
    | cons q rest ih => exact fun t => (ih _).trans (restartSegment_tidy q t).2
  exact all _ s

/-! ### The run start -/

/-- R92: the holdoff counter is IDLE. -/
def unheld (s : State) : State := { s with trg := { s.trg with holdoff := none } }


/-- R92: a run start. -/
theorem runStarts_spec (single : Bool) {s : State} (hnone : s.mem.pendingAlloc = none) (hn : (s.mem.table.map (·.seq)).Nodup) :
    (runStarts single s).acq.runCount = 0 ∧ (runStarts single s).acq.lastSeq = 0 ∧ (runStarts single s).acq.singlePending = single ∧
    (runStarts single s).acq.runStart = some s.now ∧ acqRunning (runStarts single s).acq.state = true ∧
    ((runStarts single s).acq.state = .settling ↔ s.fec.settle.isSome = true) ∧ (runStarts single s).trg.holdoff = none ∧
    (runStarts single s).rnd.queue = [] ∧ ∀ r ∈ (runStarts single s).mem.table, r.state ≠ .complete := by
  have emptied := Thins.emptyQueue (s := runBegun single s) hnone none
  obtain ⟨restarted, gone⟩ := runRestart_thins emptied.pending (emptied.seqs.nodup hn)
  have queue : (runRestart (emptyQueue none (runBegun single s))).rnd.queue = [] :=
    (runRestart_queue _).trans (congrArg Rnd.queue (emptyQueue_released none (runBegun single s)).rnd)
  have kept := emptied.trans restarted
  have ends : runStarts single s = reportAcq .stopped .request (arm (unheld (runRestart (emptyQueue none (runBegun single s))))) := rfl
  rw [ends]
  generalize runRestart (emptyQueue none (runBegun single s)) = r at kept queue gone ⊢
  unfold reportAcq
  rw [offer_only]
  have armed := arm_armedFrom (unheld r)
  obtain ⟨f, c, hacq⟩ := armed.acq
  have acq : (unheld r).acq = (runBegun single s).acq := kept.acq
  have settle : (unheld r).fec.settle = s.fec.settle := kept.settle
  rw [acq] at hacq
  refine ⟨?_, ?_, ?_, ?_, armed.running, settle ▸ armed.settling, armed.holdoff rfl, ?_,
    fun x hx hc => gone x (arm_complete (s := unheld r) hx hc) hc⟩
  · show (arm (unheld r)).acq.runCount = 0
    rw [hacq]; rfl
  · show (arm (unheld r)).acq.lastSeq = 0
    rw [hacq]; rfl
  · show (arm (unheld r)).acq.singlePending = single
    rw [hacq]; rfl
  · show (arm (unheld r)).acq.runStart = some s.now
    rw [hacq]; rfl
  · show (arm (unheld r)).rnd.queue = []
    rw [(arm_released _).rnd]
    exact queue

/-! ### RUN and SINGLE -/

/-- R93, R94: RUN (`false`) and SINGLE (`true`). -/
def takeStart (single : Bool) : State → State × Status := if single then takeSingle else takeRun

theorem takeStart_calibrating (single : Bool) {s : State} (h : s.acq.state = .calibrating) : takeStart single s = (s, .busy) := by
  cases single
  · simp [takeStart, takeRun, h]
  · simp [takeStart, takeSingle, h]

theorem takeStart_stopped (single : Bool) {s : State} (h : s.acq.state = .stopped) :
    takeStart single s = if s.fec.locked then (runStarts single s, .ok) else (s, .badState) := by
  cases single
  · simp [takeStart, takeRun, h]
  · simp [takeStart, takeSingle, h]

theorem takeStart_running (single : Bool) {s : State} (h : acqRunning s.acq.state = true) :
    takeStart single s = ({ s with acq := { s.acq with singlePending := s.acq.singlePending || single } }, .ok) := by
  cases single
  · show takeRun s = _
    unfold takeRun
    split
    · rename_i hst; rw [hst] at h; cases h
    · rename_i hst; rw [hst] at h; cases h
    · rw [Bool.or_false]
  · show takeSingle s = _
    unfold takeSingle
    split
    · rename_i hst; rw [hst] at h; cases h
    · rename_i hst; rw [hst] at h; cases h
    · rw [Bool.or_true]

/-- Settles O28: by the state of ACQ. -/
theorem runStartsFromStopped : Obligations.RunStartsFromStopped := by
  intro single tag s code command hc
  have run : exec command s = .next (reply code tag (takeStart single (handed s)).2 .empty (takeStart single (handed s)).1) := by
    cases single
    · exact request_of_canTake _ _ _ _ _ hc
    · exact request_of_canTake _ _ _ _ _ hc
  refine ⟨fun h => ?_, fun h hlock => ?_, fun h => ?_, fun h hlock hnone hn => ?_⟩
  · rw [run, takeStart_calibrating single (s := handed s) h, reply_handed]
  · rw [run, takeStart_stopped single (s := handed s) h, if_neg (by show ¬ s.fec.locked = true; rw [hlock]; exact Bool.false_ne_true),
      reply_handed]
  · rw [run, takeStart_running single (s := handed s) h]
    exact congrArg _ (reply_of_handed rfl)
  · rw [run, takeStart_stopped single (s := handed s) h, if_pos (show (handed s).fec.locked = true from hlock)]
    obtain ⟨count, last, pending, start, running, settling, holdoff, queue, gone⟩ := runStarts_spec single (s := handed s) hnone hn
    exact ⟨_, rfl, count, last, pending, start, running, settling, holdoff, queue, gone, by simp⟩

end Sys2Proof.Machine
end

section
/-! PROOF. What the start of a REDRAW, and the swap of a reference slot, make of MEM and RND. -/

namespace Sys2Proof.Machine

/-! ### The redraw -/

/-- R119, R121: with a pass running, redraw pending is all that is set. -/
theorem setRedraw_of_pass {s : State} (h : s.rnd.pass.isSome = true) : setRedraw s = { s with rnd := { s.rnd with redraw := true } } := by
  unfold setRedraw selectPass
  exact if_pos h

/-- R119, R121: with none running, a REDRAW starts at once. -/
theorem setRedraw_of_idle {s : State} (h : s.rnd.pass = none) :
    setRedraw s = startRedraw { s with rnd := { s.rnd with redraw := true } } := by
  unfold setRedraw selectPass
  rw [if_neg (by show ¬ s.rnd.pass.isSome = true; rw [h]; exact Bool.false_ne_true)]
  exact if_pos rfl

/-- R122: the start of a REDRAW: its pass, the slots pinned for it, and what stands. -/
structure Redraws (s t : State) : Prop where
  pass : t.rnd.pass = some (redrawPass s)
  redraw : t.rnd.redraw = false
  dram : t.mem.dram = s.mem.dram
  setup : t.setup = s.setup
  slots : ∀ m : Fin 4, t.mem.refs[m] = renderPinned (refVisible s.setup m) s.mem.refs[m]

theorem startRedraw_redraws (s : State) : Redraws s (startRedraw s) := by
  obtain ⟨u, released, only, slots, _⟩ := redrawPinned_spec s
  rw [startRedraw_eq]
  generalize redrawPinned s = w at only slots ⊢
  refine ⟨rfl, ?_, ?_, ?_, slots⟩
  · show w.rnd.redraw = false
    rw [only]
    exact congrArg Rnd.redraw released.rnd
  · show w.mem.dram = _
    rw [only]
    exact released.dram
  · show w.setup = _
    rw [only]
    exact released.setup

/-- R84: a slot without contents is not drawn. -/
theorem redrawPass_refs_of_empty {n : Fin 4} {s : State} (h : s.mem.refs[n].contents = none) : (redrawPass s).refs[n] = none := by
  obtain ⟨_, _, _, slots, _⟩ := redrawPinned_spec s
  have contents : (redrawPinned s).mem.refs[n].contents = none := by rw [slots, renderPinned_contents, h]
  have data : refData n (redrawPinned s) = none := by
    unfold refData
    split
    · rw [contents]; rfl
    · rfl
  show (Vector.ofFn (fun n => refData n (redrawPinned s)))[n.val] = none
  rw [Vector.getElem_ofFn]
  exact data

namespace Thins

theorem pinViewed {s : State} (h : s.mem.pendingAlloc = none) : Thins s (pinViewed s).1 := by
  unfold Machine.pinViewed
  split
  · exact .refl h
  · split
    · unfold pinSegment
      split
      · exact .refl h
      · split
        · exact .modSeg h _ (fun _ => rfl) (fun _ => id)
        · exact .refl h
    · exact .refl h

theorem pinVisibleRefs {s : State} (h : s.mem.pendingAlloc = none) : Thins s (pinVisibleRefs s) := by
  have only := (pinVisibleRefs_spec s).1
  generalize Machine.pinVisibleRefs s = t at only ⊢
  rw [only]
  exact ⟨rfl, rfl, h, List.prefix_refl _, .refl _, fun r hr hc => ⟨r, hr, rfl, hc⟩⟩

theorem withRnd {s : State} (h : s.mem.pendingAlloc = none) (r : Rnd) : Thins s { s with rnd := r } := .of_parts h rfl rfl rfl

theorem startRedraw {s : State} (h : s.mem.pendingAlloc = none) : Thins s (startRedraw s) := by
  have viewed := (Thins.withRnd h { s.rnd with redraw := false }).trans (.pinViewed h)
  have emptied := viewed.trans (.emptyQueue viewed.pending (Machine.pinViewed { s with rnd := { s.rnd with redraw := false } }).2)
  have pinned : Thins s (redrawPinned s) := emptied.trans (.pinVisibleRefs emptied.pending)
  rw [startRedraw_eq]
  exact pinned.trans (.withRnd pinned.pending _)

theorem setRedraw {s : State} (h : s.mem.pendingAlloc = none) : Thins s (setRedraw s) := by
  have sets := Thins.withRnd h { s.rnd with redraw := true }
  cases hp : s.rnd.pass with
  | some p => rw [setRedraw_of_pass (by rw [hp]; rfl)]; exact sets
  | none => rw [setRedraw_of_idle hp]; exact sets.trans (.startRedraw h)

end Thins

/-- R119: redraw pending, whether it waits or a pass takes it up: what stands, and the slots but for a RENDER pin. -/
structure RedrawOwed (s t : State) : Prop where
  pass : t.rnd.pass.isSome = true
  waits : s.rnd.pass.isSome = true → t.rnd.redraw = true
  dram : t.mem.dram = s.mem.dram
  slots : ∀ m : Fin 4, ∃ v, t.mem.refs[m] = renderPinned v s.mem.refs[m]

theorem setRedraw_owed (s : State) : RedrawOwed s (setRedraw s) := by
  cases hp : s.rnd.pass with
  | some p =>
    rw [setRedraw_of_pass (by rw [hp]; rfl)]
    exact ⟨by show s.rnd.pass.isSome = true; rw [hp]; rfl, fun _ => rfl, rfl, fun _ => ⟨false, rfl⟩⟩
  | none =>
    have idle : ¬ s.rnd.pass.isSome = true := by rw [hp]; exact Bool.false_ne_true
    have redraws := startRedraw_redraws { s with rnd := { s.rnd with redraw := true } }
    rw [setRedraw_of_idle hp]
    generalize startRedraw { s with rnd := { s.rnd with redraw := true } } = t at redraws ⊢
    obtain ⟨pass, _, dram, _, slots⟩ := redraws
    exact ⟨by rw [pass]; rfl, fun h => absurd h idle, dram, fun m => ⟨_, slots m⟩⟩

/-! ### The swap -/

/-- R83: the slot has given its old list up for the copy. -/
def swapped (n : Fin 4) (c : RefCopy) (s : State) : State :=
  if s.mem.refs[n].pages = [] then modRef n (swappedSlot c) s
  else releasePages s.mem.refs[n].pages (modRef n (swappedSlot c) s)

theorem swapRef_eq {n : Fin 4} {c : RefCopy} {s : State} (hc : s.mem.refs[n].copy = some c) :
    swapRef n s = offer (.refDone n false c.contents.seq c.contents.channel) (setRedraw (swapped n c s)) := by
  unfold swapRef
  rw [hc]
  rfl

theorem swapped_self (n : Fin 4) (c : RefCopy) (s : State) : (swapped n c s).mem.refs[n] = swappedSlot c s.mem.refs[n] := by
  unfold swapped
  split
  · exact modRef_self n _ s
  · exact (congrArg (fun v : Vector RefSlot 4 => v[n]) (retryPending_released _).refs).trans (modRef_self n _ s)

theorem swapped_dram (n : Fin 4) (c : RefCopy) (s : State) : (swapped n c s).mem.dram = s.mem.dram := by
  unfold swapped
  split
  · rfl
  · exact (retryPending_released _).dram

theorem swapped_rnd (n : Fin 4) (c : RefCopy) (s : State) : (swapped n c s).rnd = s.rnd := by
  unfold swapped
  split
  · rfl
  · exact (retryPending_released _).rnd

theorem swapped_linkParts (n : Fin 4) (c : RefCopy) (s : State) : linkParts (swapped n c s) = linkParts s := by
  unfold swapped
  split
  · rfl
  · exact releasePages_linkParts _ _

/-- R67: without a pending allocation the old list joins the pool. -/
theorem swapped_pool {n : Fin 4} {c : RefCopy} {s : State} (hnone : s.mem.pendingAlloc = none) :
    (swapped n c s).mem.pool = s.mem.pool ++ sortAsc s.mem.refs[n].pages ∧ (swapped n c s).mem.pendingAlloc = none := by
  unfold swapped
  split
  · rename_i hpages
    rw [hpages]
    exact ⟨by simp [sortAsc], hnone⟩
  · unfold releasePages
    rw [retryPending_of_none (by exact hnone)]
    exact ⟨rfl, hnone⟩

/-- R83: the slot, and what else a swap makes and leaves. -/
structure Swaps (n : Fin 4) (c : RefCopy) (s t : State) : Prop where
  state : t.mem.refs[n].state = .valid
  contents : t.mem.refs[n].contents = some c.contents
  pages : t.mem.refs[n].pages = c.pages
  copy : t.mem.refs[n].copy = none
  pinTransfer : t.mem.refs[n].pinTransfer = s.mem.refs[n].pinTransfer
  dram : t.mem.dram = s.mem.dram
  pass : t.rnd.pass.isSome = true
  waits : s.rnd.pass.isSome = true → t.rnd.redraw = true
  xfr : t.xfr = s.xfr
  outbound : 1 ≤ freeCount s → t.lnk.outbound = s.lnk.outbound ++ [.report (.refDone n false c.contents.seq c.contents.channel)]
  pool : s.mem.pendingAlloc = none → s.mem.pool ++ sortAsc s.mem.refs[n].pages <+: t.mem.pool

theorem swapRef_swaps {n : Fin 4} {c : RefCopy} {s : State} (hc : s.mem.refs[n].copy = some c) : Swaps n c s (swapRef n s) := by
  obtain ⟨pass, waits, dram, slots⟩ := setRedraw_owed (swapped n c s)
  obtain ⟨v, slot⟩ := slots n
  rw [swapped_self] at slot
  rw [swapped_rnd] at waits
  have parts := (setRedraw_linkParts (swapped n c s)).trans (swapped_linkParts n c s)
  have room := offer_of_room (alwaysNew_refDone n false c.contents.seq c.contents.channel) (s := setRedraw (swapped n c s))
  have grows := fun h : s.mem.pendingAlloc = none => Thins.setRedraw (swapped_pool (n := n) (c := c) h).2
  simp only [linkParts, Prod.mk.injEq] at parts
  obtain ⟨xfr, lnk⟩ := parts
  rw [swapRef_eq hc]
  refine ⟨?_, ?_, ?_, ?_, ?_, ?_, ?_, fun h => ?_, ?_, fun h => ?_, fun h => ?_⟩
  case refine_10 =>
    rw [room (by unfold freeCount; rw [lnk]; exact h)]
    show (setRedraw (swapped n c s)).lnk.outbound ++ _ = _
    rw [lnk]
  all_goals rw [offer_only]
  · show (setRedraw (swapped n c s)).mem.refs[n].state = _
    rw [slot, renderPinned_state]; rfl
  · show (setRedraw (swapped n c s)).mem.refs[n].contents = _
    rw [slot, renderPinned_contents]; rfl
  · show (setRedraw (swapped n c s)).mem.refs[n].pages = _
    rw [slot, renderPinned_pages]; rfl
  · show (setRedraw (swapped n c s)).mem.refs[n].copy = _
    rw [slot, renderPinned_copy]; rfl
  · show (setRedraw (swapped n c s)).mem.refs[n].pinTransfer = _
    rw [slot, renderPinned_pinTransfer]; rfl
  · exact dram.trans (swapped_dram n c s)
  · exact pass
  · exact waits h
  · exact xfr
  · have pool := (grows h).pool
    rw [(swapped_pool h).1] at pool
    exact pool

end Sys2Proof.Machine
end

section
/-! PROOF. COPY_END: what the copy list reads once the samples have been written, and the swap, at once or at the last pin. -/

namespace Sys2Proof.Machine

/-! ### Stored positions -/

/-- R69: the page and the offset of a stored position. -/
theorem positionAddr_eq_some {pages : List Nat} {q a : Nat} (h : positionAddr pages q = some a) :
    pages[q / 4096]? = some (a / 4096) ∧ a % 4096 = q % 4096 := by
  unfold positionAddr at h
  split at h
  · rename_i pg hpg
    obtain rfl := Option.some.inj h
    have hlt : q % 4096 < 4096 := Nat.mod_lt _ (by decide)
    show pages[q / 4096]? = some ((pg * 4096 + q % 4096) / 4096) ∧ (pg * 4096 + q % 4096) % 4096 = q % 4096
    rw [show (pg * 4096 + q % 4096) / 4096 = pg by omega]
    exact ⟨hpg, by omega⟩
  · cases h

/-- R69: no two positions of a list without repeats share an address. -/
theorem positionAddr_inj {pages : List Nat} (hn : pages.Nodup) {q q' a : Nat} (h : positionAddr pages q = some a)
    (h' : positionAddr pages q' = some a) : q = q' := by
  obtain ⟨hpage, hoff⟩ := positionAddr_eq_some h
  obtain ⟨hpage', hoff'⟩ := positionAddr_eq_some h'
  obtain ⟨hlt, hget⟩ := List.getElem?_eq_some_iff.1 hpage
  obtain ⟨hlt', hget'⟩ := List.getElem?_eq_some_iff.1 hpage'
  have same : q / 4096 = q' / 4096 := (hn.getElem_inj_iff).1 (hget.trans hget'.symm)
  omega

/-- R69: a list that is long enough has every position. -/
theorem positionAddr_of_lt {pages : List Nat} {q : Nat} (h : q < 4096 * pages.length) : ∃ a, positionAddr pages q = some a := by
  have hlt : q / 4096 < pages.length := by omega
  unfold positionAddr
  rw [show pages[q / Config.pageSize]? = some pages[q / 4096] from List.getElem?_eq_getElem hlt]
  exact ⟨_, rfl⟩

/-! ### The samples of a copy -/

section Copied

variable {dram : Store} {r : SegRec} {ch : Channel} {pages : List Nat}

theorem copySamples_succ (k : Nat) : copySamples dram r ch pages (k + 1) =
    writePosition (copySamples dram r ch pages k) pages k (segmentSample dram r ch k) := by
  unfold copySamples
  rw [List.range_succ, List.foldl_append]
  rfl

theorem wf_copySamples (hd : Store.wf dram = true) (k : Nat) : Store.wf (copySamples dram r ch pages k) = true := by
  induction k with
  | zero => exact hd
  | succ k ih => rw [copySamples_succ]; exact wf_writePosition ih _ _ _

/-- R82: outside the pages of the copy list nothing is written. -/
theorem storeRead_copySamples_other (hd : Store.wf dram = true) {a : Nat} (ha : ∀ p ∈ pages, a / 4096 ≠ p) (k : Nat) :
    storeRead (copySamples dram r ch pages k) a = storeRead dram a := by
  induction k with
  | zero => rfl
  | succ k ih =>
    have away : positionAddr pages k ≠ some a := fun h => ha _ (List.mem_of_getElem? (positionAddr_eq_some h).1) rfl
    rw [copySamples_succ, storeRead_writePosition (wf_copySamples hd k), if_neg away, ih]

/-- R82: each position of the copy list reads the logical sample of its number. -/
theorem readPosition_copySamples (hd : Store.wf dram = true) (hn : pages.Nodup) {k i : Nat} (hi : i < k)
    (hk : k ≤ 4096 * pages.length) : readPosition (copySamples dram r ch pages k) pages i = segmentSample dram r ch i := by
  obtain ⟨a, ha⟩ := positionAddr_of_lt (pages := pages) (q := i) (by omega)
  have reads : ∀ d, readPosition d pages i = storeRead d a := fun d => by unfold readPosition; rw [ha]
  rw [reads]
  induction k with
  | zero => omega
  | succ k ih =>
    rw [copySamples_succ, storeRead_writePosition (wf_copySamples hd k)]
    by_cases hik : i = k
    · rw [if_pos (hik ▸ ha), hik]
    · rw [if_neg fun h => hik (positionAddr_inj hn ha h), ih (by omega) (by omega)]

end Copied

/-! ### COPY_END -/

/-- R83: the state whose samples are written and whose COPY pin is released. -/
def copyMoved (c : RefCopy) (s : State) : State := releaseSegPin .copy c.contents.seq (copyWritten c s)

theorem copyMoved_spec {c : RefCopy} {r : SegRec} {s : State} (hr : findSeg c.contents.seq s = some r) :
    (copyMoved c s).mem.dram = copySamples s.mem.dram r c.contents.channel c.pages c.contents.n ∧
    (copyMoved c s).mem.refs = s.mem.refs ∧ linkParts (copyMoved c s) = linkParts s := by
  have written : copyWritten c s = { s with mem := { s.mem with
      dram := copySamples s.mem.dram r c.contents.channel c.pages c.contents.n } } := by
    unfold copyWritten; rw [hr]
  have released := releaseSegPin_released .copy c.contents.seq (copyWritten c s)
  have parts := releaseSegPin_linkParts .copy c.contents.seq (copyWritten c s)
  unfold copyMoved
  rw [released.dram, released.refs, parts, written]
  exact ⟨rfl, rfl, rfl⟩

theorem copyEnds_of_move {n : Fin 4} {c : RefCopy} {s : State} (hn : copyingSlot s = some n) (hc : s.mem.refs[n].copy = some c)
    (hphase : c.phase = .move) : copyEnds s =
      if ((copyMoved c s).mem.refs[n].pinRender || (copyMoved c s).mem.refs[n].pinTransfer) = true then
        modRef n (fun r => { r with copy := some { c with phase := .waitUnpin } }) (copyMoved c s)
      else swapRef n (copyMoved c s) := by
  unfold copyEnds
  rw [hn]
  dsimp only
  rw [hc]
  exact if_pos hphase

theorem copyingSlot_state {n : Fin 4} {s : State} (h : copyingSlot s = some n) : s.mem.refs[n].state = .copying := by
  simpa using List.find?_some h

/-! ### The last pin -/

/-- R85: XFR's release of the last pin of a slot whose copy waits completes the swap. -/
theorem releaseRefPin_swaps {n : Fin 4} {c : RefCopy} {s : State} (hpin : s.mem.refs[n].pinTransfer = true)
    (hrender : s.mem.refs[n].pinRender = false) (hst : s.mem.refs[n].state = .copying) (hc : s.mem.refs[n].copy = some c)
    (hphase : c.phase = .waitUnpin) : releaseRefPin true n s = swapRef n (modRef n (refUnpin true) s) := by
  have self := modRef_self n (refUnpin true) s
  have render : (refUnpin true s.mem.refs[n]).pinRender = s.mem.refs[n].pinRender := rfl
  rw [releaseRefPin_of_held (show (if true = true then s.mem.refs[n].pinTransfer else s.mem.refs[n].pinRender) = true from hpin),
    if_neg (by rw [render, hrender]; exact Bool.false_ne_true)]
  unfold refUnpinned
  rw [show (modRef n (refUnpin true) s).mem.refs[n].state = .copying by rw [self]; exact hst]
  dsimp only
  rw [show (modRef n (refUnpin true) s).mem.refs[n].copy = some c by rw [self]; exact hc]
  exact if_pos hphase

/-- Settles O34: the samples by the positions of the copy list, the swap by the slot's pins. -/
theorem copyEndFillsTheSlot : Obligations.CopyEndFillsTheSlot := by
  refine ⟨fun n c r s hup hn hc hphase hr hd hnodup hlen _ => ?_,
    fun n c x s hup hst hctx hsource habort hpin hrender hcopying hc hphase hnone => ?_⟩
  · have ends := copyEnds_of_move hn hc hphase
    obtain ⟨dram, refs, parts⟩ := copyMoved_spec (c := c) hr
    have reads : ∀ i, i < c.contents.n →
        readPosition (copyMoved c s).mem.dram c.pages i = segmentSample s.mem.dram r c.contents.channel i :=
      fun i hi => by rw [dram]; exact readPosition_copySamples hd hnodup hi hlen
    have others : ∀ a, (∀ p ∈ c.pages, a / 4096 ≠ p) → storeRead (copyMoved c s).mem.dram a = storeRead s.mem.dram a :=
      fun a ha => by rw [dram]; exact storeRead_copySamples_other hd ha _
    have hc' : (copyMoved c s).mem.refs[n].copy = some c := by rw [refs]; exact hc
    rw [refs] at ends
    refine ⟨copyEnds s, whenUp_of_up _ _ hup, ?_⟩
    rw [ends]
    by_cases hpins : s.mem.refs[n].pinRender = true ∨ s.mem.refs[n].pinTransfer = true
    · have pinned : (s.mem.refs[n].pinRender || s.mem.refs[n].pinTransfer) = true := Bool.or_eq_true_iff.2 hpins
      have self := modRef_self n (fun r => { r with copy := some { c with phase := .waitUnpin } }) (copyMoved c s)
      rw [if_pos pinned]
      refine ⟨reads, others, ?_⟩
      rw [if_pos hpins, self]
      exact ⟨_, rfl, rfl, by rw [refs]; exact copyingSlot_state hn⟩
    · have unpinned : ¬ (s.mem.refs[n].pinRender || s.mem.refs[n].pinTransfer) = true := fun h => hpins (Bool.or_eq_true_iff.1 h)
      have swaps := swapRef_swaps hc'
      simp only [linkParts, Prod.mk.injEq] at parts
      rw [if_neg unpinned]
      refine ⟨fun i hi => by rw [swaps.dram]; exact reads i hi, fun a ha => by rw [swaps.dram]; exact others a ha, ?_⟩
      rw [if_neg hpins]
      refine ⟨swaps.state, swaps.contents, swaps.pages, swaps.copy, swaps.pass, fun hfree _ => ?_⟩
      rw [swaps.outbound (by unfold freeCount; rw [parts.2]; exact hfree), parts.2]
  · have reads := chunkReadEnds_of_reading hst hctx
    rw [habort, if_pos rfl] at reads
    have ended : chunkReadEnds s = releaseRefPin true n
        { s with xfr := { s.xfr with state := .ending, chunk := none, ctx := some { x with aborted := true } } } := by
      rw [reads]
      unfold enterEnding
      rw [hsource]
      rfl
    rw [releaseRefPin_swaps (by exact hpin) (by exact hrender) (by exact hcopying) (by exact hc) hphase] at ended
    have self := modRef_self n (refUnpin true)
      { s with xfr := { s.xfr with state := .ending, chunk := none, ctx := some { x with aborted := true } } }
    refine ⟨chunkReadEnds s, whenUp_of_up _ _ hup, ?_⟩
    rw [ended]
    generalize hu : modRef n (refUnpin true)
      { s with xfr := { s.xfr with state := .ending, chunk := none, ctx := some { x with aborted := true } } } = u at self ⊢
    have self : u.mem.refs[n] = refUnpin true s.mem.refs[n] := self
    have swaps := swapRef_swaps (n := n) (c := c) (s := u) (by rw [self]; exact hc)
    have pool := swaps.pool (by rw [← hu]; exact hnone)
    rw [self] at pool
    refine ⟨by rw [swaps.xfr, ← hu]; rfl, swaps.state, swaps.contents, swaps.pages, swaps.copy, ?_, ?_, ?_, swaps.pass,
      fun h => ?_, fun h => ?_⟩
    · rw [swaps.pinTransfer, self]; rfl
    · rw [← hu] at pool ⊢; exact pool
    · rw [swaps.dram, ← hu]; rfl
    · exact swaps.waits (by rw [← hu]; exact h)
    · rw [swaps.outbound (by rw [← hu]; exact h), ← hu]; rfl

end Sys2Proof.Machine
end

section
/-! PROOF. CLEAR_REF by the state of its slot. -/

namespace Sys2Proof.Machine

theorem copyBusy_iff (s : State) : copyBusy s = true ↔ ∃ m : Fin 4, s.mem.refs[m].state = .copying := by
  unfold copyBusy copyingSlot
  rw [List.find?_isSome]
  constructor
  · rintro ⟨m, _, hm⟩; exact ⟨m, by simpa using hm⟩
  · rintro ⟨m, hm⟩; exact ⟨m, mem_channels m, by simpa using hm⟩

/-! ### The slot that is cleared -/

/-- R84: the slot emptied; its pages go at once unless a holder pins them. -/
def clearedSlot (r : RefSlot) : RefSlot :=
  { r with state := .empty, contents := none, pages := if r.pinRender = true ∨ r.pinTransfer = true then r.pages else [] }

/-- R84: the pool, with the pages released that no holder pins. -/
def clearedPool (r : RefSlot) (pool : List Nat) : List Nat :=
  if r.pinRender = true ∨ r.pinTransfer = true then pool else pool ++ sortAsc r.pages

/-- R84: what clearing a VALID slot leaves of MEM. -/
def slotCleared (n : Fin 4) (s : State) : State :=
  { s with mem := { s.mem with refs := s.mem.refs.set n (clearedSlot s.mem.refs[n]), pool := clearedPool s.mem.refs[n] s.mem.pool } }

theorem slotCleared_self (n : Fin 4) (s : State) : (slotCleared n s).mem.refs[n] = clearedSlot s.mem.refs[n] :=
  modRef_self n clearedSlot s

theorem clearRefSlot_eq {n : Fin 4} {s : State} (hnone : s.mem.pendingAlloc = none) :
    clearRefSlot n s = setRedraw (slotCleared n s) := by
  have self := modRef_self n (fun r : RefSlot => { r with state := .empty, contents := none }) s
  unfold clearRefSlot
  dsimp only
  congr 1
  rw [self]
  dsimp only
  unfold slotCleared clearedSlot clearedPool
  by_cases hpins : s.mem.refs[n].pinRender = true ∨ s.mem.refs[n].pinTransfer = true
  · rw [if_pos (Bool.or_eq_true_iff.2 hpins), if_pos hpins, if_pos hpins]
    rfl
  · rw [if_neg (fun h => hpins (Bool.or_eq_true_iff.1 h)), if_neg hpins, if_neg hpins,
      refUnpinned_of_empty (by rw [self]) (by exact hnone), self, modRef_mem]
    dsimp only
    rw [vmod_vmod]
    rfl

/-- R119, R122: with no pass running, the redraw of a cleared slot starts at once. -/
theorem clearRefSlot_of_idle {n : Fin 4} {s : State} (hnone : s.mem.pendingAlloc = none) (hpass : s.rnd.pass = none) :
    ∃ p, (clearRefSlot n s).mem.refs[n] = clearedSlot s.mem.refs[n] ∧
      clearedPool s.mem.refs[n] s.mem.pool <+: (clearRefSlot n s).mem.pool ∧ (clearRefSlot n s).mem.dram = s.mem.dram ∧
      (clearRefSlot n s).setup = s.setup ∧ (clearRefSlot n s).acq = s.acq ∧ (clearRefSlot n s).rnd.pass = some p ∧
      p.kind = .redraw ∧ (clearRefSlot n s).rnd.redraw = false ∧ p.refs[n] = none ∧ (clearRefSlot n s).lnk = s.lnk := by
  have eq := (clearRefSlot_eq (n := n) hnone).trans (setRedraw_of_idle (s := slotCleared n s) hpass)
  have self := slotCleared_self n s
  have redraws := startRedraw_redraws { slotCleared n s with rnd := { s.rnd with redraw := true } }
  have thins := Thins.startRedraw (s := { slotCleared n s with rnd := { s.rnd with redraw := true } }) hnone
  have parts := startRedraw_linkParts { slotCleared n s with rnd := { s.rnd with redraw := true } }
  have undrawn := redrawPass_refs_of_empty (n := n) (s := { slotCleared n s with rnd := { s.rnd with redraw := true } })
    (by show (slotCleared n s).mem.refs[n].contents = none; rw [self]; rfl)
  rw [eq]
  have same : { slotCleared n s with rnd := { (slotCleared n s).rnd with redraw := true } } =
    { slotCleared n s with rnd := { s.rnd with redraw := true } } := rfl
  rw [same]
  generalize startRedraw { slotCleared n s with rnd := { s.rnd with redraw := true } } = t at redraws thins parts ⊢
  obtain ⟨pass, redraw, dram, setup, slots⟩ := redraws
  refine ⟨_, ?_, thins.pool, dram, setup, thins.acq, pass, rfl, redraw, undrawn, congrArg Prod.snd parts⟩
  rw [slots n]
  show renderPinned _ (slotCleared n s).mem.refs[n] = _
  rw [self]
  simp [renderPinned, clearedSlot]

/-! ### CLEAR_REF -/

/-- R84: CLEAR_REF of a slot in a state. -/
def clearRefIn (tag : Byte) (n : Fin 4) (st : RefState) (s : State) : State :=
  match st with
  | .copying => reply 0x41 tag .badState .empty s
  | .empty => reply 0x41 tag .ok .empty s
  | .valid => reply 0x41 tag .ok .empty (clearRefSlot n s)

theorem clearRefOf_slot {n : Fin 4} {b : Byte} (hb : b.toNat = n.val + 1) (tag : Byte) {s : State} {st : RefState}
    (hst : s.mem.refs[n].state = st) : clearRefOf tag [b] s = clearRefIn tag n st s := by
  unfold clearRefOf
  dsimp only [parseByte]
  rw [oneOfFour_of_eq hb]
  dsimp only
  rw [hst]
  cases st <;> rfl

theorem clearRef_spec (tag slotByte : Byte) (s : State) (hc : CanTake 0x41 tag [slotByte] s) :
    (¬ (1 ≤ slotByte.toNat ∧ slotByte.toNat ≤ 4) →
      exec (.clearRef tag [slotByte]) s = .next (answered 0x41 tag .badArg .empty (taken s))) ∧
    ∀ n : Fin 4, slotByte.toNat = n.val + 1 →
      (s.mem.refs[n].state = .empty → exec (.clearRef tag [slotByte]) s = .next (answered 0x41 tag .ok .empty (taken s))) ∧
      (s.mem.refs[n].state = .copying → exec (.clearRef tag [slotByte]) s = .next (answered 0x41 tag .badState .empty (taken s))) ∧
      (s.mem.refs[n].state = .valid → s.mem.pendingAlloc = none →
        (s.rnd.pass.isSome = true → exec (.clearRef tag [slotByte]) s = .next (answered 0x41 tag .ok .empty { taken s with
          mem := { s.mem with refs := s.mem.refs.set n (clearedSlot s.mem.refs[n]), pool := clearedPool s.mem.refs[n] s.mem.pool }
          rnd := { s.rnd with redraw := true } })) ∧
        (s.rnd.pass = none → ∃ t p, exec (.clearRef tag [slotByte]) s = .next (answered 0x41 tag .ok .empty t) ∧
          t.mem.refs[n] = clearedSlot s.mem.refs[n] ∧ clearedPool s.mem.refs[n] s.mem.pool <+: t.mem.pool ∧
          t.mem.dram = s.mem.dram ∧ t.setup = s.setup ∧ t.acq = s.acq ∧
          t.rnd.pass = some p ∧ p.kind = .redraw ∧ t.rnd.redraw = false ∧ p.refs[n] = none)) := by
  have run : ∀ {t : State}, clearRefOf tag [slotByte] (handed s) = t → exec (.clearRef tag [slotByte]) s = .next t := fun h =>
    (request_of_canTake _ _ _ _ _ hc).trans (congrArg _ h)
  refine ⟨fun hout => run ?_, fun n hn => ⟨fun hst => run ?_, fun hst => run ?_, fun hst hnone => ?_⟩⟩
  · unfold clearRefOf
    dsimp only [parseByte]
    rw [oneOfFour_of_out hout]
    exact reply_handed ..
  all_goals have slot := clearRefOf_slot hn tag (s := handed s) hst
  · exact slot.trans (reply_handed ..)
  · exact slot.trans (reply_handed ..)
  · have slot : clearRefOf tag [slotByte] (handed s) = reply 0x41 tag .ok .empty (clearRefSlot n (handed s)) := slot
    refine ⟨fun hpass => run (slot.trans ?_), fun hpass => ?_⟩
    · rw [clearRefSlot_eq (s := handed s) hnone, setRedraw_of_pass (s := slotCleared n (handed s)) hpass]
      exact reply_of_handed rfl
    · obtain ⟨p, self, pool, dram, setup, acq, pass, kind, redraw, undrawn, lnk⟩ := clearRefSlot_of_idle (n := n) (s := handed s) hnone hpass
      exact ⟨_, p, run (slot.trans (reply_of_handed lnk)), self, pool, dram, setup, acq, pass, kind, redraw, undrawn⟩

end Sys2Proof.Machine
end

section
/-! PROOF. SAVE_REF by the checks of R80, and the start of its copy. -/

namespace Sys2Proof.Machine

/-! ### The reserves -/

theorem sum_channels (f : Fin 4 → Nat) (n : Fin 4) :
    (channels.map f).sum = (channels.map (fun m => if m = n then 0 else f m)).sum + f n := by
  simp only [channels, List.map_cons, List.map_nil, List.sum_cons, List.sum_nil]
  match n with
  | 0 => simp; omega
  | 1 => simp; omega
  | 2 => simp; omega
  | 3 => simp; omega

/-- R79: what the other slots hold, none of which is COPYING. -/
def othersHeld (n : Fin 4) (s : State) : Nat :=
  (channels.map (fun m => if m = n ∨ s.mem.refs[m].state = .empty then 0 else s.mem.refs[m].pages.length)).sum

theorem reservesExcept_self {n : Fin 4} {s : State} (h : ∀ m : Fin 4, s.mem.refs[m].state ≠ .copying) :
    reservesExcept (fun m => m == n) s = othersHeld n s := by
  unfold reservesExcept othersHeld
  congr 1
  refine List.map_congr_left fun m _ => ?_
  by_cases hm : m = n
  · simp [hm]
  · rw [if_neg (by simpa using hm)]
    unfold reserveOf
    cases hst : s.mem.refs[m].state with
    | empty => simp
    | valid => simp [hm]
    | copying => exact absurd hst (h m)

/-- R79: the reserves while slot n copies. -/
theorem reserves_of_copying {n : Fin 4} {s t : State} {need : Nat} (h : ∀ m : Fin 4, s.mem.refs[m].state ≠ .copying)
    (hother : ∀ m : Fin 4, m ≠ n → t.mem.refs[m] = s.mem.refs[m]) (hself : reserveOf t.mem.refs[n] = s.mem.refs[n].pages.length + need) :
    reservesExcept (fun _ => false) t = othersHeld n s + (s.mem.refs[n].pages.length + need) := by
  have split := sum_channels (fun m => reserveOf t.mem.refs[m]) n
  have others : (channels.map (fun m => if m = n then 0 else reserveOf t.mem.refs[m])).sum = othersHeld n s := by
    rw [← reservesExcept_self (n := n) h]
    unfold reservesExcept
    congr 1
    refine List.map_congr_left fun m _ => ?_
    by_cases hm : m = n
    · simp [hm]
    · rw [if_neg hm, if_neg (by simpa using hm), hother m hm]
  unfold reservesExcept
  simp only [Bool.false_eq_true, if_false]
  rw [split, others, hself]

/-! ### The start of the move -/

theorem reclaimForCopy_of_room {need : Nat} {s : State} (h : need ≤ s.mem.pool.length) (fuel : Nat) : reclaimForCopy fuel need s = s := by
  cases fuel with
  | zero => rfl
  | succ f => exact if_neg (Nat.not_lt.2 h)

theorem reclaimForCopy_of_none {need : Nat} {s : State} (h : oldestReclaimable s = none) (fuel : Nat) : reclaimForCopy fuel need s = s := by
  cases fuel with
  | zero => rfl
  | succ f =>
    unfold reclaimForCopy
    rw [h]
    split <;> rfl

/-- R82: the copy in phase MOVE, with its pages. -/
def movingCopy (c : RefCopy) (pages : List Nat) : RefCopy := { c with phase := .move, pages := pages }

/-- R82: with room the pages come from the head of the pool. -/
theorem startMove_of_room {n : Fin 4} {c : RefCopy} {s : State} (hc : s.mem.refs[n].copy = some c) (h : c.need ≤ s.mem.pool.length) :
    startMove n s = { s with mem := { s.mem with
      refs := vmod s.mem.refs n (fun r => { r with copy := some (movingCopy c (s.mem.pool.take c.need)) })
      pool := s.mem.pool.drop c.need } } := by
  unfold startMove
  rw [hc]
  dsimp only
  rw [reclaimForCopy_of_room (by exact h), if_neg (by exact Nat.not_lt.2 h)]
  unfold takeCopyPages
  simp only [modRef_mem]
  unfold modRef
  dsimp only
  rw [vmod_vmod]
  rfl

/-- R82, R83: with a short pool and nothing to reclaim the copy ends with NO_ROOM. -/
theorem startMove_of_short {n : Fin 4} {c : RefCopy} {s : State} (hc : s.mem.refs[n].copy = some c) (h : s.mem.pool.length < c.need)
    (hnone : oldestReclaimable s = none) : ∃ f : RefSlot → RefSlot, (∀ r, uncopied (f r) = uncopied r) ∧
      startMove n s = copyNoRoom n c (modRef n f s) := by
  refine ⟨fun r => { r with copy := some { c with phase := .move } }, fun _ => rfl, ?_⟩
  unfold startMove
  rw [hc]
  dsimp only
  rw [reclaimForCopy_of_none (by exact hnone), if_pos (by exact h)]

/-- R83: the end with NO_ROOM, of a COMPLETE source with no allocation pending and room for REF_DONE. -/
theorem copyNoRoom_eq {n : Fin 4} {c : RefCopy} {r : SegRec} {s : State} (hr : findSeg c.contents.seq s = some r)
    (hcomplete : r.state = .complete) (hpin : r.pins.copy = true) (hnone : s.mem.pendingAlloc = none) (hfree : 1 ≤ freeCount s) :
    copyNoRoom n c s = enqueue (.report (.refDone n true c.contents.seq c.contents.channel))
      (modRef n uncopied (modSeg c.contents.seq (fun x => { x with pins := setPin .copy false x.pins }) s)) := by
  have released : releaseSegPin .copy c.contents.seq s =
      modSeg c.contents.seq (fun x => { x with pins := setPin .copy false x.pins }) s := by
    unfold releaseSegPin
    rw [hr]
    dsimp only
    rw [if_pos (show hasPin .copy r.pins = true from hpin), if_neg (by rw [hcomplete]; exact fun h => nomatch h.1),
      retryPending_of_none (by exact hnone)]
  unfold copyNoRoom
  rw [released]
  exact offer_of_room (alwaysNew_refDone _ _ _ _) hfree

end Sys2Proof.Machine
end

section
/-! PROOF. SAVE_REF accepted: its pin, its reply and its copy; and the statement on the reference slots. -/

namespace Sys2Proof.Machine

/-! ### The payload and the checks -/

/-- R80 (log 12): the source bytes: LATEST, or a seq. -/
def saveForm (source : Option Nat) : List Byte :=
  match source with
  | none => [0]
  | some q => 1 :: beBytes 4 q

theorem parseSaveRef_saveForm (slot ch : Byte) {source : Option Nat} (h : ∀ q, source = some q → q < 4294967296) :
    parseSaveRef ([slot] ++ saveForm source ++ [ch]) = some (slot.toNat, source, ch.toNat) := by
  cases source with
  | none => rfl
  | some q =>
    obtain ⟨a, b, c, d, hbytes, hval⟩ := beBytes_four (h q rfl)
    show parseSaveRef ([slot] ++ (1 :: beBytes 4 q) ++ [ch]) = _
    rw [hbytes, ← hval]
    rfl

/-- R80: the checks from the source on. -/
def saveRefFound (tag : Byte) (n : Fin 4) (c : Channel) (found : Option SegRec) (s : State) : State :=
  match found with
  | none => reply 0x40 tag .notFound .empty s
  | some r =>
    if !r.set[c] then reply 0x40 tag .badState .empty s
    else if refNoRoom n (pagesOf r.n) s then reply 0x40 tag .noRoom .empty s
    else saveRefAccepted tag n c r s

theorem saveRefOf_named {p : List Byte} {slot ch : Nat} {source : Option Nat} (hparse : parseSaveRef p = some (slot, source, ch))
    {n : Fin 4} {c : Channel} (hn : oneOfFour slot = some n) (hc : oneOfFour ch = some c) (tag : Byte) (s : State) :
    saveRefOf tag p s =
      if s.mem.refs[n].state = .copying then reply 0x40 tag .badState .empty s
      else if copyBusy s then reply 0x40 tag .busy .empty s
      else if s.mem.refs[n].state = .empty ∧ s.mem.refs[n].pages ≠ [] then reply 0x40 tag .badState .empty s
      else saveRefFound tag n c (resolveSource source s) s := by
  unfold saveRefOf
  rw [hparse]
  dsimp only
  rw [hn, hc]
  dsimp only
  cases resolveSource source s <;> rfl

theorem saveRefOf_out {p : List Byte} {slot ch : Nat} {source : Option Nat} (hparse : parseSaveRef p = some (slot, source, ch))
    (h : ¬ (1 ≤ slot ∧ slot ≤ 4 ∧ 1 ≤ ch ∧ ch ≤ 4)) (tag : Byte) (s : State) :
    saveRefOf tag p s = reply 0x40 tag .badArg .empty s := by
  unfold saveRefOf
  rw [hparse]
  dsimp only
  by_cases hslot : 1 ≤ slot ∧ slot ≤ 4
  · have hch : oneOfFour ch = none := oneOfFour_of_out fun hch => h ⟨hslot.1, hslot.2, hch⟩
    rw [hch]
    cases oneOfFour slot <;> rfl
  · rw [oneOfFour_of_out hslot]

theorem refNoRoom_iff {n : Fin 4} {need : Nat} {s : State} (h : ∀ m : Fin 4, s.mem.refs[m].state ≠ .copying) :
    refNoRoom n need s = true ↔ goodPages s - othersHeld n s < need + s.setup.pagesNeeded ∨
      goodPages s - othersHeld n s < need + s.mem.refs[n].pages.length := by
  unfold refNoRoom
  rw [reservesExcept_self h]
  simp

/-! ### The acceptance -/

/-- R80: the table with the COPY pin of a segment set or not. -/
def copyPinned (seq : Nat) (b : Bool) (table : List SegRec) : List SegRec :=
  table.map (fun x => if x.seq = seq then { x with pins := { x.pins with copy := b } } else x)

/-- R80: the copy as it begins. -/
def firstCopy (ch : Channel) (r : SegRec) : RefCopy :=
  ⟨.waitSetup, ⟨ch, r.seq, r.n, r.decimation, r.scales[ch]⟩, pagesOf r.n, []⟩

/-- R80: MEM once the source is pinned and the slot COPYING. -/
def copyBegunMem (n : Fin 4) (ch : Channel) (r : SegRec) (m : Mem) : Mem :=
  { m with refs := m.refs.set n (copyingFrom (firstCopy ch r) m.refs[n]), table := copyPinned r.seq true m.table }

/-- R80: the request answered ACCEPTED. -/
def copyBegun (tag : Byte) (n : Fin 4) (ch : Channel) (r : SegRec) (s : State) : State :=
  answered 0x40 tag .accepted (.saveRef r.seq (pagesOf r.n)) { taken s with mem := copyBegunMem n ch r s.mem }

theorem modSeg_copyPinned (seq : Nat) (b : Bool) (s : State) :
    modSeg seq (fun x => { x with pins := setPin .copy b x.pins }) s = { s with mem := { s.mem with table := copyPinned seq b s.mem.table } } := by
  unfold modSeg copyPinned
  simp only [beq_iff_eq]
  rfl

theorem copyBegun_self (tag : Byte) (n : Fin 4) (ch : Channel) (r : SegRec) (s : State) :
    (copyBegun tag n ch r s).mem.refs[n] = copyingFrom (firstCopy ch r) s.mem.refs[n] :=
  modRef_self n (copyingFrom (firstCopy ch r)) s

/-- R81: the allowance once the slot is COPYING. -/
theorem captureAllowance_copyBegun {tag : Byte} {n : Fin 4} {ch : Channel} {r : SegRec} {s : State}
    (h : ∀ m : Fin 4, s.mem.refs[m].state ≠ .copying) : captureAllowance (copyBegun tag n ch r s) =
      goodPages s - (othersHeld n s + (s.mem.refs[n].pages.length + pagesOf r.n)) := by
  have reserves := reserves_of_copying (t := copyBegun tag n ch r s) (need := pagesOf r.n) h
    (fun m hm => modRef_ne hm (copyingFrom (firstCopy ch r)) s) (by rw [copyBegun_self]; rfl)
  unfold captureAllowance
  rw [reserves]
  rfl

theorem saveRefAccepted_handed {tag : Byte} {n : Fin 4} {ch : Channel} {r : SegRec} {s : State} (hfind : findSeg r.seq s = some r)
    (hr : r.state = .complete) (h : ∀ m : Fin 4, s.mem.refs[m].state ≠ .copying) : saveRefAccepted tag n ch r (handed s) =
      if goodPages s - (othersHeld n s + (s.mem.refs[n].pages.length + pagesOf r.n)) < s.setup.pagesNeeded then copyBegun tag n ch r s
      else startMove n (copyBegun tag n ch r s) := by
  have begun : ∀ u, u = modRef n (copyingFrom (firstCopy ch r)) (pinSegment .copy r.seq (handed s)).1 →
      reply 0x40 tag .accepted (.saveRef r.seq (pagesOf r.n)) u = copyBegun tag n ch r s := by
    rintro u rfl
    rw [pinSegment_of_complete (s := handed s) hfind hr, modSeg_copyPinned]
    exact reply_of_handed rfl
  have accepts : saveRefAccepted tag n ch r (handed s) =
      let u := reply 0x40 tag .accepted (.saveRef r.seq (pagesOf r.n))
        (modRef n (copyingFrom (firstCopy ch r)) (pinSegment .copy r.seq (handed s)).1)
      if captureAllowance u < u.setup.pagesNeeded then u else startMove n u := rfl
  rw [accepts, begun _ rfl]
  dsimp only
  rw [captureAllowance_copyBegun h]
  rfl

/-- R82: with room the copy moves at once. -/
theorem startMove_copyBegun_of_room {tag : Byte} {n : Fin 4} {ch : Channel} {r : SegRec} {s : State} (h : pagesOf r.n ≤ s.mem.pool.length) :
    startMove n (copyBegun tag n ch r s) = answered 0x40 tag .accepted (.saveRef r.seq (pagesOf r.n)) { taken s with mem := { s.mem with
      refs := s.mem.refs.set n (copyingFrom (movingCopy (firstCopy ch r) (s.mem.pool.take (pagesOf r.n))) s.mem.refs[n])
      pool := s.mem.pool.drop (pagesOf r.n), table := copyPinned r.seq true s.mem.table } } := by
  have moved := startMove_of_room (s := copyBegun tag n ch r s) (n := n) (c := firstCopy ch r) (by rw [copyBegun_self]; rfl) h
  have refs : vmod (copyBegun tag n ch r s).mem.refs n (fun x => { x with
      copy := some (movingCopy (firstCopy ch r) ((copyBegun tag n ch r s).mem.pool.take (firstCopy ch r).need)) }) =
      vmod s.mem.refs n ((fun x : RefSlot => { x with
        copy := some (movingCopy (firstCopy ch r) (s.mem.pool.take (pagesOf r.n))) }) ∘ copyingFrom (firstCopy ch r)) :=
    vmod_vmod s.mem.refs n (copyingFrom (firstCopy ch r)) _
  rw [moved, refs]
  rfl

/-- R83: with a short pool and nothing to reclaim it ends with NO_ROOM, and the slot and the table are as they were but for the pin. -/
theorem startMove_copyBegun_of_short {tag : Byte} {n : Fin 4} {ch : Channel} {r : SegRec} {s : State} (hfind : findSeg r.seq s = some r)
    (hr : r.state = .complete) (h : s.mem.pool.length < pagesOf r.n) (hnone : s.mem.pendingAlloc = none) (hfree : 2 ≤ freeCount s)
    (held : ∀ x ∈ s.mem.table, x.seq ≠ r.seq → x.state = .complete → unpinned x = false) :
    startMove n (copyBegun tag n ch r s) = { taken s with
      mem := { s.mem with refs := s.mem.refs.set n (uncopied s.mem.refs[n]), table := copyPinned r.seq false s.mem.table }
      lnk := { (taken s).lnk with outbound := s.lnk.outbound ++
        [.reply ⟨tag, 0x40, .accepted, .saveRef r.seq (pagesOf r.n)⟩, .report (.refDone n true r.seq ch)] } } := by
  have nothing : oldestReclaimable (copyBegun tag n ch r s) = none := by
    refine List.find?_eq_none.2 fun y hy => ?_
    obtain ⟨x, hx, rfl⟩ := List.mem_map.1 hy
    by_cases hq : x.seq = r.seq
    · simp [hq, unpinned]
    · have := held x hx hq
      simp only [if_neg hq, Bool.and_eq_true, decide_eq_true_eq, not_and, Bool.not_eq_true]
      exact this
  obtain ⟨f, same, ends⟩ := startMove_of_short (s := copyBegun tag n ch r s) (n := n) (c := firstCopy ch r) (by rw [copyBegun_self]; rfl)
    h nothing
  have found : findSeg r.seq (modRef n f (copyBegun tag n ch r s)) = some { r with pins := { r.pins with copy := true } } := by
    have pinned := findSeg_modSeg_self (seq := r.seq) (f := fun x => { x with pins := setPin .copy true x.pins }) (fun _ => rfl) s
    rw [modSeg_copyPinned, hfind] at pinned
    exact pinned
  have room : 1 ≤ freeCount (modRef n f (copyBegun tag n ch r s)) := by
    show 1 ≤ Config.outboundSize - (s.lnk.outbound ++ [_]).length - s.lnk.reservations
    unfold freeCount at hfree
    rw [List.length_append, List.length_singleton]
    omega
  have refs : vmod (vmod (copyBegun tag n ch r s).mem.refs n f) n uncopied = s.mem.refs.set n (uncopied s.mem.refs[n]) := by
    have begun : (copyBegun tag n ch r s).mem.refs = vmod s.mem.refs n (copyingFrom (firstCopy ch r)) := rfl
    rw [vmod_vmod, show uncopied ∘ f = uncopied from funext same, begun, vmod_vmod]
    rfl
  have table : copyPinned r.seq false (copyPinned r.seq true s.mem.table) = copyPinned r.seq false s.mem.table := by
    unfold copyPinned
    rw [List.map_map]
    refine List.map_congr_left fun x _ => ?_
    by_cases hx : x.seq = r.seq <;> simp [hx]
  rw [ends, copyNoRoom_eq (c := firstCopy ch r) found hr rfl hnone room]
  show enqueue _ (modRef n uncopied (modSeg r.seq (fun x => { x with pins := setPin .copy false x.pins }) _)) = _
  rw [modSeg_copyPinned]
  simp only [enqueue, modRef, refs]
  rw [← table, show ∀ a b : Record, s.lnk.outbound ++ [a, b] = s.lnk.outbound ++ [a] ++ [b] by simp]
  rfl

/-- R80: what the checks from the source on answer, for a slot that may be saved to. -/
theorem saveRefFound_spec {tag : Byte} {n : Fin 4} {ch : Channel} {r : SegRec} {s : State} (hfind : findSeg r.seq s = some r)
    (hr : r.state = .complete) (h : ∀ m : Fin 4, s.mem.refs[m].state ≠ .copying) :
    (r.set[ch] = false → saveRefFound tag n ch (some r) (handed s) = reply 0x40 tag .badState .empty (handed s)) ∧
    (r.set[ch] = true → goodPages s - othersHeld n s < pagesOf r.n + s.setup.pagesNeeded ∨
        goodPages s - othersHeld n s < pagesOf r.n + s.mem.refs[n].pages.length →
      saveRefFound tag n ch (some r) (handed s) = reply 0x40 tag .noRoom .empty (handed s)) ∧
    (r.set[ch] = true → ¬ (goodPages s - othersHeld n s < pagesOf r.n + s.setup.pagesNeeded ∨
        goodPages s - othersHeld n s < pagesOf r.n + s.mem.refs[n].pages.length) →
      saveRefFound tag n ch (some r) (handed s) =
        if goodPages s - (othersHeld n s + (s.mem.refs[n].pages.length + pagesOf r.n)) < s.setup.pagesNeeded
        then copyBegun tag n ch r s else startMove n (copyBegun tag n ch r s)) := by
  have room : refNoRoom n (pagesOf r.n) (handed s) = true ↔ _ := refNoRoom_iff (n := n) (need := pagesOf r.n) (s := handed s) h
  unfold saveRefFound
  dsimp only
  refine ⟨fun hset => ?_, fun hset hfull => ?_, fun hset hfits => ?_⟩
  · rw [hset]; rfl
  · rw [hset, if_neg (by decide), if_pos (room.2 hfull)]
  · rw [hset, if_neg (by decide), if_neg (fun hfull => hfits (room.1 hfull)), saveRefAccepted_handed hfind hr h]

/-- Settles O33: SAVE_REF by its checks in order and by the room, CLEAR_REF by the state of the slot. -/
theorem referenceSlotsAreFilledAndCleared : Obligations.ReferenceSlotsAreFilledAndCleared := by
  refine ⟨fun tag slotByte chByte source s hsource => ?_, fun tag slotByte s hc => clearRef_spec tag slotByte s hc⟩
  intro form payload refused hc
  have bytes : payload = [slotByte] ++ saveForm source ++ [chByte] := by cases source <;> rfl
  have parsed : parseSaveRef payload = some (slotByte.toNat, source, chByte.toNat) := by
    rw [bytes]; exact parseSaveRef_saveForm slotByte chByte hsource
  have run : ∀ {t : State}, saveRefOf tag payload (handed s) = t → exec (.saveRef tag payload) s = .next t := fun h =>
    (request_of_canTake _ _ _ _ _ hc).trans (congrArg _ h)
  have refuses : ∀ st, saveRefOf tag payload (handed s) = reply 0x40 tag st .empty (handed s) → refused st := fun st h =>
    run (h.trans (reply_handed ..))
  refine ⟨fun hout => refuses _ (saveRefOf_out parsed hout tag _), fun n ch hn hch => ?_⟩
  have named := saveRefOf_named parsed (oneOfFour_of_eq hn) (oneOfFour_of_eq hch) tag (handed s)
  have busy : copyBusy (handed s) = true ↔ ∃ m : Fin 4, s.mem.refs[m].state = .copying := copyBusy_iff (handed s)
  have idle : (∀ m : Fin 4, s.mem.refs[m].state ≠ .copying) → saveRefOf tag payload (handed s) =
      if s.mem.refs[n].state = .empty ∧ s.mem.refs[n].pages ≠ [] then reply 0x40 tag .badState .empty (handed s)
      else saveRefFound tag n ch (resolveSource source (handed s)) (handed s) := fun h => by
    rw [named, if_neg (show ¬ (handed s).mem.refs[n].state = .copying from h n),
      if_neg (fun hb => (busy.1 hb).elim fun m hm => h m hm)]
    rfl
  refine ⟨fun hst => refuses _ ?_, fun hst hother => refuses _ ?_, fun h hst hpages => refuses _ ?_, fun h hfree => ?_⟩
  · exact named.trans (if_pos hst)
  · exact named.trans ((if_neg hst).trans (if_pos (busy.2 hother)))
  · exact (idle h).trans (if_pos ⟨hst, hpages⟩)
  · have asked := (idle h).trans (if_neg fun ⟨hst, hpages⟩ => hpages (hfree hst))
    refine ⟨fun hlatest hnamed => refuses _ ?_, fun r hfind hr hlatest hnamed => ?_⟩
    · rw [asked, resolveSource_of_none (s := handed s) hlatest hnamed]
      rfl
    · intro need k good others own copied pinned accepted
      obtain ⟨unset, full, fits⟩ := saveRefFound_spec (tag := tag) (n := n) (ch := ch) hfind hr h
      rw [resolveSource_of_complete (s := handed s) hfind hr hlatest hnamed] at asked
      refine ⟨fun hset => refuses _ (asked.trans (unset hset)), fun hset hfull => refuses _ (asked.trans (full hset hfull)),
        fun hset hroom => ⟨fun hwait => ?_, fun hnow hpool => ?_, fun hnow hshort hnone held => ?_⟩⟩
      all_goals have accepts := asked.trans (fits hset hroom)
      · exact run (accepts.trans (if_pos hwait))
      · have moves := accepts.trans (if_neg (Nat.not_lt.2 hnow))
        exact run (moves.trans (startMove_copyBegun_of_room hpool))
      · have moves := accepts.trans (if_neg (Nat.not_lt.2 hnow))
        exact run (moves.trans (startMove_copyBegun_of_short hfind hr hshort hnone hc.2.2 held))

end Sys2Proof.Machine
end

section
/-! PROOF. A capture allocation with room, after one reclaim, and with nothing to reclaim. -/

namespace Sys2Proof.Machine

/-! ### The three outcomes of an allocation -/

/-- R70: the seq that the next allocation bears. -/
def nextSeq (s : State) : Nat := freeSeq (s.mem.table.length + 1) s.mem.seqCounter s

/-- R72: MEM once an allocation has taken its pages from the head of the pool. -/
def allocatedMem (q : CaptureRequest) (s : State) : Mem :=
  { s.mem with
    pool := s.mem.pool.drop (pagesForRequest q), seqCounter := seqAfter (nextSeq s)
    table := s.mem.table ++ [newSegment q (nextSeq s) (s.mem.pool.take (pagesForRequest q))] }

/-- Both are read off MEM alone. -/
theorem nextSeq_congr {s t : State} (h : t.mem = s.mem) : nextSeq t = nextSeq s := by
  have same : ∀ fuel n, freeSeq fuel n t = freeSeq fuel n s := by
    intro fuel
    induction fuel with
    | zero => exact fun _ => rfl
    | succ f ih => intro n; unfold freeSeq; rw [h, ih]
  unfold nextSeq
  rw [same, h]

theorem allocatedMem_congr (q : CaptureRequest) {s t : State} (h : t.mem = s.mem) : allocatedMem q t = allocatedMem q s := by
  unfold allocatedMem
  rw [nextSeq_congr h, h]

theorem captureShort_of_room {k : Nat} {s : State} (hpool : k ≤ s.mem.pool.length) (htable : s.mem.table.length < 1024) :
    captureShort k s = false := by
  simp [captureShort, Config.tableSize, hpool, Nat.not_le.2 htable]

theorem captureShort_of_short {k : Nat} {s : State} (h : s.mem.pool.length < k ∨ 1024 ≤ s.mem.table.length) : captureShort k s = true := by
  exact Bool.or_eq_true_iff.2 (h.imp decide_eq_true decide_eq_true)

/-- R72: with room, no reclaim goes before. -/
theorem allocate_eq_of_room {q : CaptureRequest} {s : State} (hpool : pagesForRequest q ≤ s.mem.pool.length)
    (htable : s.mem.table.length < 1024) : allocate q s = ({ s with mem := allocatedMem q s }, some (nextSeq s)) := by
  have room := captureShort_of_room hpool htable
  unfold allocate
  dsimp only
  rw [reclaim_of_room room, room]
  rfl

/-- R72: what one reclaim leaves. -/
def reclaimedMem (a rest : List SegRec) (r : SegRec) (m : Mem) : Mem :=
  { m with table := a ++ rest, pool := m.pool ++ sortAsc (segPages r) }

theorem dropSegment_split {a rest : List SegRec} {r : SegRec} {s : State} (htable : s.mem.table = a ++ r :: rest)
    (ha : ∀ x ∈ a, x.seq ≠ r.seq) : dropSegment r.seq s = { s with mem := reclaimedMem a rest r s.mem } := by
  have before : ∀ x ∈ a, ¬ (x.seq == r.seq) = true := fun x hx => by simpa using ha x hx
  have found : findSeg r.seq s = some r := by
    unfold findSeg
    rw [htable, List.find?_append, List.find?_eq_none.2 before]
    simp
  have erased : s.mem.table.eraseP (fun x => x.seq == r.seq) = a ++ rest := by
    rw [htable, List.eraseP_append_right _ before, List.eraseP_cons_of_pos (by simp)]
  unfold dropSegment
  rw [found]
  dsimp only
  rw [erased]
  rfl

/-- R72: the oldest COMPLETE record without pins goes first. -/
theorem allocate_eq_of_reclaim {q : CaptureRequest} {a rest : List SegRec} {r : SegRec} {s : State}
    (htable : s.mem.table = a ++ r :: rest) (ha : ∀ x ∈ a, x.seq ≠ r.seq ∧ (x.state ≠ .complete ∨ unpinned x = false))
    (hr : r.state = .complete) (hu : unpinned r = true) (hshort : s.mem.pool.length < pagesForRequest q ∨ s.mem.table.length = 1024)
    (hlen : s.mem.table.length ≤ 1024) (hroom : pagesForRequest q ≤ s.mem.pool.length + (segPages r).length) :
    allocate q s = ({ s with mem := allocatedMem q { s with mem := reclaimedMem a rest r s.mem } },
      some (nextSeq { s with mem := reclaimedMem a rest r s.mem })) := by
  have oldest : oldestReclaimable s = some r := by
    have before : a.find? (fun x => decide (x.state = .complete) && unpinned x) = none := by
      refine List.find?_eq_none.2 fun x hx => ?_
      rcases (ha x hx).2 with h | h <;> simp [h]
    unfold oldestReclaimable
    rw [htable, List.find?_append, before]
    simp [hr, hu]
  have lengths : s.mem.table.length = a.length + rest.length + 1 := by rw [htable]; simp; omega
  have sorted : (sortAsc (segPages r)).length = (segPages r).length := (perm_sortAsc _).length_eq
  have room : captureShort (pagesForRequest q) { s with mem := reclaimedMem a rest r s.mem } = false := by
    refine captureShort_of_room ?_ ?_
    · show _ ≤ (s.mem.pool ++ sortAsc (segPages r)).length
      rw [List.length_append, sorted]
      exact hroom
    · show (a ++ rest).length < 1024
      rw [List.length_append]
      omega
  have once : reclaim s.mem.table.length (pagesForRequest q) s = { s with mem := reclaimedMem a rest r s.mem } := by
    rw [lengths]
    unfold reclaim
    rw [captureShort_of_short (by omega), if_pos rfl, oldest]
    dsimp only
    rw [dropSegment_split htable (fun x hx => (ha x hx).1), reclaim_of_room room]
  unfold allocate
  dsimp only
  rw [once, room]
  rfl

theorem oldestReclaimable_none {s : State} (h : ∀ x ∈ s.mem.table, x.state = .complete → unpinned x = false) :
    oldestReclaimable s = none := by
  refine List.find?_eq_none.2 fun x hx => ?_
  simpa using h x hx

/-- R73: with nothing to reclaim a short allocation fails, and leaves MEM as it was. -/
theorem allocate_eq_of_none {q : CaptureRequest} {s : State} (hshort : s.mem.pool.length < pagesForRequest q ∨ 1024 ≤ s.mem.table.length)
    (hnone : oldestReclaimable s = none) : allocate q s = (s, none) := by
  have unreclaimed : ∀ fuel, reclaim fuel (pagesForRequest q) s = s := by
    intro fuel
    cases fuel with
    | zero => rfl
    | succ f =>
      unfold reclaim
      rw [hnone]
      split <;> rfl
  unfold allocate
  dsimp only
  rw [unreclaimed, captureShort_of_short hshort]
  rfl

/-! ### The new record -/

/-- R72 step 1: each channel of the set has its pages. -/
theorem pageListFor_length {q : CaptureRequest} {taken : List Nat} (h : taken.length = pagesForRequest q) (c : Channel) :
    (pageListFor q taken c).length = if q.set[c] then pagesOf q.n else 0 := by
  unfold pageListFor
  by_cases hset : q.set[c] = true
  · have counted := List.length_eq_length_filter_add (l := channels.filter (fun d => q.set[d])) (fun d => decide (d < c))
    have own : 1 ≤ ((channels.filter (fun d => q.set[d])).filter (fun d => !decide (d < c))).length :=
      List.length_pos_of_mem (List.mem_filter.2 ⟨List.mem_filter.2 ⟨mem_channels c, hset⟩, by simp⟩)
    have before : (channels.filter (fun d => q.set[d])).filter (fun d => decide (d < c)) =
        channels.filter (fun d => q.set[d] && decide (d < c)) := by
      rw [List.filter_filter]
      refine List.filter_congr fun d _ => Bool.and_comm _ _
    rw [before] at counted
    unfold pagesForRequest at h
    rw [if_pos hset, if_pos hset, List.length_take, List.length_drop, h]
    generalize (channels.filter (fun d => q.set[d] && decide (d < c))).length = j at counted
    generalize (channels.filter (fun d => q.set[d])).length = e at counted
    have fits : (j + 1) * pagesOf q.n ≤ e * pagesOf q.n := Nat.mul_le_mul_right _ (by omega)
    rw [Nat.add_mul, Nat.one_mul] at fits
    omega
  · rw [if_neg hset, if_neg hset]; rfl

/-- R70: the counter's own value, where no record bears it. -/
theorem nextSeq_of_free {s : State} (h : ∀ x ∈ s.mem.table, x.seq ≠ s.mem.seqCounter) : nextSeq s = s.mem.seqCounter := by
  unfold nextSeq freeSeq
  refine if_neg ?_
  rw [List.any_eq_true]
  rintro ⟨x, hx, hseq⟩
  exact h x hx (by simpa using hseq)

theorem nextSeq_fresh {s : State} (h : s.mem.table.length < 1024) : ∀ x ∈ s.mem.table, x.seq ≠ nextSeq s := fun x hx e =>
  freeSeq_fresh s.mem.seqCounter h (List.mem_map.2 ⟨x, hx, e⟩)

end Sys2Proof.Machine
end

section
/-! PROOF. SETTLE_TIMER_EXPIRY in SETTLING, by the outcome of its allocation; the retry that a release sets going. -/

namespace Sys2Proof.Machine

/-! ### The entry to PRE_FILL -/

theorem enterPreFill_of_p {q : CaptureRequest} (hp : q.p ≠ 0) (seq : Nat) (s : State) : enterPreFill q seq s =
    { s with acq := { s.acq with state := .preFill, ctx := some (newContext q seq) } } := by
  unfold enterPreFill
  exact if_neg hp

/-- R102, R103: with P = 0, no force pending and no change held, READY is entered at once. -/
theorem enterPreFill_of_zero {q : CaptureRequest} (hp : q.p = 0) (seq : Nat) {s : State} (hf : s.acq.forcePending = false)
    (hheld : s.trg.changeHeld = false) : enterPreFill q seq s =
      { s with
        acq := { s.acq with state := .ready, ctx := some (newContext q seq) }
        trg := { s.trg with
          autoWait := (if s.setup.get 83 = 0 then some (s.now + (s.setup.get 104).toNat * 1000000) else s.trg.autoWait) } } := by
  have stays : ∀ u : State, u.trg.changeHeld = false → leavePhase u = u := fun u hu => by
    unfold leavePhase; rw [if_neg (by rw [hu]; exact Bool.false_ne_true)]
  unfold enterPreFill
  dsimp only
  rw [if_pos hp, enterReady_of_no_force (by exact hf)]
  unfold readied readyTrg
  rw [stays _ (by exact hheld)]
  rfl

/-! ### SETTLE_TIMER_EXPIRY -/

/-- R30: the settle timer is done. -/
def settleDone (d : Instant) (s : State) : State := reach d { s with fec := { s.fec with settle := none } }

theorem exec_settleTimerExpiry {d : Instant} {s : State} (hup : s.lnk.startUp = false) (hd : s.fec.settle = some d)
    (hst : s.acq.state = .settling) : exec .settleTimerExpiry s = .next (requestAllocation (settleDone d s)) := by
  refine (whenUp_of_up _ s hup).trans (congrArg _ ?_)
  unfold settleExpires
  rw [hd]
  exact if_pos hst

theorem requestAllocation_of_some {s s1 : State} {seq : Nat} (h : allocate (captureRequest s) s = (s1, some seq)) :
    requestAllocation s = enterPreFill (captureRequest s) seq s1 := by
  unfold requestAllocation
  dsimp only
  rw [h]

theorem requestAllocation_of_none {s s1 : State} (h : allocate (captureRequest s) s = (s1, none)) : requestAllocation s =
    latchCondition .starved (.pages (pagesForRequest (captureRequest s)))
      (setAcq .starved { s1 with mem := { s1.mem with pendingAlloc := some (captureRequest s) } }) := by
  unfold requestAllocation
  dsimp only
  rw [h]

/-- R98: the record and the context of a request of the setup, with `k` pages from the head of a pool that has them. -/
theorem newSegment_spec {s : State} {seq : Nat} {pool : List Nat} (hpool : s.setup.pagesNeeded ≤ pool.length) :
    segPages (newSegment (captureRequest s) seq (pool.take s.setup.pagesNeeded)) = pool.take s.setup.pagesNeeded ∧
    ∀ n : Channel, (newSegment (captureRequest s) seq (pool.take s.setup.pagesNeeded)).pages[n].length =
      if s.setup.enabled n then pagesOf s.setup.n else 0 := by
  have need := pagesForRequest_captureRequest s
  refine ⟨?_, fun n => ?_⟩
  · rw [segPages_newSegment, need, List.take_take, Nat.min_self]
  · have length := pageListFor_length (q := captureRequest s) (taken := pool.take s.setup.pagesNeeded)
      (by rw [need, List.length_take]; omega) n
    have set : (captureRequest s).set[n] = s.setup.enabled n := by
      show (Vector.ofFn (fun n => s.setup.enabled n))[n.val] = _
      rw [Vector.getElem_ofFn]
    rw [set] at length
    refine Eq.trans (congrArg List.length ?_) length
    show (Vector.ofFn (fun c => pageListFor (captureRequest s) (pool.take s.setup.pagesNeeded) c))[n.val] = _
    rw [Vector.getElem_ofFn]

/-- R98, R102: with room the settle expiry opens a segment. -/
theorem settle_of_room {d : Instant} {s : State} (hup : s.lnk.startUp = false) (hd : s.fec.settle = some d)
    (hst : s.acq.state = .settling) (hpool : s.setup.pagesNeeded ≤ s.mem.pool.length) (htable : s.mem.table.length < 1024)
    (hready : s.setup.p ≠ 0 ∨ (s.acq.forcePending = false ∧ s.trg.changeHeld = false)) :
    ∃ t : State, exec .settleTimerExpiry s = .next t ∧ t.fec.settle = none ∧ t.mem = allocatedMem (captureRequest s) s ∧
      t.acq.ctx = some (newContext (captureRequest s) (nextSeq s)) ∧ (s.setup.p ≠ 0 → t.acq.state = .preFill) ∧
      (s.setup.p = 0 → t.acq.state = .ready ∧ t.trg.autoWait =
        if s.setup.get 83 = 0 then some (max s.now d + (s.setup.get 104).toNat * 1000000) else s.trg.autoWait) := by
  have allocated := allocate_eq_of_room (q := captureRequest s) (s := settleDone d s)
    (by rw [pagesForRequest_captureRequest]; exact hpool) htable
  have opens := requestAllocation_of_some (s := settleDone d s) allocated
  have seq : nextSeq (settleDone d s) = nextSeq s := nextSeq_congr rfl
  have mem : allocatedMem (captureRequest s) (settleDone d s) = allocatedMem (captureRequest s) s := allocatedMem_congr _ rfl
  refine ⟨_, exec_settleTimerExpiry hup hd hst, ?_⟩
  rw [opens]
  by_cases hp : s.setup.p = 0
  · obtain ⟨hf, hheld⟩ := hready.resolve_left (not_not.2 hp)
    rw [enterPreFill_of_zero hp _ (by exact hf) (by exact hheld)]
    exact ⟨rfl, mem, by rw [← seq]; rfl, fun h => absurd hp h, fun _ => ⟨rfl, rfl⟩⟩
  · rw [enterPreFill_of_p hp]
    exact ⟨rfl, mem, by rw [← seq]; rfl, fun _ => rfl, fun h => absurd h hp⟩

/-- R72: the settle expiry that reclaims one record first. -/
theorem settle_of_reclaim {d : Instant} {s : State} {a rest : List SegRec} {r : SegRec} (hup : s.lnk.startUp = false)
    (hd : s.fec.settle = some d) (hst : s.acq.state = .settling) (htable : s.mem.table = a ++ r :: rest)
    (ha : ∀ x ∈ a, x.seq ≠ r.seq ∧ (x.state ≠ .complete ∨ unpinned x = false)) (hr : r.state = .complete) (hu : unpinned r = true)
    (hshort : s.mem.pool.length < s.setup.pagesNeeded ∨ s.mem.table.length = 1024) (hlen : s.mem.table.length ≤ 1024)
    (hroom : s.setup.pagesNeeded ≤ s.mem.pool.length + (segPages r).length) :
    ∃ (t : State) (new : SegRec), exec .settleTimerExpiry s = .next t ∧ t.mem.table = a ++ rest ++ [new] ∧ new.state = .filling ∧
      t.mem.pool = (s.mem.pool ++ sortAsc (segPages r)).drop s.setup.pagesNeeded ∧ segmentOpen t.acq.state = true := by
  have need := pagesForRequest_captureRequest s
  have allocated := allocate_eq_of_reclaim (q := captureRequest s) (s := settleDone d s) htable ha hr hu
    (by rw [need]; exact hshort) hlen (by rw [need]; exact hroom)
  have opens := requestAllocation_of_some (s := settleDone d s) allocated
  refine ⟨requestAllocation (settleDone d s), newSegment (captureRequest s)
    (nextSeq { settleDone d s with mem := reclaimedMem a rest r s.mem })
    ((s.mem.pool ++ sortAsc (segPages r)).take (pagesForRequest (captureRequest s))), exec_settleTimerExpiry hup hd hst, ?_, rfl, ?_, ?_⟩
  all_goals rw [opens]
  · rw [(enterPreFill_opens _ _ _).2.1]
    rfl
  · rw [(enterPreFill_opens _ _ _).2.1]
    show (s.mem.pool ++ sortAsc (segPages r)).drop (pagesForRequest (captureRequest s)) = _
    rw [need]
  · have state := (enterPreFill_opens (captureRequest s) (nextSeq { settleDone d s with mem := reclaimedMem a rest r s.mem })
      { settleDone d s with mem := allocatedMem (captureRequest s) { settleDone d s with mem := reclaimedMem a rest r s.mem } }).1.state
    split at state
    · rcases state with state | state
      · exact (congrArg segmentOpen state).trans rfl
      · exact (congrArg segmentOpen state).trans rfl
    · exact (congrArg segmentOpen state).trans rfl

/-- R73, R100: the settle expiry that starves. -/
theorem settle_of_none {d : Instant} {s : State} (hup : s.lnk.startUp = false) (hd : s.fec.settle = some d)
    (hst : s.acq.state = .settling) (hshort : s.mem.pool.length < s.setup.pagesNeeded ∨ 1024 ≤ s.mem.table.length)
    (held : ∀ x ∈ s.mem.table, x.state = .complete → unpinned x = false) :
    ∃ t, exec .settleTimerExpiry s = .next t ∧ t.acq = { s.acq with state := .starved } ∧
      t.mem = { s.mem with pendingAlloc := some (captureRequest s) } ∧
      LatchedNow .starved (.pages s.setup.pagesNeeded) s t ∧ condActive .starved t = true := by
  have need := pagesForRequest_captureRequest s
  have failed := allocate_eq_of_none (q := captureRequest s) (s := settleDone d s) (by rw [need]; exact hshort)
    (oldestReclaimable_none (s := settleDone d s) held)
  have starves := requestAllocation_of_none (s := settleDone d s) failed
  rw [show pagesForRequest (captureRequest (settleDone d s)) = s.setup.pagesNeeded from need] at starves
  have latched := latchedNow_latchCondition (c := .starved) (by decide) (.pages s.setup.pagesNeeded)
    (setAcq .starved { settleDone d s with mem := { s.mem with pendingAlloc := some (captureRequest s) } })
  refine ⟨_, exec_settleTimerExpiry hup hd hst, ?_⟩
  rw [starves]
  refine ⟨?_, ?_, latched.of_entries rfl rfl, ?_⟩
  all_goals rw [latchCondition_only]
  all_goals rfl

/-! ### The retry after CLEAR_REF -/

/-- R67, R84: MEM when a cleared slot has given its pages up. -/
def slotReleased (n : Fin 4) (s : State) : State :=
  { s with mem := { s.mem with
      refs := s.mem.refs.set n { s.mem.refs[n] with state := .empty, contents := none, pages := [] }
      pool := s.mem.pool ++ sortAsc s.mem.refs[n].pages } }

/-- R73, R84: with a pass running, clearing an unpinned slot with pages retries the pending allocation and sets redraw pending. -/
theorem clearRefSlot_retries {n : Fin 4} {s : State} (hrender : s.mem.refs[n].pinRender = false)
    (htransfer : s.mem.refs[n].pinTransfer = false) (hpages : s.mem.refs[n].pages ≠ []) (hpass : s.rnd.pass.isSome = true) :
    clearRefSlot n s = { retryPending (slotReleased n s) with rnd := { s.rnd with redraw := true } } := by
  have self := modRef_self n (fun r : RefSlot => { r with state := .empty, contents := none }) s
  have rnd := (retryPending_released (slotReleased n s)).rnd
  have unpinned : refUnpinned n (modRef n (fun r : RefSlot => { r with state := .empty, contents := none }) s) =
      retryPending (slotReleased n s) := by
    unfold refUnpinned
    rw [self]
    dsimp only
    rw [if_neg hpages]
    unfold releasePages
    congr 1
    unfold modRef freePages
    dsimp only
    rw [vmod_vmod]
    rfl
  unfold clearRefSlot
  dsimp only
  rw [self]
  dsimp only
  rw [if_neg (by rw [hrender, htransfer]; decide), unpinned, setRedraw_of_pass (by rw [rnd]; exact hpass), rnd]
  rfl

theorem retryPending_of_some {s s1 : State} {q : CaptureRequest} {seq : Nat} (hq : s.mem.pendingAlloc = some q)
    (h : allocate q s = (s1, some seq)) :
    retryPending s = enterPreFill q seq { s1 with mem := { s1.mem with pendingAlloc := none } } := by
  unfold retryPending
  rw [hq]
  dsimp only
  rw [h]

theorem retryPending_of_failed {s : State} {q : CaptureRequest} (hq : s.mem.pendingAlloc = some q) (h : allocate q s = (s, none)) :
    retryPending s = s := by
  unfold retryPending
  rw [hq]
  dsimp only
  rw [h]

end Sys2Proof.Machine
end

section
/-! PROOF. The retry of a pending allocation that CLEAR_REF sets going, and the statement on SETTLE_TIMER_EXPIRY. -/

namespace Sys2Proof.Machine

/-- R84: CLEAR_REF of a VALID slot, the owner having left LNK alone. -/
theorem exec_clearRef_of_valid {tag : Byte} {n : Fin 4} {s u : State} (hc : CanTake 0x41 tag [BitVec.ofNat 8 (n.val + 1)] s)
    (hst : s.mem.refs[n].state = .valid) (hu : clearRefSlot n (handed s) = u) (hlnk : u.lnk = (handed s).lnk) :
    exec (.clearRef tag [BitVec.ofNat 8 (n.val + 1)]) s = .next (answered 0x41 tag .ok .empty { u with lnk := (taken s).lnk }) := by
  have byte : (BitVec.ofNat 8 (n.val + 1)).toNat = n.val + 1 := by simp; omega
  have slot : clearRefOf tag [BitVec.ofNat 8 (n.val + 1)] (handed s) = reply 0x41 tag .ok .empty (clearRefSlot n (handed s)) :=
    clearRefOf_slot byte tag (s := handed s) hst
  refine (request_of_canTake _ _ _ _ _ hc).trans (congrArg _ (slot.trans ?_))
  rw [← hu] at hlnk ⊢
  exact reply_of_handed hlnk

/-- R73: what the pages of a cleared slot set going. -/
theorem clearRef_retries (tag : Byte) (n : Fin 4) (q : CaptureRequest) (s : State)
    (hc : CanTake 0x41 tag [BitVec.ofNat 8 (n.val + 1)] s) (hq : s.mem.pendingAlloc = some q)
    (hst : s.mem.refs[n].state = .valid) (hrender : s.mem.refs[n].pinRender = false) (htransfer : s.mem.refs[n].pinTransfer = false)
    (hpages : s.mem.refs[n].pages ≠ []) (hpass : s.rnd.pass.isSome = true) :
    (pagesForRequest q ≤ (s.mem.pool ++ sortAsc s.mem.refs[n].pages).length → s.mem.table.length < 1024 → q.p ≠ 0 →
      ∃ (t : State) (seq : Nat), exec (.clearRef tag [BitVec.ofNat 8 (n.val + 1)]) s = .next (answered 0x41 tag .ok .empty t) ∧
        t.acq = { s.acq with state := .preFill, ctx := some (newContext q seq) } ∧ t.mem.pendingAlloc = none ∧
        t.mem.pool = (s.mem.pool ++ sortAsc s.mem.refs[n].pages).drop (pagesForRequest q) ∧
        condEntry .starved t = condEntry .starved s) ∧
    ((s.mem.pool ++ sortAsc s.mem.refs[n].pages).length < pagesForRequest q ∨ 1024 ≤ s.mem.table.length →
      (∀ x ∈ s.mem.table, x.state = .complete → unpinned x = false) →
      ∃ t, exec (.clearRef tag [BitVec.ofNat 8 (n.val + 1)]) s = .next (answered 0x41 tag .ok .empty t) ∧ t.acq = s.acq ∧
        t.mem.pendingAlloc = some q ∧ t.mem.pool = s.mem.pool ++ sortAsc s.mem.refs[n].pages ∧ t.mem.table = s.mem.table) := by
  have retries := clearRefSlot_retries (n := n) (s := handed s) hrender htransfer hpages hpass
  have pending : (slotReleased n (handed s)).mem.pendingAlloc = some q := hq
  refine ⟨fun hpool htable hp => ?_, fun hshort held => ?_⟩
  · have allocated := allocate_eq_of_room (q := q) (s := slotReleased n (handed s)) hpool htable
    rw [retryPending_of_some pending allocated, enterPreFill_of_p hp] at retries
    exact ⟨_, _, exec_clearRef_of_valid hc hst retries rfl, rfl, rfl, rfl, rfl⟩
  · have failed := allocate_eq_of_none (q := q) (s := slotReleased n (handed s)) hshort (oldestReclaimable_none held)
    rw [retryPending_of_failed pending failed] at retries
    exact ⟨_, exec_clearRef_of_valid hc hst retries rfl, rfl, pending, rfl, rfl⟩

/-- Settles O32: the settle expiry by the outcome of its allocation, and the retry that a release sets going. -/
theorem settledFrontEndAllocatesASegment : Obligations.SettledFrontEndAllocatesASegment := by
  refine ⟨fun d s hup hd hst => ⟨fun hpool htable hready => ?_, fun a rest r => settle_of_reclaim hup hd hst, settle_of_none hup hd hst⟩,
    fun tag n q s hc _ hq hvalid hrender htransfer hpages hpass => ?_⟩
  · obtain ⟨t, next, settle, mem, ctx, pre, ready⟩ := settle_of_room hup hd hst hpool htable hready
    obtain ⟨pages, lengths⟩ := newSegment_spec (seq := nextSeq s) hpool
    unfold allocatedMem at mem
    rw [pagesForRequest_captureRequest] at mem
    exact ⟨t, _, next, settle, by rw [mem], by rw [mem], by rw [mem], pages, lengths, rfl, rfl, rfl, rfl, rfl, nextSeq_fresh htable,
      nextSeq_of_free, ctx, pre, ready⟩
  · obtain ⟨succeeds, fails⟩ := clearRef_retries tag n q s hc hq hvalid hrender htransfer hpages hpass
    refine ⟨fun hroom htable hp => ?_, fails⟩
    obtain ⟨t, seq, next, acq, pending, pool, entry⟩ := succeeds hroom htable hp
    exact ⟨t, seq, next, acq, pending, pool, (congrArg Option.isSome pending).trans rfl, entry⟩

end Sys2Proof.Machine
end
